-- ==== Sys2Proof/Word.lean ====
section
/-! DEFINITION. The words of the device: 32-bit registers (R249), bytes, and tables keyed by number. -/

namespace Sys2Proof

/-- A register word (R249). -/
abbrev Word := BitVec 32

/-- A byte of a frame, an entry or a block (R9). -/
abbrev Byte := BitVec 8

/-- A sparse table keyed by number, keys strictly rising; a key that is not listed has the table's default. -/
abbrev Tbl (α : Type) := List (Nat × α)

end Sys2Proof
end

