-- ==== Sys2Proof/Syntax.lean ====
section
/-! DEFINITION. The commands and events that act on the TU-9640, one constructor per row of the table of operations,
with the operands that come from outside the device. The rows that execute a fetched command carry the source whose
turn it is: the command's parameters stand in the 64-byte entry that ENTRY_FETCH, an in-band frame or the start-up list
brought into the state (R225, R231, R232). Where the command moves data over PCIe, an operand tells what the transfer brought,
or whether it succeeded (R234). -/

namespace Sys2Proof

/-- Where a command entry comes from (R237, R345). -/
inductive Source where
  | ring (r : Nat)
  | inband
  | list
  deriving DecidableEq, Repr

/-- A party whose register accesses the device tells apart (R248, Table 11-1); each SA of an in-band command is its own. -/
inductive Requester where
  | host
  | ring (r : Nat)
  | inband (sa : Nat)
  | smbus
  deriving DecidableEq, Repr

/-- What the PCIe transfers of one ring bring (R225, R228): the 64 bytes of the next entry, or an error. -/
inductive FetchDma where
  | entry (bytes : List Byte)
  | fetchError
  | completionError
  deriving DecidableEq, Repr

/-- A memory write TLP to BAR0 (R249 to R251), or to a dword of BAR2 (R267). -/
inductive WriteTlp where
  | one (off : Nat) (be : BitVec 4) (val : Word)
  | two (off : Nat) (be0 : BitVec 4) (val0 : Word) (be1 : BitVec 4) (val1 : Word)
  | long (off : Nat)
  | poisoned (off : Nat)
  | bar2 (off : Nat) (be : BitVec 4) (val : Word)
  deriving DecidableEq, Repr

/-- A memory read TLP to BAR0 (R249, R251), or of a dword of BAR2 (R267). -/
inductive ReadTlp where
  | one (off : Nat) (be : BitVec 4)
  | two (off : Nat) (be0 be1 : BitVec 4)
  | long (off : Nat)
  | bar2 (off : Nat) (be : BitVec 4)
  deriving DecidableEq, Repr

/-- The line header of Table 9-7; `tagged` tells that an 802.1Q tag stands before the EtherType (R208). -/
structure LineHeader where
  version   : Nat
  msgType   : Nat
  lineId    : Nat
  device    : Nat
  group     : Nat
  firstSlot : Nat
  count     : Nat
  k         : Nat
  tagged    : Bool
  deriving DecidableEq, Repr

/-- A feedback record, Table 8-10. -/
structure FbRecord where
  actPos   : BitVec 64
  appliedK : Nat
  ready    : Bool
  drvFault : Bool
  rxValid  : Bool
  rxNs     : Nat
  deriving DecidableEq, Repr

/-- A received feedback frame with its ingress port (R206, R210). -/
structure FeedbackFrame where
  port   : Nat
  header : LineHeader
  recs   : List FbRecord
  deriving DecidableEq, Repr

/-- A shaft-state record, Table 7-7; the position is POS followed by POS_EXT, 80 bits. -/
structure ShaftRecord where
  id        : Nat
  state     : Nat
  sub       : Nat
  atTarget  : Bool
  stopTaken : Bool
  owner     : Nat
  k         : Nat
  pos       : Nat
  v         : Int
  a         : Int
  remAcc    : Nat
  tgtNum    : Nat
  tgtDen    : Nat
  trimStep  : Int
  deriving DecidableEq, Repr

/-- A received shaft-state frame (R211). -/
structure ShaftFrame where
  port   : Nat
  header : LineHeader
  recs   : List ShaftRecord
  deriving DecidableEq, Repr

/-- A received in-band command frame: ingress port and class, sender, and the bytes from the first byte of the line header
to the last byte of MAC (R220, R221; Tables 9-7 and 9-13). -/
structure InBandFrame where
  port : Nat
  cls  : Nat
  sa   : Nat
  body : List Byte
  deriving DecidableEq, Repr

/-- An egress report, Table 9-5: EGRESS_TS as received (48 bits) with its fraction; `checkOk` tells whether CHECK matched (R207). -/
structure EgressReport where
  seq     : Nat
  port    : Nat
  status  : Nat
  ts      : Nat
  tsFrac  : Nat
  checkOk : Bool
  deriving DecidableEq, Repr

/-- A TIME_ECHO unit (R206, R213): T2 and T3 as received (48-bit nanoseconds and fraction) and the number of the unit answered. -/
structure TimeEcho where
  t2      : Nat
  t2Frac  : Nat
  t3      : Nat
  t3Frac  : Nat
  syncSeq : Nat
  deriving DecidableEq, Repr

/-- The PTP messages of Table 5-3. -/
inductive PtpKind where
  | sync | followUp | delayReq | delayResp | pdelayReq | pdelayResp | pdelayRespFollowUp | announce | signaling | management
  deriving DecidableEq, Repr

/-- The attributes by which the best-master algorithms compare clocks (Table 5-3: default BMCA of IEEE 1588-2019, and the gPTP BMCA). -/
structure PtpDataset where
  priority1    : Nat
  clockClass   : Nat
  accuracy     : Nat
  variance     : Nat
  priority2    : Nat
  gmIdentity   : Nat
  stepsRemoved : Nat
  sender       : Nat
  deriving DecidableEq, Repr

/-- The gPTP message interval request TLV (Table 5-3): the three intervals as log2 of seconds, -128 for no change, 126 for the initial one and 127 for
stop, and whether the receiver is to compute the neighbour's rate and the mean link delay. -/
structure IntervalRequest where
  linkDelay    : Int
  timeSync     : Int
  announce     : Int
  computeRate  : Bool
  computeDelay : Bool
  deriving DecidableEq, Repr

/-- A received PTP message (R212): its port, kind, sequence number, TS and TS_FRAC of its ingress header (Table 9-4), the time it carries in 2^-16 ns
of ToD, its correction in 2^-16 ns, its length in bytes and traffic class, and for an Announce the attributes it carries.
`domain` is the domainNumber; `twoStep` the two-step flag of a Sync or Pdelay_Resp; `sender` and `requesting` the sourcePortIdentity and the
requestingPortIdentity; `rate` the cumulativeScaledRateOffset of a gPTP Follow_Up, in 2^-41; `interval` the message interval request TLV of a Signaling. -/
structure PtpMessage where
  port       : Nat
  cls        : Nat
  bytes      : Nat
  kind       : PtpKind
  domain     : Nat
  seq        : Nat
  twoStep    : Bool
  ts         : Nat
  tsFrac     : Nat
  stamp      : Nat
  correction : Int
  sender     : Nat
  requesting : Nat
  rate       : Int
  interval   : Option IntervalRequest
  dataset    : PtpDataset
  deriving DecidableEq, Repr

/-- One band as BAND_SURVEY measures it (R33): lowest and highest frequency in kHz, or no measurement. -/
structure BandMeasure where
  ok  : Bool
  fLo : Nat
  fHi : Nat
  deriving DecidableEq, Repr

/-- What compute had not finished at compute complete, and when compute ended in ns after T0 (R131, R134, R160). -/
structure ComputeWork where
  followersLeft : List Nat
  shaftsLeft    : List Nat
  endNs         : Nat
  deriving DecidableEq, Repr

/-- What the SFDP tables of the boot flash report (R341): its capacity in Mbit, and whether it reads in 1-4-4 DTR and in 1-4-4. -/
structure FlashInfo where
  mbit    : Nat
  quadDtr : Bool
  quad    : Bool
  deriving DecidableEq, Repr

/-- An edge that an output would make: `half` is the half period that it would end, in fs (R75). -/
structure GuardPulse where
  out  : Nat
  half : Nat
  deriving DecidableEq, Repr

/-- What the controller answers while the store is brought up (R307): namespace 1 present, its LBA format right, its size
in LBAs, a volatile write cache present, and disabling it refused; and the link that was trained. -/
structure NvmeIdent where
  nsPresent : Bool
  formatOk  : Bool
  nsze      : Nat
  cache     : Bool
  refused   : Bool
  gts       : Nat
  width     : Nat
  deriving DecidableEq, Repr

/-- A marked task step (R329). -/
structure StepSample where
  core        : Nat
  addr        : Word
  length      : Nat
  tag         : Word
  level       : Nat
  causeCycles : Nat
  deriving DecidableEq, Repr

/-- Why a received frame is discarded whole (R199, R203, R206, R208). -/
inductive DiscardCause where
  | badFcs | oversize | notCarriage | headerCheck | unknownType | lineHeader | pauseFrame
  deriving DecidableEq, Repr

/-- What happens on the test access port (R366): a rising edge of TCK with TMS and TDI, or a level of TRST_N. -/
inductive TapOp where
  | tck (tms tdi : Bool)
  | trst (low : Bool)
  deriving DecidableEq, Repr

/-- The commands and events of the block: one constructor per row of spec/opcode_table.json. -/
inductive Instr where
  /-- Command that does nothing and completes with RESULT 0. (R245) -/
  | nop (src : Source)
  /-- Returns part number, stepping, firmware release, device number and mode. (R3) -/
  | getInfo (src : Source)
  /-- Requests a mode transition and completes when the new mode is in force or with BUSY, MODE or STATE. (R245) -/
  | modeRequest (src : Source)
  /-- Returns the CRC-32 over a BAR0 range, optionally over live RWP copies. (R245) -/
  | configDigest (src : Source)
  /-- Makes one 32-bit register read with in-band requester rights. (R245) -/
  | regRead (src : Source)
  /-- Makes one 32-bit register write with in-band requester rights, completing GUARD if a guard discards it. (R245) -/
  | regWrite (src : Source)
  /-- Binds an output to a new synthesis channel and returns its handle. (R65) -/
  | chCreate (src : Source)
  /-- Frees a channel, puts its output in high impedance and advances the handle generation. (R69) -/
  | chDestroy (src : Source)
  /-- Writes source, path, divider word, format, bypass and phase settings of a channel. (R58) -/
  | chConfig (src : Source)
  /-- Arms a channel to start at boundary K or as soon as its MS is settled. (R67) -/
  | chStart (src : Source)
  /-- Stops a channel at boundary K or at once. (R68) -/
  | chStop (src : Source)
  /-- Sets a new phase target and optionally the slew rate, completing when it becomes live. (R63) -/
  | chPhase (src : Source)
  /-- Returns the state, sub-state, words in force and applied phase of a channel. (R246) -/
  | chStatus (src : Source) (dmaOk : Bool)
  /-- Returns the handle bound to an output or 0. (R65) -/
  | chQuery (src : Source)
  /-- Writes the frequency word, prescaler, modulator and spread settings of a disabled MS. (R28) -/
  | msConfig (src : Source)
  /-- Selects a band and starts acquisition of an MS, completing on LOCKED. (R31) -/
  | msStart (src : Source)
  /-- Disables an MS when no channel on it runs. (R56) -/
  | msStop (src : Source)
  /-- Starts measuring all 64 bands of a disabled MS. (R33) -/
  | bandSurvey (src : Source)
  /-- Writes up to 16 ramp segments of an MS. (R52) -/
  | msRampLoad (src : Source) (dma : Option (List Byte))
  /-- Arms the loaded ramp profile to start at boundary K. (R53) -/
  | msRampStart (src : Source)
  /-- Stops a running ramp and holds the frequency reached. (R54) -/
  | msRampAbort (src : Source)
  /-- Binds a REFIN monitor to its nominal frequency and returns a handle. (R41) -/
  | refMonCreate (src : Source)
  /-- Unbinds a reference monitor; DPLLs using it treat it as failed. (R42) -/
  | refMonDestroy (src : Source)
  /-- Buffered change of DPLL mode, priorities, bandwidths and limits. (R43) -/
  | dpllConfig (src : Source)
  /-- Makes a manual reference selection. (R43) -/
  | dpllSelect (src : Source)
  /-- Sets or clears FORCE_HOLDOVER. (R51) -/
  | dpllHoldover (src : Source)
  /-- Returns the holdover model coefficients and learned time. (R49) -/
  | holdModelGet (src : Source) (dmaOk : Bool)
  /-- Restores a holdover model, which counts as learned at once. (R49) -/
  | holdModelSet (src : Source)
  /-- Steps ToD to a given value at the next boundary outside the apply window. (R107) -/
  | timeSet (src : Source)
  /-- Slews or steps ToD by a signed offset. (R106) -/
  | timeAdjust (src : Source)
  /-- Captures ToD, tick index, operating time, PCC and time status at one instant. (R102) -/
  | timeGet (src : Source) (dmaOk : Bool)
  /-- Sets a new line epoch, taking effect at the end of the tick in progress via a transitional tick. (R115) -/
  | timeEpochSet (src : Source)
  /-- Buffered change of PTP profile, domain, priorities, classes and intervals. (R117) -/
  | ptpConfig (src : Source)
  /-- Buffered change of one PTP port's enable, delay mechanism, asymmetry and external state. (R117) -/
  | ptpPortConfig (src : Source)
  /-- Returns a PTP port's state, path delay, parent identity and offset. (R246) -/
  | ptpStatus (src : Source) (dmaOk : Bool)
  /-- Buffered change of PPS enables, edge, delays and width. (R113) -/
  | ppsConfig (src : Source)
  /-- Returns the tick index, period, schedule settings and tick status. (R142) -/
  | tickStatus (src : Source) (dmaOk : Bool)
  /-- Arms a change of tick period at boundary K, or applies it at once when the tick is not running. (R127) -/
  | tickPeriodSet (src : Source)
  /-- Buffered change of the schedule settings, checked against the current period. (R130) -/
  | tickSchedSet (src : Source)
  /-- Waits for boundary K and returns its ToD. (R142) -/
  | tickWait (src : Source)
  /-- Creates a local or mirror shaft and returns its handle. (R161) -/
  | shaftCreate (src : Source)
  /-- Frees a shaft with no bound followers. (R151) -/
  | shaftDestroy (src : Source)
  /-- Sets profiles, target, trim rate, ID and policies of a non-moving shaft, with optional preset. (R155) -/
  | shaftConfig (src : Source)
  /-- Arms a shaft start at boundary K. (R152) -/
  | shaftStart (src : Source)
  /-- Arms a controlled or quick stop of a shaft at boundary K. (R154) -/
  | shaftStop (src : Source)
  /-- Buffered change of a shaft's speed target. (R155) -/
  | shaftSpeed (src : Source)
  /-- Buffered change of a shaft's trim and trim rate. (R155) -/
  | shaftTrim (src : Source)
  /-- Arms a new speed target for boundary K. (R158) -/
  | shaftRetune (src : Source)
  /-- Returns the status window of a shaft. (R246) -/
  | shaftStatus (src : Source) (dmaOk : Bool)
  /-- Allocates contiguous profile segments and returns a profile handle. (R146) -/
  | profCreate (src : Source)
  /-- Frees an unassigned profile. (R147) -/
  | profDestroy (src : Source)
  /-- Writes profile segments and checks the profile is well-formed. (R147) -/
  | profLoad (src : Source) (dma : Option (List Byte))
  /-- Copies a profile's segments to host memory. (R146) -/
  | profRead (src : Source) (dmaOk : Bool)
  /-- Creates a follower with zero geared position and default limits. (R171) -/
  | folCreate (src : Source)
  /-- Frees a follower and its slot. (R169) -/
  | folDestroy (src : Source)
  /-- Structural change of a follower's shaft, gearing, cam, group, slot and port. (R191) -/
  | folConfig (src : Source)
  /-- Arms a follower start at boundary K with ALIGN and HOLD_SETPOINT options. (R189) -/
  | folStart (src : Source)
  /-- Arms a follower stop at boundary K. (R190) -/
  | folStop (src : Source)
  /-- Buffered change of a follower's offset target and rate. (R172) -/
  | folOffset (src : Source)
  /-- Buffered change of warn and trip windows, miss limit and trip reaction. (R183) -/
  | folLimits (src : Source)
  /-- Takes a TRIPPED follower back to ACQUIRING or SUSPENDED at the next boundary. (R185) -/
  | folClear (src : Source)
  /-- Returns a follower's window, geared position, gearing, offsets and counters. (R246) -/
  | folStatus (src : Source) (dmaOk : Bool)
  /-- Allocates cam points and a lift, returning a cam handle. (R177) -/
  | camCreate (src : Source)
  /-- Frees a cam curve no follower uses. (R180) -/
  | camDestroy (src : Source)
  /-- Writes cam points while every user of the curve is quiesced. (R180) -/
  | camLoad (src : Source) (dma : Option (List Byte))
  /-- Copies a cam curve's points and lift to host memory. (R197) -/
  | camRead (src : Source) (dmaOk : Bool)
  /-- Creates a publication group and returns its handle. (R194) -/
  | grpCreate (src : Source)
  /-- Frees a group with no members. (R194) -/
  | grpDestroy (src : Source)
  /-- Sets a group's port mask, traffic class and latency mode. (R194) -/
  | grpConfig (src : Source)
  /-- Buffered change of a group's LATENCY and LAT_MARGIN. (R176) -/
  | grpLatency (src : Source)
  /-- Returns a group's members, latency, path delay and misses. (R246) -/
  | grpStatus (src : Source) (dmaOk : Bool)
  /-- Requests a host calibration run on an MS, completing when the run ends. (R85) -/
  | calRun (src : Source)
  /-- Ends a calibration run in progress or cancels a pending one. (R90) -/
  | calAbort (src : Source)
  /-- Returns the calibration status, result and quality of an MS. (R98) -/
  | calStatus (src : Source)
  /-- Snapshots the calibration and starts writing it to the target QSPI slot. (R94) -/
  | calSave (src : Source)
  /-- Loads coefficients and band tables from a valid calibration slot. (R97) -/
  | calRestore (src : Source)
  /-- Returns validity, GEN, PCC and OPTIME of a calibration slot. (R98) -/
  | calSlotInfo (src : Source)
  /-- Copies event records from the Sand area, Clay area or store event region to host memory. (R300) -/
  | evtRead (src : Source) (dmaOk : Bool)
  /-- Returns the record store state and layout block. (R317) -/
  | storeInfo (src : Source) (dmaOk : Bool)
  /-- Writes a new format by two superblock updates and deallocates the regions. (R308) -/
  | storeFormat (src : Source)
  /-- Creates a recorder stream and returns its handle. (R302) -/
  | streamCreate (src : Source)
  /-- Frees a recorder stream, leaving its segments. (R318) -/
  | streamDestroy (src : Source)
  /-- Sets a stream's mode, decimation, follower range and window lengths. (R302) -/
  | streamConfig (src : Source)
  /-- Arms a stream start at boundary K while the store is READY. (R302) -/
  | streamStart (src : Source)
  /-- Arms a stream stop at boundary K, completing when its last segment is closed. (R302) -/
  | streamStop (src : Source)
  /-- Triggers a running stream, forming or dropping a preserved window. (R305) -/
  | streamTrigger (src : Source)
  /-- Copies read blocks of a stream's trace to host memory. (R316) -/
  | storeRead (src : Source) (dmaOk : Bool)
  /-- Writes the fault record block to host memory. (R290) -/
  | fltRead (src : Source) (dmaOk : Bool)
  /-- Command that acknowledges the fault record being handled. (R279) -/
  | fltAck (src : Source)
  /-- Sets the reaction of a source for class C or U. (R275) -/
  | fltReaction (src : Source)
  /-- Sets the force bit of a source and kind in TEST with FORCE mode. (R286) -/
  | fltInject (src : Source)
  /-- Clears the force bit of one source or all sources. (R290) -/
  | fltInjectClear (src : Source)
  /-- Queues a power domain switch and completes when it completes. (R333) -/
  | pwrDomainSet (src : Source)
  /-- Returns the domain-on mask, total power and hottest sensor. (R351) -/
  | pwrStatus (src : Source)
  /-- Arms a consistent snapshot at boundary K. (R247) -/
  | snapCapture (src : Source)
  /-- Copies a snapshot image to host memory. (R247) -/
  | snapRead (src : Source) (dmaOk : Bool)
  /-- Frees a snapshot and advances its generation. (R247) -/
  | snapRelease (src : Source)
  /-- Arms a barrier start of all participating shafts at K. (R158) -/
  | lineStartAll (src : Source)
  /-- Arms a barrier stop of all participating shafts at K. (R158) -/
  | lineStopAll (src : Source)
  /-- The device fetches a submission entry once it can reserve a completion slot. (R226) -/
  | entryFetch (ring : Nat) (dma : FetchDma)
  /-- Host doorbell write of a submission ring tail. (R225) -/
  | cmdSqTail (ring : Nat) (be : BitVec 4) (val : Word)
  /-- Host write of a completion ring head, freeing completion slots. (R225) -/
  | cmdCqHead (ring : Nat) (be : BitVec 4) (val : Word)
  /-- Write of CMD_CTRL.RING_EN enabling or draining ring pairs. (R229) -/
  | ringEn (be : BitVec 4) (val : Word)
  /-- A disabled ring's last command completes and DRAINING clears. (R229) -/
  | ringDrained (ring : Nat)
  /-- An in-band command frame is authenticated and queued or rejected. (R221) -/
  | inBandCommandFrame (frame : InBandFrame)
  /-- A write to a register with no row of its own takes effect by access code and mode. (R254) -/
  | registerWrite (req : Requester) (tlp : WriteTlp)
  /-- An open guarded pair not completed within 1 ms is discarded. (R258) -/
  | guardPairTimeout (req : Requester)
  /-- Completed guarded pair requesting a mode transition. (R269) -/
  | glbModeReq (req : Requester) (compl : Word)
  /-- Completed guarded pair with WARM = 1 starting a warm reset. (R346) -/
  | glbSoftReset (req : Requester) (compl : Word)
  /-- The short form of step 5 ends and the device enters CONFIGURE. (R346) -/
  | warmResetDone
  /-- Completed guarded pair requesting a domain switch on or off. (R333) -/
  | pwrDomainCtrl (req : Requester) (compl : Word)
  /-- Completed guarded pair selecting the injection mechanism. (R285) -/
  | fltInjMode (req : Requester) (compl : Word)
  /-- FLT_INJ_CTRL operation setting a force bit and sending one injected message. (R286) -/
  | forceSet (req : Requester) (source kind : Nat)
  /-- FLT_INJ_CTRL operation clearing one force bit. (R286) -/
  | forceClear (req : Requester) (source kind : Nat)
  /-- FLT_INJ_CTRL operation clearing every force bit. (R286) -/
  | forceClearAll (req : Requester)
  /-- FLT_INJ_CTRL operation arming check-bit corruption on a target. (R287) -/
  | cbArm (req : Requester)
  /-- FLT_INJ_CTRL operation abandoning corruptions not yet made. (R287) -/
  | cbCancel (req : Requester)
  /-- Write of FLT_ACK.ACK = 1 ending fault handling. (R279) -/
  | fltAckWrite (req : Requester) (be : BitVec 4) (val : Word)
  /-- Completed guarded pair deallocating every LBA of the store. (R315) -/
  | storeErase (req : Requester) (compl : Word)
  /-- Completed guarded pair starting erasure of the Clay area. (R299) -/
  | evtClayClear (req : Requester) (compl : Word)
  /-- The Clay erase completes and CLAY_CLEARED is written to slot 0. (R299) -/
  | clayClearDone (ok : Bool)
  /-- Completed guarded pair writing a key word by the privileged function. (R223) -/
  | linkKey (req : Requester) (slot word : Nat) (compl : Word)
  /-- Completed guarded pair setting key slot validity. (R223) -/
  | linkKeyCtrl (req : Requester) (compl : Word)
  /-- Write of TIME_CAP_CTRL.CAPTURE latching the capture registers. (R102) -/
  | capture (req : Requester) (be : BitVec 4) (val : Word)
  /-- Write of MSn_CTRL.EN starting or stopping an MS as its commands do. (R56) -/
  | msCtrlEn (req : Requester) (ms : Nat) (be : BitVec 4) (val : Word)
  /-- Write of MSn_RAMP_CTRL.START starting the ramp profile. (R53) -/
  | msRampCtrlStart (req : Requester) (ms : Nat) (be : BitVec 4) (val : Word)
  /-- Write of MSn_RAMP_CTRL.ABORT aborting the ramp. (R54) -/
  | msRampCtrlAbort (req : Requester) (ms : Nat) (be : BitVec 4) (val : Word)
  /-- Write of OUTn_CTRL.EN acting as CH_START or CH_STOP. (R65) -/
  | outCtrlEn (req : Requester) (out : Nat) (be : BitVec 4) (val : Word)
  /-- Write of LINK_CTRL.EN starting the link or taking it down as a requested shutdown. (R200) -/
  | linkCtrlEn (req : Requester) (be : BitVec 4) (val : Word)
  /-- Write of STORE_CTRL.EN bringing the store up or closing it. (R307) -/
  | storeCtrlEn (req : Requester) (be : BitVec 4) (val : Word)
  /-- 100 ms after STO_REFCLK runs, STO_PERST_N is driven high and training starts. (R307) -/
  | stoPerstN
  /-- Store bring-up completes and the layout is mounted, setting the store state. (R307) -/
  | storeMounted (ident : NvmeIdent)
  /-- Write freeing preserved windows. (R305) -/
  | storeRelease (req : Requester) (be : BitVec 4) (val : Word)
  /-- Write of FIELDn_CTRL.EN enabling or disabling a field tick output. (R348) -/
  | fieldCtrlEn (req : Requester) (field : Nat) (be : BitVec 4) (val : Word)
  /-- Write clearing all Newt core counters in one cycle. (R328) -/
  | cntClear (req : Requester) (be : BitVec 4) (val : Word)
  /-- Write of SAMP_EN restarting step sampling with MGMT_SAMP_WR at 0. (R329) -/
  | sampEn (req : Requester) (be : BitVec 4) (val : Word)
  /-- Write of DBG_CHECK.START starting a checker test. (R291) -/
  | checkerTest (req : Requester) (be : BitVec 4) (val : Word)
  /-- A checker test ends and sets DONE, PASS, MISSED and FALSE. (R291) -/
  | checkerTestDone (missed falseFlags : Nat)
  /-- An SMBus block process call reads one register under R266. (R363) -/
  | smbusProcessCall (code : Nat) (bytes : List Byte) (readExtra : Bool)
  /-- The device releases the bus after 25 ms of SCL held low. (R363) -/
  | smbusTimeout
  /-- The internal power-on reset sees the core supplies in range for 1 ms and start-up begins. (R334) -/
  | powerGood (rstHigh : Bool) (bootSel : Nat)
  /-- VDD_CORE falls below its range and every output goes to high impedance. (R334) -/
  | supplyFall
  /-- RST_N low for 1 µs or more resets the whole device. (R365) -/
  | rstNAssert (lowNs : Nat)
  /-- RST_N rises, BOOT_SEL is sampled and start-up runs from step 2. (R365) -/
  | rstNRelease (bootSel : Nat)
  /-- PERST_N assertion resets the host endpoint and disables the rings. (R346) -/
  | perstN (lowNs : Nat)
  /-- The host endpoint link leaves L0/L1 for Detect or Recovery fails. (R362) -/
  | hpeLinkDown
  /-- Start-up step 1 ends when the analogue and link rails are in range. (R344) -/
  | railCheck (good : BitVec 17)
  /-- Start-up step 2 releases the internal reset. (R344) -/
  | resetRelease
  /-- Start-up step 3 ends when the firmware image is copied to bank D; `flash` is what the flash tells of itself, none where it cannot be read. (R344) -/
  | imageCopy (flash : Option FlashInfo)
  /-- Start-up step 4 verifies the image signature and starts the cores, or retries the other slot; `header` and `body` are what the slot holds, none
  where it cannot be read. (R324) -/
  | signatureCheck (header body : Option (List Byte))
  /-- Start-up step 5 ends with SRAM initialised, configuration checked, calibration loaded and REGS_READY set; the operands are the boot
  configurations, none where a read of the flash in this step fails. (R343, R344) -/
  | sramInitialisation (cfgA cfgB : Option (List Byte))
  /-- Start-up step 6 ends when the core PLL locks and the core clock switches to it. (R344) -/
  | corePllLock
  /-- Start-up step 7 ends when domains are on, surveys run and the list is executed. (R345) -/
  | startUpList
  /-- Start-up step 8 ends when every monitor is VALID or REF_WAIT_MS passes. (R344) -/
  | referenceQualification
  /-- Start-up step 9 ends when TIME_VALID is 1 or TIME_WAIT_MS passes. (R344) -/
  | timeAcquisition
  /-- Start-up step 10 ends when START runs end or defer, or CAL_WAIT_MS passes. (R344) -/
  | initialCalibration
  /-- No OSCIN edge for 8 ring periods: clock-loss cascade and CLK OSCIN_LOST. (R340) -/
  | oscinLost
  /-- OSCIN active for 10 ms counts as returned and clocks move back to it. (R340) -/
  | oscinReturned
  /-- Core PLL lock loss switches the core clock to OSCIN bypass. (R339) -/
  | corePllLost
  /-- The core PLL has stayed locked 1 ms and the core clock returns to it. (R339) -/
  | corePllRelocked
  /-- A rail below 92 % of nominal for 20 µs sends PWR RAIL_UV. (R335) -/
  | railUv (rail mv mw : Nat)
  /-- A rail above 110 % of nominal for 20 µs sends PWR RAIL_OV, class F. (R335) -/
  | railOv (rail mv mw : Nat)
  /-- A temperature sensor completes a conversion every 250 µs. (R336) -/
  | tempConversion (sensor : Nat) (reading : Int)
  /-- A valid sensor above TEMP_HIGH for 10 ms sends PWR TJ_HIGH. (R336) -/
  | tjHigh (sensor : Nat)
  /-- A valid sensor above 125 °C for 1 ms sends PWR TJ_CRIT, class F. (R336) -/
  | tjCrit (sensor : Nat)
  /-- The next queued domain switch starts 20 µs after the previous one, judged against its condition. (R332) -/
  | domainSwitchStart
  /-- A domain switch completes on power good or open switch. (R332) -/
  | switchDone
  /-- A switch-on without power good within 50 µs leaves the domain off. (R332) -/
  | switchFail
  /-- A bank supply reading changes after staying 100 µs in its new window. (R358) -/
  | vddoLevel (bank mv : Nat)
  /-- An MS meets its lock window for LOCK_CNT comparisons and becomes LOCKED. (R34) -/
  | lockGained (ms : Nat) (phErr : Int)
  /-- An MS loses lock, sending MSn LOCK_LOST and switching its outputs toward bypass. (R35) -/
  | lockLost (ms : Nat) (slip : Bool) (phErr : Int)
  /-- An MS not locked within 5 ms of MS_START completes it with TIMEOUT. (R35) -/
  | msStartTimeout (ms : Nat)
  /-- After 5 ms without lock, an auto-reacquiring MS reruns band selection once. (R36) -/
  | reacqTimeout (ms : Nat)
  /-- An MS locked for MS_SETTLE returns its automatic outputs from bypass. (R38) -/
  | msSettle (ms : Nat)
  /-- A glitch-free switch between two clocks completes at the new clock's edges. (R72) -/
  | bypassSwitchDone (out : Nat)
  /-- An old clock without a falling edge within its high time takes the output to idle. (R72) -/
  | highTimeLimit (out : Nat)
  /-- An output edge earlier than the guard minimum is delayed, counted and reported. (R75) -/
  | outGuard (pulse : GuardPulse)
  /-- A band survey completes, rewriting the band table with its VALID count. (R33) -/
  | surveyDone (ms : Nat) (bands : List BandMeasure)
  /-- A ramp segment's dwell ends and the next segment starts. (R52) -/
  | rampSegmentEnd (ms : Nat)
  /-- An MS ramp profile completes and raises RAMP_DONE. (R54) -/
  | rampDone (ms : Nat)
  /-- A K = 0 channel starts once its MS has been LOCKED for CH_SETTLE. (R67) -/
  | channelStart (out : Nat)
  /-- An MS not ready within 10 ms returns an ARMED channel to CONFIGURED with TIMEOUT. (R67) -/
  | chStartTimeout (out : Nat)
  /-- A stopping output reaches idle at its falling edge and the channel becomes STOPPED. (R68) -/
  | channelStopped (out : Nat)
  /-- An output's applied phase reaches its target and SLEWING clears. (R63) -/
  | phaseSlewDone (out : Nat)
  /-- No REFIN edge within ACT_TIMEOUT half periods sends the monitor to INVALID. (R42) -/
  | activityFail (refin : Nat)
  /-- A reference frequency gate ends and the monitor state is updated. (R42) -/
  | frequencyGate (refin : Nat) (ppb : Int)
  /-- DPLL reference selection is evaluated on monitor change and at least every millisecond. (R43) -/
  | referenceSelection (ms : Nat)
  /-- After 16 comparisons within the window the DPLL narrows to its final bandwidth. (R47) -/
  | dpllNarrow (ms : Nat) (phErr : Int)
  /-- A DPLL meets its lock criterion for DPLL_LOCK_CNT comparisons. (R47) -/
  | dpllLocked (ms : Nat) (phErr : Int)
  /-- A correction beyond STEER_LIMIT holds STEER and sends MSn STEER_LIMIT. (R48) -/
  | steerLimit (ms : Nat) (correction : Int)
  /-- A DPLL LOCKED for LEARN_MIN minutes sets MODEL_VALID. (R49) -/
  | modelValid (ms : Nat)
  /-- EXT_TEMP not refreshed for 5 s makes the die sensor used and sets EXTRAP. (R49) -/
  | extTempTimeout (ms : Nat)
  /-- 1,024 samples accumulate and firmware computes an LMS update into the pending copy; `steps` is what the sums ask of the
  coefficients of the stage, by output in the DTC stage and under 0 in the others. (R79) -/
  | calUpdate (ms : Nat) (steps : List (Nat × Int))
  /-- Firmware's 1 ms temperature comparison may trigger a calibration run. (R84) -/
  | tempTrigger (ms : Nat)
  /-- Firmware re-checks a deferred run's preconditions every 1 ms. (R87) -/
  | precondCheck (ms : Nat)
  /-- A run still in progress 4.0 s after starting is aborted. (R90) -/
  | calRunTimeout (ms : Nat)
  /-- The flash erase, program and read-back of a save finish and MARK is programmed. (R94) -/
  | calSaveComplete (readBackOk : Bool)
  /-- A flash operation exceeding twice its SFDP maximum fails the save with CAL SAVE_FAIL. (R94) -/
  | flashTimeout
  /-- A tick boundary opens and its actions run in the order of Table 6-4. (R137) -/
  | tickBoundary
  /-- The feedback cutoff deadline of a tick is checked. (R131) -/
  | feedbackCutoff (unevaluated : List Nat)
  /-- At the compute-start point shafts advance and followers are computed and published. (R144) -/
  | computeStart
  /-- A mirror without records for MISS_LIMIT ticks quick-stops and sends SHAFT MIRROR_LOST. (R164) -/
  | mirrorLost (shaft : Nat)
  /-- The compute-complete deadline is checked and follower windows and trace are refreshed. (R131) -/
  | computeComplete (work : ComputeWork)
  /-- Frames not handed over by the publish deadline are discarded. (R131) -/
  | publishDeadline (endNs : Nat)
  /-- The apply window opens and gap-work staging is checked. (R131) -/
  | gapWorkComplete (staged : Bool)
  /-- A handed-over carriage frame is transmitted once its class is not paused. (R209) -/
  | carriageFrameTransmit
  /-- A PTP or in-band response held 10 ms by back-pressure is discarded. (R215) -/
  | backpressureTimeout
  /-- A feedback frame is checked and its records evaluated for lock and path delay. (R210) -/
  | feedbackFrame (frame : FeedbackFrame)
  /-- A follower whose missing-feedback count exceeds MISS_LIMIT trips with cause MISSING. (R183) -/
  | missRun (follower : Nat)
  /-- Eight consecutive good ticks make an ACQUIRING or SLIPPING follower LOCKED. (R183) -/
  | goodRun (follower : Nat)
  /-- After 16 good ticks a RESYNC follower is compared and goes ACQUIRING or TRIPPED. (R188) -/
  | resyncCompare (follower : Nat)
  /-- A MEASURED group's latency is raised, or every 4,096 ticks lowered, to the needed value. (R176) -/
  | latencyUpdate (group : Nat)
  /-- A received shaft-state frame's records are handed to mirrors. (R211) -/
  | shaftStateFrame (frame : ShaftFrame)
  /-- An egress report unit is matched to outstanding frames by SEQ. (R218) -/
  | egressReports (reports : List EgressReport)
  /-- A report not received by the end of the following tick, or 10 ms, is counted missing. (R218) -/
  | reportMissing
  /-- A port status unit updates port state; port-up starts resynchronisation. (R217) -/
  | portStatus (mask : Nat)
  /-- A received PTP frame is processed by the PTP instance and servo. (R212) -/
  | ptpMessage (msg : PtpMessage)
  /-- A PTP message interval expires and the instance sends its message. (R117) -/
  | ptpMessageInterval (port : Nat) (kind : PtpKind)
  /-- Announce timeout or missing Syncs put the time engine in holdover. (R121) -/
  | announceTimeout (port : Nat)
  /-- A PPS_IN edge is timestamped and drives the phase servo; rising and falling edges alternate. (R111, R112) -/
  | ppsIn
  /-- No usable PPS_IN edge in 1.1 s puts the time engine in holdover. (R112) -/
  | ppsInLost
  /-- PPS_OUT rises as ToD crosses a whole second. (R113) -/
  | ppsOut
  /-- PPS_OUT falls after PPS_WIDTH ms. (R113) -/
  | ppsOutFall
  /-- A ToD slew absorbs its offset and raises SLEW_DONE. (R106) -/
  | slewDone
  /-- A time-sync unit is sent to the switch core every LINK_TSYNC period. (R213) -/
  | timeSyncUnit
  /-- A TIME_ECHO unit gives a link delay sample. (R213) -/
  | timeEcho (echo : TimeEcho)
  /-- A received PFC frame pauses or resumes traffic classes. (R202) -/
  | pfcFrame (classes : BitVec 8) (quanta : List Nat)
  /-- A class's pause quanta expire and transmission resumes. (R202) -/
  | pauseExpiry (cls : Nat)
  /-- The switch link trains and locks and comes up. (R200) -/
  | linkUp
  /-- The PCS loses alignment and the switch link goes down. (R200) -/
  | linkDown
  /-- The collector takes a fault message and captures, merges or logs it. (R276) -/
  | faultMessage
  /-- An SRAM bank corrects a single-bit error and sends ECC_CORR. (R273) -/
  | eccCorr (bank addr : Nat)
  /-- A double-bit error fails the read, sends ECC_UNCORR and takes the bank out. (R273) -/
  | eccUncorr (bank addr : Nat)
  /-- At each 500 µs half-period CROAK toggles if every alive condition held. (R284) -/
  | croakEdge
  /-- Firmware writes its 1 ms heartbeat if every online core passed its scheduler. (R321) -/
  | firmwareHeartbeat
  /-- 10 ms without a heartbeat sends NEWT HEARTBEAT. (R321) -/
  | heartbeat
  /-- A Newt core exception takes it offline and fails its commands with INTERNAL. (R322) -/
  | newtException (core : Nat) (addr : Word)
  /-- A marked task step ends and a step sample is written. (R329) -/
  | stepSample (sample : StepSample)
  /-- Utilisation over the last 100 ms is updated and LOAD_HIGH raised above threshold. (R326) -/
  | mgmtLoad (meanUp maxUp : Bool)
  /-- An event leaves the staging FIFO and is written to the Sand area. (R293) -/
  | eventRecordWrite
  /-- A record's Clay slot programming completes. (R298) -/
  | clayProgram (ok : Bool)
  /-- Every 600,000 ms of OPTIME a checkpoint entry is written. (R301) -/
  | checkpoint (ok : Bool)
  /-- An NVMe write of segment data or header completes. (R309) -/
  | segmentWrite (ok : Bool)
  /-- An event region block is written 100 ms after its first record. (R310) -/
  | eventBlockTimer
  /-- An NVMe command not complete within 1 s sends STORE IO_ERR and resets the controller. (R312) -/
  | nvmeTimeout
  /-- Loss of the root port link sends STORE LINK_DOWN and the store goes to INIT. (R312) -/
  | storeLinkDown
  /-- The root port retrains every 1 s while its link is down. (R312) -/
  | storeRetrain (trained : Bool)
  /-- A field tick pulse begins at boundary plus OFFSET in a selected tick. (R348) -/
  | ftickPulse (field : Nat)
  /-- A field tick pulse ends after WIDTH or 50 ns before the next boundary. (R348) -/
  | ftickPulseEnd (field : Nat)
  /-- An output at its current limit for 100 µs is turned off and FIELD OVERCURRENT sent. (R349) -/
  | overcurrent (field : Nat)
  /-- A host read through BAR0 returns data, clears the RC bits of the bytes it returns and latches the HI shadow of a LO/HI pair. (R261) -/
  | registerRead (req : Requester) (tlp : ReadTlp)
  /-- CMD_CQr_IRQ.TIME µs after the first uncoalesced completion, MSI-X vector r is sent. (R227) -/
  | interruptCoalescing (ring : Nat)
  /-- When a class's firmware-bound receive buffer falls below 64 KiB, the device sends XON on that class. (R202) -/
  | xon (cls : Nat)
  /-- Edges return on an INVALID REFIN, whose activity detector reports activity, and the monitor enters QUALIFYING. (R42) -/
  | activityPresent (refin : Nat)
  /-- PERST_N rises, the host endpoint leaves reset, and configuration requests are answered 20 ms later. (R365) -/
  | perstNRelease
  /-- The host PCIe endpoint link trains back to L0, clearing the HPE condition. (R362) -/
  | hpeLinkUp
  /-- An NVMe command of the store other than a segment write completes, either with success or with an error status. (R312) -/
  | nvmeCompletion (ok : Bool)
  /-- Once per millisecond while OSCIN is active, the ring oscillator is measured against OSCIN and PWR_RING_FREQ is updated. (R337) -/
  | ringOscillatorMeasurement (hz : Nat)
  /-- A received frame is discarded whole and counted in LINK_RX_DISCARD: a bad FCS, an oversize frame, a failed carriage check, an unknown TYPE, a failed line-header check or a PAUSE frame. (R203) -/
  | discardedFrame (cause : DiscardCause)
  /-- TCK edges advance the IEEE 1149.1 TAP controller, and TRST_N resets the test logic; EXTEST, HIGHZ and CLAMP act on the pins. (R366) -/
  | testAccessPort (op : TapOp)
  deriving DecidableEq, Repr

end Sys2Proof
end

