-- ==== Sys2Proof/Config.lean ====
section
/-! DEFINITION. What the spec leaves open: constants without a body, so that no proof can see their values. -/

namespace Sys2Proof

/-- Fresh values of `w` bits, numbered by a counter of the state (DESIGN CHOICE, log 2). -/
opaque Config.freeBits (w : Nat) : Nat → BitVec w

/-- The fixed step μ of a calibration update, in 2^-32 (R79, DESIGN CHOICE, log 185). -/
opaque Config.calMu : BitVec 64

/-- The clockIdentity of the device, which the spec does not give (PRESUMED, log 31). -/
opaque Config.ptpIdentity : BitVec 64

/-- offsetScaledLogVariance, for which PTP_CFG and PTP_CLASS have no field (R119, PRESUMED, log 31). -/
opaque Config.ptpVariance : BitVec 16

/-- neighborPropDelayThresh of IEEE 802.1AS-2020 in 2^-16 ns, which depends on the medium of a port (R117, PRESUMED, log 31). -/
opaque Config.neighborThresh : BitVec 64

/-- The digest of the public key that is fixed in the boot ROM (R324, DESIGN CHOICE, log 179). -/
opaque Config.keyDigest : BitVec 384

end Sys2Proof
end

