-- ==== Sys2Proof/Machine/Tbl.lean ====
section
/-! DEFINITION. Operations on tables keyed by number. Every stored table keeps its keys strictly rising. -/

namespace Sys2Proof

/-- The entry at a key, if it is listed. -/
def Tbl.get? {α : Type} (t : Tbl α) (k : Nat) : Option α :=
  match t with
  | [] => none
  | (a, v) :: r => if a = k then some v else Tbl.get? r k

/-- The entry at a key, or the table's default. -/
def Tbl.getD {α : Type} (t : Tbl α) (k : Nat) (dflt : α) : α :=
  (Tbl.get? t k).getD dflt

/-- The table with an entry put at a key, the keys kept rising. -/
def Tbl.put {α : Type} (t : Tbl α) (k : Nat) (v : α) : Tbl α :=
  match t with
  | [] => [(k, v)]
  | (a, w) :: r =>
    if a = k then (k, v) :: r
    else if k < a then (k, v) :: (a, w) :: r
    else (a, w) :: Tbl.put r k v

/-- The table without an entry at a key. -/
def Tbl.del {α : Type} (t : Tbl α) (k : Nat) : Tbl α :=
  t.filter fun p => p.1 != k

/-- The keys that are listed. -/
def Tbl.keys {α : Type} (t : Tbl α) : List Nat :=
  t.map Prod.fst

/-- The table with a function applied to every entry listed. -/
def Tbl.each {α : Type} (t : Tbl α) (f : Nat → α → α) : Tbl α :=
  t.map fun p => (p.1, f p.1 p.2)

/-- Keys strictly rising: the canonical form of a table. -/
def Tbl.sorted {α : Type} (t : Tbl α) : Bool :=
  match t with
  | [] => true
  | (a, _) :: r => (r.all fun p => decide (a < p.1)) && Tbl.sorted r

end Sys2Proof
end

