-- ==== Sys2Proof/Machine/Bytes.lean ====
section
/-! DEFINITION. Bytes and numbers: byte orders (R9), two's complement (R7), the CRC-32 of R93, the CRC-16 of the link headers,
HMAC-SHA-256 (R220) and SHA-384 (R324). -/

namespace Sys2Proof

/-- The `n` low bytes of a number, lowest first (R9, little-endian). -/
def leBytes (n v : Nat) : List Byte :=
  (List.range n).map fun i => BitVec.ofNat 8 (v / 2 ^ (8 * i))

/-- The `n` low bytes of a number, highest first (R9, network order). -/
def beBytes (n v : Nat) : List Byte :=
  (leBytes n v).reverse

/-- The number that bytes spell, lowest byte first. -/
def leNat (b : List Byte) : Nat :=
  match b with
  | [] => 0
  | x :: r => x.toNat + 256 * leNat r

/-- The number that bytes spell, highest byte first. -/
def beNat (b : List Byte) : Nat :=
  b.foldl (fun a x => a * 256 + x.toNat) 0

/-- `n` bytes from offset `off`, 0 beyond the end. -/
def slice (b : List Byte) (off n : Nat) : List Byte :=
  (List.range n).map fun i => b.getD (off + i) 0

/-- A little-endian field of `n` bytes at an offset. -/
def leAt (b : List Byte) (off n : Nat) : Nat :=
  leNat (slice b off n)

/-- A network-order field of `n` bytes at an offset. -/
def beAt (b : List Byte) (off n : Nat) : Nat :=
  beNat (slice b off n)

/-- Two's complement of a value in `n` bits (R7). -/
def wrapN (n : Nat) (v : Int) : Nat :=
  (v % (2 ^ n : Nat)).toNat

/-- The signed value of `n` bits (R7). -/
def signedN (n v : Nat) : Int :=
  let m := v % 2 ^ n
  if 2 ^ (n - 1) ≤ m then (m : Int) - (2 ^ n : Nat) else (m : Int)

/-- Bits `lo` to `lo + len - 1` of a number. -/
def bitsOf (v lo len : Nat) : Nat :=
  v / 2 ^ lo % 2 ^ len

/-- A saturating counter of 32 bits (Table 11-5). -/
def satAdd (v n : Nat) : Nat :=
  min (v + n) 0xFFFFFFFF

/-- A number of `Bool`. -/
def b2n (b : Bool) : Nat := if b then 1 else 0

/-- Padding with zero bytes to a multiple of `a` (R232). -/
def padTo (a : Nat) (b : List Byte) : List Byte :=
  b ++ List.replicate ((a - b.length % a) % a) 0

/-- A field of a packed block (R232): length and value. A field of 1, 2, 4 or 8 bytes is aligned to its size, any other to 8. -/
def packFields (fs : List (Nat × Nat)) : List Byte :=
  fs.foldl (fun acc f =>
    let a := if f.1 = 1 ∨ f.1 = 2 ∨ f.1 = 4 ∨ f.1 = 8 then f.1 else 8
    padTo a acc ++ leBytes f.1 f.2) []

/-- A status block (R232): packed fields, padded with zeros to a multiple of 8 bytes. -/
def packBlock (fs : List (Nat × Nat)) : List Byte :=
  padTo 8 (packFields fs)

/-- The offsets at which fields of the given lengths lie (R232). -/
def packOffsets (lens : List Nat) : List Nat :=
  let go := lens.foldl (fun (acc : List Nat × Nat) n =>
    let a := if n = 1 ∨ n = 2 ∨ n = 4 ∨ n = 8 then n else 8
    let o := (acc.2 + a - 1) / a * a
    (acc.1 ++ [o], o + n)) ([], 0)
  go.1

/-- One bit-reflected CRC step over eight bits. -/
def crcBits (poly : BitVec 32) (c : BitVec 32) : Nat → BitVec 32
  | 0 => c
  | n + 1 => crcBits poly (if c.getLsbD 0 then (c >>> 1) ^^^ poly else c >>> 1) n

/-- CRC-32 as R93 gives it: reflected polynomial 0x04C1_1DB7, initial value and final XOR all ones. -/
def crc32 (b : List Byte) : Nat :=
  ((b.foldl (fun c x => crcBits 0xEDB88320#32 (c ^^^ x.setWidth 32) 8) 0xFFFFFFFF#32) ^^^ 0xFFFFFFFF#32).toNat

/-- One step of a most-significant-first CRC-16 over eight bits. -/
def crc16Bits (poly : BitVec 16) (c : BitVec 16) : Nat → BitVec 16
  | 0 => c
  | n + 1 => crc16Bits poly (if c.getLsbD 15 then (c <<< 1) ^^^ poly else c <<< 1) n

/-- CRC-16 with polynomial 0x1021, most significant bit first, initial value 0xFFFF (R204). -/
def crc16 (b : List Byte) : Nat :=
  (b.foldl (fun (c : BitVec 16) (x : Byte) => crc16Bits 0x1021#16 (c ^^^ ((x.setWidth 16 : BitVec 16) <<< 8)) 8) 0xFFFF#16).toNat

/-! ### SHA-256 and SHA-384 (FIPS 180-4, by name in R220 and R324; PRESUMED, log 182), their constants computed as that standard defines them -/

/-- Whether a number is prime. -/
def isPrime (n : Nat) : Bool := decide (2 ≤ n) && (List.range n).all fun k => decide (k < 2) || decide (n % k ≠ 0)

/-- The largest `r` of `bits` more bits, above a start, with `r ^ e ≤ v`. -/
def rootFrom (e v : Nat) : Nat → Nat → Nat
  | r, 0 => r
  | r, n + 1 => rootFrom e v (if (r + 2 ^ n) ^ e ≤ v then r + 2 ^ n else r) n

/-- The first `w` bits of the fraction of the `e`-th root of `p`. -/
def rootBits (w e p : Nat) : BitVec w := BitVec.ofNat w (rootFrom e (p * 2 ^ (w * e)) 0 (w + 8))

/-- The first 64 primes for words of 32 bits, the first 80 for words of 64. -/
def shaPrimes (w : Nat) : List Nat := (List.range (if w = 32 then 312 else 410)).filter isPrime

/-- The eight working words of a round. -/
structure ShaVars (w : Nat) where
  a : BitVec w
  b : BitVec w
  c : BitVec w
  d : BitVec w
  e : BitVec w
  f : BitVec w
  g : BitVec w
  h : BitVec w
  deriving DecidableEq, Repr

/-- The word that a rotation by each of three amounts and an exclusive or makes of `x`. -/
def rot3 {w : Nat} (i j k : Nat) (x : BitVec w) : BitVec w := (x.rotateRight i ^^^ x.rotateRight j) ^^^ x.rotateRight k

/-- The same with a shift in place of the last rotation. -/
def rot2 {w : Nat} (i j k : Nat) (x : BitVec w) : BitVec w := (x.rotateRight i ^^^ x.rotateRight j) ^^^ x >>> k

/-- The message schedule is extended by `n` words; the list holds the newest word first, so the word `k` back stands at `k - 1`. -/
def shaExtend {w : Nat} (ws : List (BitVec w)) : Nat → List (BitVec w)
  | 0 => ws
  | n + 1 =>
    let back (k : Nat) : BitVec w := ws.getD (k - 1) 0
    let mixed := if w = 32 then rot2 7 18 3 (back 15) + rot2 17 19 10 (back 2) else rot2 1 8 7 (back 15) + rot2 19 61 6 (back 2)
    shaExtend ((back 16 + back 7 + mixed) :: ws) n

/-- One round, with the sum of its constant and its schedule word: `f` and `g` are chosen by `e`, and `a`, `b`, `c` vote. -/
def ShaVars.round {w : Nat} (v : ShaVars w) (kw : BitVec w) : ShaVars w :=
  let chosen := v.g ^^^ (v.e &&& (v.f ^^^ v.g))
  let voted := (v.a &&& (v.b ||| v.c)) ||| (v.b &&& v.c)
  let mixed := kw + v.h + chosen + (if w = 32 then rot3 6 11 25 v.e else rot3 14 18 41 v.e)
  let up := if w = 32 then rot3 2 13 22 v.a else rot3 28 34 39 v.a
  { a := mixed + voted + up, b := v.a, c := v.b, d := v.c, e := mixed + v.d, f := v.e, g := v.f, h := v.g }

/-- The hash value after a block: what the rounds leave is added word by word. -/
def ShaVars.add {w : Nat} (v u : ShaVars w) : ShaVars w :=
  ⟨v.a + u.a, v.b + u.b, v.c + u.c, v.d + u.d, v.e + u.e, v.f + u.f, v.g + u.g, v.h + u.h⟩

/-- The hash value before the first block, from the square roots of eight primes: the first eight for SHA-256, the next eight for SHA-384. -/
def ShaVars.start (w : Nat) : ShaVars w :=
  let x (i : Nat) : BitVec w := rootBits w 2 ((shaPrimes w).getD (if w = 32 then i else i + 8) 0)
  ⟨x 0, x 1, x 2, x 3, x 4, x 5, x 6, x 7⟩

/-- One block of 16 words; the round constants come from the cube roots of the primes. -/
def shaBlock {w : Nat} (v : ShaVars w) (b : List Byte) : ShaVars w :=
  let words := (List.range 16).map fun i => BitVec.ofNat w (beAt b (w / 8 * i) (w / 8))
  let schedule := (shaExtend words.reverse ((shaPrimes w).length - 16)).reverse
  v.add ((List.zipWith (fun p x => rootBits w 3 p + x) (shaPrimes w) schedule).foldl ShaVars.round v)

/-- The blocks of a padded message. -/
def shaBlocks {w : Nat} (v : ShaVars w) (b : List Byte) : Nat → ShaVars w
  | 0 => v
  | n + 1 => shaBlocks (shaBlock v (b.take (2 * w))) (b.drop (2 * w)) n

/-- The first `n` words of the hash of a message: with a set bit, zeros and the length in bits, in `w / 4` bytes, it fills whole blocks. -/
def shaOf (w n : Nat) (b : List Byte) : List Byte :=
  let zeros := (4 * w - 1 - w / 4 - b.length % (2 * w)) % (2 * w)
  let padded := b ++ [0x80] ++ List.replicate zeros 0 ++ beBytes (w / 4) (8 * b.length)
  let v := shaBlocks (ShaVars.start w) padded (padded.length / (2 * w))
  ([v.a, v.b, v.c, v.d, v.e, v.f, v.g, v.h].take n).flatMap fun x => beBytes (w / 8) x.toNat

/-- SHA-256 and SHA-384. -/
def sha256 (b : List Byte) : List Byte := shaOf 32 8 b
def sha384 (b : List Byte) : List Byte := shaOf 64 6 b

/-- HMAC-SHA-256 with a key of at most 64 bytes (RFC 2104, by name in R220). -/
def hmacSha256 (key msg : List Byte) : List Byte :=
  let k := key ++ List.replicate (64 - key.length) 0
  sha256 (k.map (· ^^^ 0x5c) ++ sha256 (k.map (· ^^^ 0x36) ++ msg))

end Sys2Proof
end

