-- ==== Sys2Proof/Machine/Image.lean ====
section
/-! DEFINITION. The firmware image and its verification (R324, Table 14-2): its header, and ECDSA over P-384 (FIPS 186-4, by name in R324;
PRESUMED, log 182). -/

namespace Sys2Proof.Machine

/-- The prime of the field of P-384, the order of its base point, and the constant b of the curve y² = x³ - 3x + b. -/
def fieldPrime : Nat := 2 ^ 384 - 2 ^ 128 - 2 ^ 96 + 2 ^ 32 - 1
def curveOrder : Nat :=
  0xFFFFFFFFFFFFFFFFFFFFFFFFFFFFFFFFFFFFFFFFFFFFFFFFC7634D81F4372DDF581A0DB248B0A77AECEC196ACCC52973
def curveB : Nat :=
  0xB3312FA7E23EE7E4988E056BE3F82D19181D9C6EFE8141120314088F5013875AC656398D8A2ED19D2A85C8EDD3EC2AEF

/-- A point of the curve, none for the point at infinity. -/
abbrev CurvePoint := Option (Nat × Nat)

/-- The base point. -/
def basePoint : CurvePoint :=
  some (0xAA87CA22BE8B05378EB1C71EF320AD746E1D3B628BA79B9859F741E082542A385502F25DBF55296C3A545E3872760AB7,
    0x3617DE4A96262C6F5D9E98BF9292DC29F8F41DBD289A147CE9DA3113B5F0B8C00A60B1CE1D7E819D7A431D7C90EA0E5F)

/-- A power modulo `m`, with an exponent of at most so many bits. -/
def powerMod (m b e : Nat) : Nat → Nat
  | 0 => 1
  | n + 1 =>
    let h := powerMod m b (e / 2) n
    if e % 2 = 1 then h * h % m * b % m else h * h % m

/-- The inverse modulo a prime of at most 384 bits. -/
def inverseMod (m a : Nat) : Nat := powerMod m (a % m) (m - 2) 384

/-- `a - b` in the field. -/
def fieldSub (a b : Nat) : Nat := (a + (fieldPrime - b % fieldPrime)) % fieldPrime

/-- Whether a pair of coordinates is a point of the curve. -/
def onCurve (x y : Nat) : Bool :=
  decide (x < fieldPrime) && decide (y < fieldPrime) &&
    decide (y * y % fieldPrime = fieldSub (x * x * x + curveB) (3 * x))

/-- The third point of the line through two points with its slope, mirrored. -/
def chord (slope : Nat) (a b : Nat × Nat) : Nat × Nat :=
  let x := fieldSub (fieldSub (slope * slope) a.1) b.1
  (x, fieldSub (slope * fieldSub a.1 x) a.2)

/-- The sum of two points. -/
def pointAdd (p q : CurvePoint) : CurvePoint :=
  match p, q with
  | none, _ => q
  | _, none => p
  | some a, some b =>
    if a.1 ≠ b.1 then some (chord (fieldSub b.2 a.2 * inverseMod fieldPrime (fieldSub b.1 a.1) % fieldPrime) a b)
    else if (a.2 + b.2) % fieldPrime = 0 then none
    else some (chord ((3 * a.1 * a.1 + fieldPrime - 3) * inverseMod fieldPrime (2 * a.2) % fieldPrime) a b)

/-- A multiple of a point, with a factor of at most so many bits. -/
def pointMul (p : CurvePoint) (k : Nat) : Nat → CurvePoint
  | 0 => none
  | n + 1 =>
    let h := pointMul p (k / 2) n
    if k % 2 = 1 then pointAdd (pointAdd h h) p else pointAdd h h

/-- Whether (r, s) is an ECDSA signature of a digest under a key. -/
def ecdsaValid (digest r s : Nat) (key : Nat × Nat) : Bool :=
  let w := inverseMod curveOrder s
  let sum := pointAdd (pointMul basePoint (digest * w % curveOrder) 384) (pointMul (some key) (r * w % curveOrder) 384)
  decide (1 ≤ r ∧ r < curveOrder) && decide (1 ≤ s ∧ s < curveOrder) && onCurve key.1 key.2 &&
    sum.any fun p => decide (p.1 % curveOrder = r)

/-! ### The header (Table 14-2) -/

/-- IMAGE_LEN, and what the device shows: MAJOR, MINOR and PATCH as GLB_FW_REV, and BUILD_ID. -/
def imageLen (b : List Byte) : Nat := leAt b 0x00C 4
def imageRev (b : List Byte) : Nat := leAt b 0x008 4
def imageBuild (b : List Byte) : Nat := leAt b 0x010 8

/-- The size of the header. -/
def imageHeader : Nat := 0x130

/-- Whether what was read is an image: its MAGIC and FORMAT, an IMAGE_LEN within range, and all of it there. (DEDUCED, log 183) -/
def imageForm (b : List Byte) : Bool :=
  decide (leAt b 0 4 = 0x57465554) && decide (leAt b 4 4 = 1) && decide (1 ≤ imageLen b ∧ imageLen b ≤ 6291456) &&
    decide (imageHeader + imageLen b ≤ b.length)

/-- The public key, an uncompressed point. -/
def imageKey (b : List Byte) : List Byte := slice b 0x020 97

/-- Step 1: the digest of the key is the one fixed in the boot ROM (R324). -/
def keyMatches (b : List Byte) : Bool := decide (beNat (sha384 (imageKey b)) = Config.keyDigest.toNat)

/-- Steps 2 and 3: the signature over the header up to it and the image (R324). -/
def signatureMatches (b : List Byte) : Bool :=
  let signed := b.take 0x0D0 ++ (b.drop imageHeader).take (imageLen b)
  decide (leAt b 0x020 1 = 4) && ecdsaValid (beNat (sha384 signed)) (beAt b 0x0D0 48) (beAt b 0x100 48) (beAt b 0x021 48, beAt b 0x051 48)

/-- Whether an image verifies (R324, R325). -/
def imageVerified (b : List Byte) : Bool := imageForm b && keyMatches b && signatureMatches b

end Sys2Proof.Machine
end

