-- ==== Sys2Proof/Machine/RegTable.lean ====
section
/-! DEFINITION. The register map of BAR0 (R268): the offset of every register (`R`), every field of it (`F`), its access code
(Table 0-2) and its reset value, from the register tables of the chapters. A reset value that the spec marks FW, X or pin is 0 here
(logs 3 and 4). The two offsets of a guarded pair are X, listed here, and X + 4 (R257). -/

namespace Sys2Proof.Machine

/-- Access codes, Table 0-2 (R12). -/
inductive Access where
  | rw | ro | rc | w1c | wo | rwp | rwd | gp | sl
  deriving DecidableEq, Repr

/-- A field of one register: byte offset, lowest bit, length. -/
structure Fld where
  off : Nat
  lo  : Nat
  len : Nat
  deriving DecidableEq, Repr

/-- A field of a register table: lowest bit, length, access code, reset value. -/
structure FieldDesc where
  lo    : Nat
  len   : Nat
  acc   : Access
  reset : Nat
  deriving DecidableEq, Repr

/-- A register, or a family of them: base offset, two strides with their counts (count 1 where there is none), fields. -/
structure RegDesc where
  base   : Nat
  s1     : Nat
  n1     : Nat
  s2     : Nat
  n2     : Nat
  fields : List FieldDesc
  deriving DecidableEq, Repr

def R.GLB_ID : Nat := 0x0
def F.GLB_ID.PART : Fld := ⟨R.GLB_ID, 0, 16⟩
def F.GLB_ID.STEPPING : Fld := ⟨R.GLB_ID, 16, 16⟩
def R.GLB_FW_REV : Nat := 0x4
def F.GLB_FW_REV.MAJOR : Fld := ⟨R.GLB_FW_REV, 0, 8⟩
def F.GLB_FW_REV.MINOR : Fld := ⟨R.GLB_FW_REV, 8, 8⟩
def F.GLB_FW_REV.PATCH : Fld := ⟨R.GLB_FW_REV, 16, 16⟩
def R.GLB_MODE : Nat := 0x8
def F.GLB_MODE.MODE : Fld := ⟨R.GLB_MODE, 0, 3⟩
def F.GLB_MODE.PREV : Fld := ⟨R.GLB_MODE, 4, 3⟩
def F.GLB_MODE.REQ_BUSY : Fld := ⟨R.GLB_MODE, 7, 1⟩
def R.GLB_MODE_EVENT : Nat := 0xC
def F.GLB_MODE_EVENT.MODE_CHANGED : Fld := ⟨R.GLB_MODE_EVENT, 0, 1⟩
def F.GLB_MODE_EVENT.DEGRADED_ENTER : Fld := ⟨R.GLB_MODE_EVENT, 8, 1⟩
def F.GLB_MODE_EVENT.REQ_DONE : Fld := ⟨R.GLB_MODE_EVENT, 16, 1⟩
def R.GLB_MODE_REQ : Nat := 0x10
def F.GLB_MODE_REQ.MODE : Fld := ⟨R.GLB_MODE_REQ, 0, 3⟩
def R.GLB_MODE_REQ_RESULT : Nat := 0x18
def F.GLB_MODE_REQ_RESULT.STATUS : Fld := ⟨R.GLB_MODE_REQ_RESULT, 0, 16⟩
def F.GLB_MODE_REQ_RESULT.MODE : Fld := ⟨R.GLB_MODE_REQ_RESULT, 16, 3⟩
def F.GLB_MODE_REQ_RESULT.DONE : Fld := ⟨R.GLB_MODE_REQ_RESULT, 24, 1⟩
def R.GLB_SOFT_RESET : Nat := 0x20
def F.GLB_SOFT_RESET.WARM : Fld := ⟨R.GLB_SOFT_RESET, 0, 1⟩
def R.GLB_ACCESS_STATUS : Nat := 0x30
def F.GLB_ACCESS_STATUS.WRITE_WHILE_ENABLED : Fld := ⟨R.GLB_ACCESS_STATUS, 0, 1⟩
def F.GLB_ACCESS_STATUS.ACCESS_ERR : Fld := ⟨R.GLB_ACCESS_STATUS, 8, 1⟩
def F.GLB_ACCESS_STATUS.GUARD_ERR : Fld := ⟨R.GLB_ACCESS_STATUS, 16, 1⟩
def F.GLB_ACCESS_STATUS.DENIED : Fld := ⟨R.GLB_ACCESS_STATUS, 24, 1⟩
def R.GLB_ACCESS_FIRST : Nat := 0x34
def F.GLB_ACCESS_FIRST.OFFSET : Fld := ⟨R.GLB_ACCESS_FIRST, 0, 20⟩
def F.GLB_ACCESS_FIRST.CAUSE : Fld := ⟨R.GLB_ACCESS_FIRST, 20, 3⟩
def F.GLB_ACCESS_FIRST.REQ : Fld := ⟨R.GLB_ACCESS_FIRST, 24, 3⟩
def F.GLB_ACCESS_FIRST.VALID : Fld := ⟨R.GLB_ACCESS_FIRST, 31, 1⟩
def R.GLB_ACCESS_LAST : Nat := 0x38
def F.GLB_ACCESS_LAST.OFFSET : Fld := ⟨R.GLB_ACCESS_LAST, 0, 20⟩
def F.GLB_ACCESS_LAST.CAUSE : Fld := ⟨R.GLB_ACCESS_LAST, 20, 3⟩
def F.GLB_ACCESS_LAST.REQ : Fld := ⟨R.GLB_ACCESS_LAST, 24, 3⟩
def F.GLB_ACCESS_LAST.VALID : Fld := ⟨R.GLB_ACCESS_LAST, 31, 1⟩
def R.GLB_WWE_COUNT : Nat := 0x40
def R.GLB_ACCESS_ERR_COUNT : Nat := 0x44
def R.GLB_GUARD_ERR_COUNT : Nat := 0x48
def R.GLB_BOOT_STATUS : Nat := 0x50
def F.GLB_BOOT_STATUS.BOOT_SEL : Fld := ⟨R.GLB_BOOT_STATUS, 0, 2⟩
def F.GLB_BOOT_STATUS.REGS_READY : Fld := ⟨R.GLB_BOOT_STATUS, 2, 1⟩
def F.GLB_BOOT_STATUS.PRIV : Fld := ⟨R.GLB_BOOT_STATUS, 3, 1⟩
def F.GLB_BOOT_STATUS.STEP : Fld := ⟨R.GLB_BOOT_STATUS, 4, 4⟩
def F.GLB_BOOT_STATUS.CFG_FIXED : Fld := ⟨R.GLB_BOOT_STATUS, 8, 1⟩
def R.GLB_IRQ_EN : Nat := 0x60
def F.GLB_IRQ_EN.VEC_EN : Fld := ⟨R.GLB_IRQ_EN, 0, 4⟩
def R.GLB_EVENT_SUMMARY : Nat := 0x64
def F.GLB_EVENT_SUMMARY.CAL : Fld := ⟨R.GLB_EVENT_SUMMARY, 0, 1⟩
def F.GLB_EVENT_SUMMARY.REF : Fld := ⟨R.GLB_EVENT_SUMMARY, 1, 1⟩
def F.GLB_EVENT_SUMMARY.MS : Fld := ⟨R.GLB_EVENT_SUMMARY, 2, 4⟩
def F.GLB_EVENT_SUMMARY.OUT : Fld := ⟨R.GLB_EVENT_SUMMARY, 6, 1⟩
def F.GLB_EVENT_SUMMARY.TIME : Fld := ⟨R.GLB_EVENT_SUMMARY, 7, 1⟩
def F.GLB_EVENT_SUMMARY.TICK : Fld := ⟨R.GLB_EVENT_SUMMARY, 8, 1⟩
def F.GLB_EVENT_SUMMARY.LINK : Fld := ⟨R.GLB_EVENT_SUMMARY, 9, 1⟩
def F.GLB_EVENT_SUMMARY.CMD : Fld := ⟨R.GLB_EVENT_SUMMARY, 10, 1⟩
def F.GLB_EVENT_SUMMARY.PWR : Fld := ⟨R.GLB_EVENT_SUMMARY, 11, 1⟩
def F.GLB_EVENT_SUMMARY.FIELD : Fld := ⟨R.GLB_EVENT_SUMMARY, 12, 1⟩
def R.GLB_EVENT_MASK : Nat := 0x68
def F.GLB_EVENT_MASK.MASK : Fld := ⟨R.GLB_EVENT_MASK, 0, 13⟩
def R.GLB_SCRATCH (n : Nat) : Nat := 0x70 + n * 0x4
def R.PWR_DOMAIN_CTRL : Nat := 0x1000
def F.PWR_DOMAIN_CTRL.DOMAIN : Fld := ⟨R.PWR_DOMAIN_CTRL, 0, 5⟩
def F.PWR_DOMAIN_CTRL.ON : Fld := ⟨R.PWR_DOMAIN_CTRL, 8, 1⟩
def R.PWR_DOMAIN_STATUS : Nat := 0x1008
def F.PWR_DOMAIN_STATUS.ON : Fld := ⟨R.PWR_DOMAIN_STATUS, 0, 24⟩
def R.PWR_SWITCH_STATUS : Nat := 0x100C
def F.PWR_SWITCH_STATUS.BUSY : Fld := ⟨R.PWR_SWITCH_STATUS, 0, 1⟩
def F.PWR_SWITCH_STATUS.QUEUED : Fld := ⟨R.PWR_SWITCH_STATUS, 4, 4⟩
def F.PWR_SWITCH_STATUS.LAST_DOMAIN : Fld := ⟨R.PWR_SWITCH_STATUS, 8, 5⟩
def F.PWR_SWITCH_STATUS.LAST_RESULT : Fld := ⟨R.PWR_SWITCH_STATUS, 16, 2⟩
def R.PWR_EVENT : Nat := 0x1010
def F.PWR_EVENT.SWITCH_DONE : Fld := ⟨R.PWR_EVENT, 0, 1⟩
def F.PWR_EVENT.REFUSED : Fld := ⟨R.PWR_EVENT, 8, 1⟩
def F.PWR_EVENT.SWITCH_FAIL : Fld := ⟨R.PWR_EVENT, 16, 1⟩
def F.PWR_EVENT.RAIL : Fld := ⟨R.PWR_EVENT, 24, 1⟩
def R.PWR_CLK_STATUS : Nat := 0x1014
def F.PWR_CLK_STATUS.CORE_SRC : Fld := ⟨R.PWR_CLK_STATUS, 0, 2⟩
def F.PWR_CLK_STATUS.AON_SRC : Fld := ⟨R.PWR_CLK_STATUS, 2, 1⟩
def F.PWR_CLK_STATUS.PLL_LOCKED : Fld := ⟨R.PWR_CLK_STATUS, 3, 1⟩
def F.PWR_CLK_STATUS.OSC_ACTIVE : Fld := ⟨R.PWR_CLK_STATUS, 4, 1⟩
def R.PWR_RING_FREQ : Nat := 0x1018
def F.PWR_RING_FREQ.FREQ : Fld := ⟨R.PWR_RING_FREQ, 0, 27⟩
def R.PWR_RAIL_STATUS : Nat := 0x1020
def F.PWR_RAIL_STATUS.GOOD : Fld := ⟨R.PWR_RAIL_STATUS, 0, 17⟩
def R.PWR_TOTAL : Nat := 0x1024
def F.PWR_TOTAL.POWER : Fld := ⟨R.PWR_TOTAL, 0, 16⟩
def R.PWR_RAIL (n : Nat) : Nat := 0x1040 + n * 0x4
def F.PWR_RAIL.VOLTAGE (n : Nat) : Fld := ⟨R.PWR_RAIL n, 0, 16⟩
def F.PWR_RAIL.POWER (n : Nat) : Fld := ⟨R.PWR_RAIL n, 16, 16⟩
def R.FLT_STATUS : Nat := 0x2000
def F.FLT_STATUS.HANDLING : Fld := ⟨R.FLT_STATUS, 0, 1⟩
def F.FLT_STATUS.CLASS : Fld := ⟨R.FLT_STATUS, 1, 2⟩
def F.FLT_STATUS.REACTION : Fld := ⟨R.FLT_STATUS, 3, 3⟩
def F.FLT_STATUS.FAULT_N : Fld := ⟨R.FLT_STATUS, 6, 1⟩
def F.FLT_STATUS.HALTED : Fld := ⟨R.FLT_STATUS, 7, 1⟩
def R.FLT_ACK : Nat := 0x2004
def F.FLT_ACK.ACK : Fld := ⟨R.FLT_ACK, 0, 1⟩
def R.FLT_EVENT : Nat := 0x2008
def F.FLT_EVENT.CAPTURED : Fld := ⟨R.FLT_EVENT, 0, 1⟩
def F.FLT_EVENT.MERGED : Fld := ⟨R.FLT_EVENT, 8, 1⟩
def F.FLT_EVENT.ESCALATED : Fld := ⟨R.FLT_EVENT, 16, 1⟩
def R.FLT_REC_FIRST_LO : Nat := 0x2010
def R.FLT_REC_FIRST_HI : Nat := 0x2014
def R.FLT_REC_SUM : Nat := 0x2018
def F.FLT_REC_SUM.LAST_SOURCE : Fld := ⟨R.FLT_REC_SUM, 0, 10⟩
def F.FLT_REC_SUM.KIND_OR : Fld := ⟨R.FLT_REC_SUM, 10, 6⟩
def F.FLT_REC_SUM.CLASS : Fld := ⟨R.FLT_REC_SUM, 16, 2⟩
def F.FLT_REC_SUM.REACTION : Fld := ⟨R.FLT_REC_SUM, 18, 3⟩
def F.FLT_REC_SUM.FLAGS_OR : Fld := ⟨R.FLT_REC_SUM, 24, 6⟩
def F.FLT_REC_SUM.ACTIVE : Fld := ⟨R.FLT_REC_SUM, 31, 1⟩
def R.FLT_REC_MERGE_COUNT : Nat := 0x201C
def R.FLT_REC_TICK_LO : Nat := 0x2020
def R.FLT_REC_TICK_HI : Nat := 0x2024
def R.FLT_REC_SEC : Nat := 0x2028
def R.FLT_REC_NS : Nat := 0x202C
def R.FLT_PREV (n : Nat) : Nat := 0x2030 + n * 0x4
def R.FLT_COUNT_C : Nat := 0x2050
def R.FLT_COUNT_U : Nat := 0x2054
def R.FLT_COMBINED_COUNT : Nat := 0x2058
def R.FLT_CROAK_CFG : Nat := 0x2060
def F.FLT_CROAK_CFG.REQ_RUN : Fld := ⟨R.FLT_CROAK_CFG, 0, 1⟩
def R.FLT_CROAK_STATUS : Nat := 0x2064
def F.FLT_CROAK_STATUS.TOGGLING : Fld := ⟨R.FLT_CROAK_STATUS, 0, 1⟩
def F.FLT_CROAK_STATUS.LEVEL : Fld := ⟨R.FLT_CROAK_STATUS, 1, 1⟩
def F.FLT_CROAK_STATUS.NO_FATAL : Fld := ⟨R.FLT_CROAK_STATUS, 2, 1⟩
def F.FLT_CROAK_STATUS.HEARTBEAT_OK : Fld := ⟨R.FLT_CROAK_STATUS, 3, 1⟩
def F.FLT_CROAK_STATUS.NO_CROAK_STOP : Fld := ⟨R.FLT_CROAK_STATUS, 4, 1⟩
def F.FLT_CROAK_STATUS.RUN_OK : Fld := ⟨R.FLT_CROAK_STATUS, 5, 1⟩
def R.FLT_INJ_MODE : Nat := 0x2070
def F.FLT_INJ_MODE.MODE : Fld := ⟨R.FLT_INJ_MODE, 0, 2⟩
def F.FLT_INJ_MODE.CB_TARGET : Fld := ⟨R.FLT_INJ_MODE, 4, 3⟩
def F.FLT_INJ_MODE.CB_BITS : Fld := ⟨R.FLT_INJ_MODE, 8, 2⟩
def F.FLT_INJ_MODE.CB_COUNT : Fld := ⟨R.FLT_INJ_MODE, 16, 5⟩
def R.FLT_INJ_CTRL : Nat := 0x2078
def F.FLT_INJ_CTRL.SOURCE : Fld := ⟨R.FLT_INJ_CTRL, 0, 10⟩
def F.FLT_INJ_CTRL.KIND : Fld := ⟨R.FLT_INJ_CTRL, 10, 6⟩
def F.FLT_INJ_CTRL.OP : Fld := ⟨R.FLT_INJ_CTRL, 24, 3⟩
def R.FLT_INJ_FORCE (n : Nat) : Nat := 0x2080 + n * 0x4
def R.FLT_INJ_STATUS : Nat := 0x2090
def F.FLT_INJ_STATUS.CB_LEFT : Fld := ⟨R.FLT_INJ_STATUS, 0, 5⟩
def F.FLT_INJ_STATUS.CB_ARMED : Fld := ⟨R.FLT_INJ_STATUS, 8, 1⟩
def F.FLT_INJ_STATUS.LAST_REJECTED : Fld := ⟨R.FLT_INJ_STATUS, 16, 1⟩
def R.FLT_CAUSE (n : Nat) : Nat := 0x2100 + n * 0x4
def R.FLT_LIVE (n : Nat) : Nat := 0x2110 + n * 0x4
def R.FLT_DEGRADE (n : Nat) : Nat := 0x2120 + n * 0x4
def R.FLT_REACT (n : Nat) : Nat := 0x2200 + n * 0x4
def F.FLT_REACT.REACT_C (n : Nat) : Fld := ⟨R.FLT_REACT n, 0, 3⟩
def F.FLT_REACT.REACT_U (n : Nat) : Fld := ⟨R.FLT_REACT n, 4, 3⟩
def R.EVT_STATUS : Nat := 0x3000
def F.EVT_STATUS.CLAY_USED : Fld := ⟨R.EVT_STATUS, 0, 11⟩
def F.EVT_STATUS.CLAY_FULL : Fld := ⟨R.EVT_STATUS, 11, 1⟩
def F.EVT_STATUS.CLEARING : Fld := ⟨R.EVT_STATUS, 12, 1⟩
def F.EVT_STATUS.SAND_OFF : Fld := ⟨R.EVT_STATUS, 13, 1⟩
def F.EVT_STATUS.FIFO_DEPTH : Fld := ⟨R.EVT_STATUS, 16, 7⟩
def F.EVT_STATUS.CLAY_SPOILT : Fld := ⟨R.EVT_STATUS, 24, 8⟩
def R.EVT_EVENT : Nat := 0x3004
def F.EVT_EVENT.CLAY_FULL : Fld := ⟨R.EVT_EVENT, 0, 1⟩
def F.EVT_EVENT.LOST : Fld := ⟨R.EVT_EVENT, 8, 1⟩
def F.EVT_EVENT.SAND_THRESH : Fld := ⟨R.EVT_EVENT, 16, 1⟩
def F.EVT_EVENT.FLASH_FAIL : Fld := ⟨R.EVT_EVENT, 24, 1⟩
def R.EVT_HEAD_SEQ : Nat := 0x3008
def R.EVT_TAIL_SEQ : Nat := 0x300C
def R.EVT_LOST_COUNT : Nat := 0x3010
def R.EVT_SUPPRESSED_COUNT : Nat := 0x3014
def R.EVT_RATE : Nat := 0x3018
def F.EVT_RATE.RATE : Fld := ⟨R.EVT_RATE, 0, 8⟩
def F.EVT_RATE.BURST : Fld := ⟨R.EVT_RATE, 8, 8⟩
def R.EVT_SAND_THRESH : Nat := 0x301C
def F.EVT_SAND_THRESH.KIB : Fld := ⟨R.EVT_SAND_THRESH, 0, 10⟩
def R.EVT_OPTIME_LO : Nat := 0x3020
def R.EVT_OPTIME_HI : Nat := 0x3024
def R.EVT_PCC : Nat := 0x3028
def F.EVT_PCC.PCC : Fld := ⟨R.EVT_PCC, 0, 20⟩
def R.EVT_CKPT_STATUS : Nat := 0x302C
def F.EVT_CKPT_STATUS.A_VALID : Fld := ⟨R.EVT_CKPT_STATUS, 0, 1⟩
def F.EVT_CKPT_STATUS.B_VALID : Fld := ⟨R.EVT_CKPT_STATUS, 1, 1⟩
def F.EVT_CKPT_STATUS.NEWEST : Fld := ⟨R.EVT_CKPT_STATUS, 2, 1⟩
def F.EVT_CKPT_STATUS.LAST_FAILED : Fld := ⟨R.EVT_CKPT_STATUS, 3, 1⟩
def R.EVT_CLAY_CLEAR : Nat := 0x3030
def F.EVT_CLAY_CLEAR.CLEAR : Fld := ⟨R.EVT_CLAY_CLEAR, 0, 1⟩
def R.CMD_CTRL : Nat := 0x4000
def F.CMD_CTRL.RING_EN : Fld := ⟨R.CMD_CTRL, 0, 4⟩
def R.CMD_STATUS : Nat := 0x4004
def F.CMD_STATUS.IN_PROGRESS : Fld := ⟨R.CMD_STATUS, 0, 9⟩
def F.CMD_STATUS.INBAND_DEPTH : Fld := ⟨R.CMD_STATUS, 16, 6⟩
def R.CMD_EVENT : Nat := 0x4008
def F.CMD_EVENT.RING_ERR0 : Fld := ⟨R.CMD_EVENT, 0, 1⟩
def F.CMD_EVENT.RING_ERR1 : Fld := ⟨R.CMD_EVENT, 8, 1⟩
def F.CMD_EVENT.RING_ERR2 : Fld := ⟨R.CMD_EVENT, 16, 1⟩
def F.CMD_EVENT.RING_ERR3 : Fld := ⟨R.CMD_EVENT, 24, 1⟩
def R.CMD_BUSY_COUNT : Nat := 0x400C
def R.CMD_TIMEOUT_COUNT : Nat := 0x4010
def R.CMD_LOST_COUNT : Nat := 0x4014
def R.CMD_SQr_BASE_LO (n : Nat) : Nat := 0x4100 + n * 0x40
def R.CMD_SQr_BASE_HI (n : Nat) : Nat := 0x4104 + n * 0x40
def R.CMD_SQr_SIZE (n : Nat) : Nat := 0x4108 + n * 0x40
def F.CMD_SQr_SIZE.SIZE (n : Nat) : Fld := ⟨R.CMD_SQr_SIZE n, 0, 4⟩
def R.CMD_SQr_TAIL (n : Nat) : Nat := 0x410C + n * 0x40
def F.CMD_SQr_TAIL.TAIL (n : Nat) : Fld := ⟨R.CMD_SQr_TAIL n, 0, 12⟩
def R.CMD_SQr_HEAD (n : Nat) : Nat := 0x4110 + n * 0x40
def F.CMD_SQr_HEAD.HEAD (n : Nat) : Fld := ⟨R.CMD_SQr_HEAD n, 0, 12⟩
def R.CMD_CQr_BASE_LO (n : Nat) : Nat := 0x4114 + n * 0x40
def R.CMD_CQr_BASE_HI (n : Nat) : Nat := 0x4118 + n * 0x40
def R.CMD_CQr_SIZE (n : Nat) : Nat := 0x411C + n * 0x40
def F.CMD_CQr_SIZE.SIZE (n : Nat) : Fld := ⟨R.CMD_CQr_SIZE n, 0, 4⟩
def R.CMD_CQr_TAIL (n : Nat) : Nat := 0x4120 + n * 0x40
def F.CMD_CQr_TAIL.TAIL (n : Nat) : Fld := ⟨R.CMD_CQr_TAIL n, 0, 12⟩
def R.CMD_CQr_HEAD (n : Nat) : Nat := 0x4124 + n * 0x40
def F.CMD_CQr_HEAD.HEAD (n : Nat) : Fld := ⟨R.CMD_CQr_HEAD n, 0, 12⟩
def R.CMD_CQr_WB_LO (n : Nat) : Nat := 0x4128 + n * 0x40
def R.CMD_CQr_WB_HI (n : Nat) : Nat := 0x412C + n * 0x40
def R.CMD_CQr_IRQ (n : Nat) : Nat := 0x4130 + n * 0x40
def F.CMD_CQr_IRQ.COUNT (n : Nat) : Fld := ⟨R.CMD_CQr_IRQ n, 0, 8⟩
def F.CMD_CQr_IRQ.TIME (n : Nat) : Fld := ⟨R.CMD_CQr_IRQ n, 8, 16⟩
def R.CMD_RINGr_STATUS (n : Nat) : Nat := 0x4134 + n * 0x40
def F.CMD_RINGr_STATUS.ENABLED (n : Nat) : Fld := ⟨R.CMD_RINGr_STATUS n, 0, 1⟩
def F.CMD_RINGr_STATUS.DRAINING (n : Nat) : Fld := ⟨R.CMD_RINGr_STATUS n, 1, 1⟩
def F.CMD_RINGr_STATUS.CQ_FULL (n : Nat) : Fld := ⟨R.CMD_RINGr_STATUS n, 2, 1⟩
def F.CMD_RINGr_STATUS.ERR (n : Nat) : Fld := ⟨R.CMD_RINGr_STATUS n, 4, 3⟩
def F.CMD_RINGr_STATUS.OUTSTANDING (n : Nat) : Fld := ⟨R.CMD_RINGr_STATUS n, 16, 9⟩
def R.CAL_CTRL : Nat := 0x5000
def F.CAL_CTRL.AUTO_TEMP_EN : Fld := ⟨R.CAL_CTRL, 0, 4⟩
def F.CAL_CTRL.AUTO_START_EN : Fld := ⟨R.CAL_CTRL, 4, 4⟩
def R.CAL_TEMP_DELTA : Nat := 0x5004
def F.CAL_TEMP_DELTA.TEMP_DELTA : Fld := ⟨R.CAL_TEMP_DELTA, 0, 9⟩
def R.CAL_SAVE_STATUS : Nat := 0x5010
def F.CAL_SAVE_STATUS.SLOT_A_VALID : Fld := ⟨R.CAL_SAVE_STATUS, 0, 1⟩
def F.CAL_SAVE_STATUS.SLOT_B_VALID : Fld := ⟨R.CAL_SAVE_STATUS, 1, 1⟩
def F.CAL_SAVE_STATUS.NEWEST : Fld := ⟨R.CAL_SAVE_STATUS, 2, 1⟩
def F.CAL_SAVE_STATUS.SAVE_BUSY : Fld := ⟨R.CAL_SAVE_STATUS, 3, 1⟩
def F.CAL_SAVE_STATUS.LOADED : Fld := ⟨R.CAL_SAVE_STATUS, 4, 2⟩
def R.CAL_SLOT_A_GEN : Nat := 0x5014
def R.CAL_SLOT_B_GEN : Nat := 0x5018
def R.CALn_STATUS (n : Nat) : Nat := 0x5400 + n * 0x200
def F.CALn_STATUS.RUNNING (n : Nat) : Fld := ⟨R.CALn_STATUS n, 0, 1⟩
def F.CALn_STATUS.DEFERRED (n : Nat) : Fld := ⟨R.CALn_STATUS n, 1, 1⟩
def F.CALn_STATUS.STAGE (n : Nat) : Fld := ⟨R.CALn_STATUS n, 2, 3⟩
def F.CALn_STATUS.TRIGGER (n : Nat) : Fld := ⟨R.CALn_STATUS n, 5, 2⟩
def F.CALn_STATUS.UPDATES (n : Nat) : Fld := ⟨R.CALn_STATUS n, 16, 16⟩
def R.CALn_EVENT (n : Nat) : Nat := 0x5404 + n * 0x200
def F.CALn_EVENT.RUN_DONE (n : Nat) : Fld := ⟨R.CALn_EVENT n, 0, 1⟩
def F.CALn_EVENT.RUN_ABORTED (n : Nat) : Fld := ⟨R.CALn_EVENT n, 8, 1⟩
def F.CALn_EVENT.DEFERRED (n : Nat) : Fld := ⟨R.CALn_EVENT n, 16, 1⟩
def F.CALn_EVENT.PRECOND_UNMET (n : Nat) : Fld := ⟨R.CALn_EVENT n, 24, 1⟩
def R.CALn_RESULT (n : Nat) : Nat := 0x5408 + n * 0x200
def F.CALn_RESULT.CAL_PRECOND_UNMET (n : Nat) : Fld := ⟨R.CALn_RESULT n, 0, 1⟩
def F.CALn_RESULT.PRECOND_LOST (n : Nat) : Fld := ⟨R.CALn_RESULT n, 1, 1⟩
def F.CALn_RESULT.ABORTED (n : Nat) : Fld := ⟨R.CALn_RESULT n, 2, 1⟩
def F.CALn_RESULT.TRIGGER (n : Nat) : Fld := ⟨R.CALn_RESULT n, 3, 2⟩
def F.CALn_RESULT.STAGES_RUN (n : Nat) : Fld := ⟨R.CALn_RESULT n, 5, 4⟩
def R.CALn_QUALITY (n : Nat) : Nat := 0x540C + n * 0x200
def F.CALn_QUALITY.RESID (n : Nat) : Fld := ⟨R.CALn_QUALITY n, 0, 16⟩
def F.CALn_QUALITY.SPUR (n : Nat) : Fld := ⟨R.CALn_QUALITY n, 16, 8⟩
def R.CALn_LAST_TEMP (n : Nat) : Nat := 0x5410 + n * 0x200
def F.CALn_LAST_TEMP.LAST_TEMP (n : Nat) : Fld := ⟨R.CALn_LAST_TEMP n, 0, 16⟩
def R.CALn_DEFER_COUNT (n : Nat) : Nat := 0x5414 + n * 0x200
def R.CALn_RUN_COUNT (n : Nat) : Nat := 0x5418 + n * 0x200
def R.CALn_TDC_GAIN (n : Nat) : Nat := 0x5420 + n * 0x200
def F.CALn_TDC_GAIN.TDC_GAIN (n : Nat) : Fld := ⟨R.CALn_TDC_GAIN n, 0, 24⟩
def R.CALn_TWOPT (n : Nat) : Nat := 0x5424 + n * 0x200
def F.CALn_TWOPT.TWOPT (n : Nat) : Fld := ⟨R.CALn_TWOPT n, 0, 24⟩
def R.CALn_KDCO (n : Nat) (i : Nat) : Nat := 0x5500 + n * 0x200 + i * 0x4
def F.CALn_KDCO.KDCO_CAL (n : Nat) (i : Nat) : Fld := ⟨R.CALn_KDCO n i, 0, 24⟩
def F.CALn_KDCO.VALID (n : Nat) (i : Nat) : Fld := ⟨R.CALn_KDCO n i, 24, 1⟩
def R.CAL_DTCm_GAIN (n : Nat) : Nat := 0x5C00 + n * 0x10
def F.CAL_DTCm_GAIN.DTC_GAIN (n : Nat) : Fld := ⟨R.CAL_DTCm_GAIN n, 0, 24⟩
def R.CAL_DTCm_RESID (n : Nat) : Nat := 0x5C04 + n * 0x10
def F.CAL_DTCm_RESID.DTC_RESID (n : Nat) : Fld := ⟨R.CAL_DTCm_RESID n, 0, 16⟩
def R.TEMPn (n : Nat) : Nat := 0x6000 + n * 0x4
def F.TEMPn.TEMP (n : Nat) : Fld := ⟨R.TEMPn n, 0, 16⟩
def F.TEMPn.VALID (n : Nat) : Fld := ⟨R.TEMPn n, 16, 1⟩
def R.TEMP_HIGH : Nat := 0x6020
def F.TEMP_HIGH.HIGH : Fld := ⟨R.TEMP_HIGH, 0, 16⟩
def R.TEMP_MAX : Nat := 0x6024
def F.TEMP_MAX.TEMP : Fld := ⟨R.TEMP_MAX, 0, 16⟩
def F.TEMP_MAX.SENSOR : Fld := ⟨R.TEMP_MAX, 16, 3⟩
def R.REFn_CTRL (n : Nat) : Nat := 0x8000 + n * 0x40
def F.REFn_CTRL.EN (n : Nat) : Fld := ⟨R.REFn_CTRL n, 0, 1⟩
def F.REFn_CTRL.SE (n : Nat) : Fld := ⟨R.REFn_CTRL n, 1, 1⟩
def F.REFn_CTRL.INVERT (n : Nat) : Fld := ⟨R.REFn_CTRL n, 2, 1⟩
def R.REFn_NOM_LO (n : Nat) : Nat := 0x8004 + n * 0x40
def R.REFn_NOM_HI (n : Nat) : Nat := 0x8008 + n * 0x40
def R.REFn_NOM_DEN (n : Nat) : Nat := 0x800C + n * 0x40
def F.REFn_NOM_DEN.REF_NOM_DEN (n : Nat) : Fld := ⟨R.REFn_NOM_DEN n, 0, 24⟩
def R.REFn_FREQ_TOL (n : Nat) : Nat := 0x8010 + n * 0x40
def F.REFn_FREQ_TOL.FREQ_TOL (n : Nat) : Fld := ⟨R.REFn_FREQ_TOL n, 0, 24⟩
def R.REFn_MON_CFG (n : Nat) : Nat := 0x8014 + n * 0x40
def F.REFn_MON_CFG.ACT_TIMEOUT (n : Nat) : Fld := ⟨R.REFn_MON_CFG n, 0, 5⟩
def F.REFn_MON_CFG.QUAL_GATES (n : Nat) : Fld := ⟨R.REFn_MON_CFG n, 8, 8⟩
def F.REFn_MON_CFG.REF_GATE (n : Nat) : Fld := ⟨R.REFn_MON_CFG n, 16, 16⟩
def R.REFn_STATUS (n : Nat) : Nat := 0x8020 + n * 0x40
def F.REFn_STATUS.STATE (n : Nat) : Fld := ⟨R.REFn_STATUS n, 0, 2⟩
def F.REFn_STATUS.ACTIVE (n : Nat) : Fld := ⟨R.REFn_STATUS n, 2, 1⟩
def F.REFn_STATUS.FREQ_OK (n : Nat) : Fld := ⟨R.REFn_STATUS n, 3, 1⟩
def R.REFn_EVENT (n : Nat) : Nat := 0x8024 + n * 0x40
def F.REFn_EVENT.LOST (n : Nat) : Fld := ⟨R.REFn_EVENT n, 0, 1⟩
def F.REFn_EVENT.VALID (n : Nat) : Fld := ⟨R.REFn_EVENT n, 8, 1⟩
def F.REFn_EVENT.FREQ_FAIL (n : Nat) : Fld := ⟨R.REFn_EVENT n, 16, 1⟩
def R.REFn_FOFF (n : Nat) : Nat := 0x8028 + n * 0x40
def R.REF_OSC_STATUS : Nat := 0x8200
def F.REF_OSC_STATUS.OSC_ACTIVE : Fld := ⟨R.REF_OSC_STATUS, 0, 1⟩
def F.REF_OSC_STATUS.OSC_SE : Fld := ⟨R.REF_OSC_STATUS, 1, 1⟩
def R.REF_OSC_NOM : Nat := 0x8204
def F.REF_OSC_NOM.OSC_NOM : Fld := ⟨R.REF_OSC_NOM, 0, 28⟩
def R.MSn_CTRL (n : Nat) : Nat := 0x10000 + n * 0x1000
def F.MSn_CTRL.EN (n : Nat) : Fld := ⟨R.MSn_CTRL n, 0, 1⟩
def F.MSn_CTRL.OSC_PRE (n : Nat) : Fld := ⟨R.MSn_CTRL n, 1, 2⟩
def F.MSn_CTRL.MOD_ORDER (n : Nat) : Fld := ⟨R.MSn_CTRL n, 3, 2⟩
def F.MSn_CTRL.DITHER (n : Nat) : Fld := ⟨R.MSn_CTRL n, 5, 1⟩
def F.MSn_CTRL.AUTO_REACQ (n : Nat) : Fld := ⟨R.MSn_CTRL n, 6, 1⟩
def F.MSn_CTRL.BAND_FORCE_EN (n : Nat) : Fld := ⟨R.MSn_CTRL n, 7, 1⟩
def F.MSn_CTRL.BAND_FORCE (n : Nat) : Fld := ⟨R.MSn_CTRL n, 8, 6⟩
def R.MSn_NINT (n : Nat) : Nat := 0x10004 + n * 0x1000
def F.MSn_NINT.N_INT (n : Nat) : Fld := ⟨R.MSn_NINT n, 0, 13⟩
def R.MSn_NFRAC_LO (n : Nat) : Nat := 0x10008 + n * 0x1000
def R.MSn_NFRAC_HI (n : Nat) : Nat := 0x1000C + n * 0x1000
def R.MSn_NMOD_LO (n : Nat) : Nat := 0x10010 + n * 0x1000
def R.MSn_NMOD_HI (n : Nat) : Nat := 0x10014 + n * 0x1000
def R.MSn_LOCK_CFG (n : Nat) : Nat := 0x10018 + n * 0x1000
def F.MSn_LOCK_CFG.LOCK_WIN (n : Nat) : Fld := ⟨R.MSn_LOCK_CFG n, 0, 8⟩
def F.MSn_LOCK_CFG.LOCK_CNT (n : Nat) : Fld := ⟨R.MSn_LOCK_CFG n, 16, 16⟩
def R.MSn_BAND_GUARD (n : Nat) : Nat := 0x1001C + n * 0x1000
def F.MSn_BAND_GUARD.BAND_GUARD (n : Nat) : Fld := ⟨R.MSn_BAND_GUARD n, 0, 16⟩
def F.MSn_BAND_GUARD.MS_SETTLE (n : Nat) : Fld := ⟨R.MSn_BAND_GUARD n, 16, 16⟩
def R.MSn_STATUS (n : Nat) : Nat := 0x10020 + n * 0x1000
def F.MSn_STATUS.ENABLED (n : Nat) : Fld := ⟨R.MSn_STATUS n, 0, 1⟩
def F.MSn_STATUS.ACQUIRING (n : Nat) : Fld := ⟨R.MSn_STATUS n, 1, 1⟩
def F.MSn_STATUS.LOCKED (n : Nat) : Fld := ⟨R.MSn_STATUS n, 2, 1⟩
def F.MSn_STATUS.RAMPING (n : Nat) : Fld := ⟨R.MSn_STATUS n, 3, 1⟩
def F.MSn_STATUS.SSC_ACTIVE (n : Nat) : Fld := ⟨R.MSn_STATUS n, 4, 1⟩
def F.MSn_STATUS.SURVEYING (n : Nat) : Fld := ⟨R.MSn_STATUS n, 5, 1⟩
def F.MSn_STATUS.NO_BAND (n : Nat) : Fld := ⟨R.MSn_STATUS n, 6, 1⟩
def F.MSn_STATUS.BYPASS_ACTIVE (n : Nat) : Fld := ⟨R.MSn_STATUS n, 7, 1⟩
def F.MSn_STATUS.BAND (n : Nat) : Fld := ⟨R.MSn_STATUS n, 8, 6⟩
def R.MSn_EVENT (n : Nat) : Nat := 0x10024 + n * 0x1000
def F.MSn_EVENT.LOCK_GAINED (n : Nat) : Fld := ⟨R.MSn_EVENT n, 0, 1⟩
def F.MSn_EVENT.LOCK_LOST (n : Nat) : Fld := ⟨R.MSn_EVENT n, 8, 1⟩
def F.MSn_EVENT.SLIP (n : Nat) : Fld := ⟨R.MSn_EVENT n, 16, 1⟩
def F.MSn_EVENT.STEER_LIMIT (n : Nat) : Fld := ⟨R.MSn_EVENT n, 24, 1⟩
def R.MSn_PHERR (n : Nat) : Nat := 0x10028 + n * 0x1000
def F.MSn_PHERR.PHERR (n : Nat) : Fld := ⟨R.MSn_PHERR n, 0, 16⟩
def R.MSn_EVENT2 (n : Nat) : Nat := 0x1002C + n * 0x1000
def F.MSn_EVENT2.RAMP_DONE (n : Nat) : Fld := ⟨R.MSn_EVENT2 n, 0, 1⟩
def F.MSn_EVENT2.RAMP_ABORTED (n : Nat) : Fld := ⟨R.MSn_EVENT2 n, 8, 1⟩
def F.MSn_EVENT2.SURVEY_DONE (n : Nat) : Fld := ⟨R.MSn_EVENT2 n, 16, 1⟩
def F.MSn_EVENT2.NO_BAND (n : Nat) : Fld := ⟨R.MSn_EVENT2 n, 24, 1⟩
def R.MSn_STEER_LO (n : Nat) : Nat := 0x10030 + n * 0x1000
def R.MSn_STEER_HI (n : Nat) : Nat := 0x10034 + n * 0x1000
def R.MSn_SSC_CFG (n : Nat) : Nat := 0x10040 + n * 0x1000
def F.MSn_SSC_CFG.SSC_MODE (n : Nat) : Fld := ⟨R.MSn_SSC_CFG n, 0, 2⟩
def F.MSn_SSC_CFG.SSC_DEPTH (n : Nat) : Fld := ⟨R.MSn_SSC_CFG n, 4, 10⟩
def F.MSn_SSC_CFG.SSC_RATE (n : Nat) : Fld := ⟨R.MSn_SSC_CFG n, 16, 16⟩
def R.MSn_RAMP_CTRL (n : Nat) : Nat := 0x10044 + n * 0x1000
def F.MSn_RAMP_CTRL.START (n : Nat) : Fld := ⟨R.MSn_RAMP_CTRL n, 0, 1⟩
def F.MSn_RAMP_CTRL.ABORT (n : Nat) : Fld := ⟨R.MSn_RAMP_CTRL n, 1, 1⟩
def R.MSn_RAMP_TICK_LO (n : Nat) : Nat := 0x10048 + n * 0x1000
def R.MSn_RAMP_TICK_HI (n : Nat) : Nat := 0x1004C + n * 0x1000
def R.MSn_DPLL_CTRL (n : Nat) : Nat := 0x10050 + n * 0x1000
def F.MSn_DPLL_CTRL.DPLL_EN (n : Nat) : Fld := ⟨R.MSn_DPLL_CTRL n, 0, 1⟩
def F.MSn_DPLL_CTRL.SEL_MODE (n : Nat) : Fld := ⟨R.MSn_DPLL_CTRL n, 1, 2⟩
def F.MSn_DPLL_CTRL.MANUAL_REF (n : Nat) : Fld := ⟨R.MSn_DPLL_CTRL n, 4, 3⟩
def F.MSn_DPLL_CTRL.PBO (n : Nat) : Fld := ⟨R.MSn_DPLL_CTRL n, 7, 1⟩
def F.MSn_DPLL_CTRL.FORCE_HOLDOVER (n : Nat) : Fld := ⟨R.MSn_DPLL_CTRL n, 8, 1⟩
def R.MSn_DPLL_BW (n : Nat) : Nat := 0x10054 + n * 0x1000
def F.MSn_DPLL_BW.BW (n : Nat) : Fld := ⟨R.MSn_DPLL_BW n, 0, 20⟩
def R.MSn_DPLL_FAST_BW (n : Nat) : Nat := 0x10058 + n * 0x1000
def F.MSn_DPLL_FAST_BW.BW (n : Nat) : Fld := ⟨R.MSn_DPLL_FAST_BW n, 0, 20⟩
def R.MSn_DPLL_PRIO (n : Nat) : Nat := 0x1005C + n * 0x1000
def F.MSn_DPLL_PRIO.PRIO_0 (n : Nat) : Fld := ⟨R.MSn_DPLL_PRIO n, 0, 4⟩
def F.MSn_DPLL_PRIO.PRIO_1 (n : Nat) : Fld := ⟨R.MSn_DPLL_PRIO n, 4, 4⟩
def F.MSn_DPLL_PRIO.PRIO_2 (n : Nat) : Fld := ⟨R.MSn_DPLL_PRIO n, 8, 4⟩
def F.MSn_DPLL_PRIO.PRIO_3 (n : Nat) : Fld := ⟨R.MSn_DPLL_PRIO n, 12, 4⟩
def F.MSn_DPLL_PRIO.PRIO_4 (n : Nat) : Fld := ⟨R.MSn_DPLL_PRIO n, 16, 4⟩
def F.MSn_DPLL_PRIO.PRIO_5 (n : Nat) : Fld := ⟨R.MSn_DPLL_PRIO n, 20, 4⟩
def F.MSn_DPLL_PRIO.PRIO_6 (n : Nat) : Fld := ⟨R.MSn_DPLL_PRIO n, 24, 4⟩
def F.MSn_DPLL_PRIO.PRIO_7 (n : Nat) : Fld := ⟨R.MSn_DPLL_PRIO n, 28, 4⟩
def R.MSn_DPLL_LOCK (n : Nat) : Nat := 0x10060 + n * 0x1000
def F.MSn_DPLL_LOCK.DPLL_LOCK_WIN (n : Nat) : Fld := ⟨R.MSn_DPLL_LOCK n, 0, 16⟩
def F.MSn_DPLL_LOCK.DPLL_LOCK_CNT (n : Nat) : Fld := ⟨R.MSn_DPLL_LOCK n, 16, 16⟩
def R.MSn_DPLL_LIMITS (n : Nat) : Nat := 0x10064 + n * 0x1000
def F.MSn_DPLL_LIMITS.STEER_LIMIT (n : Nat) : Fld := ⟨R.MSn_DPLL_LIMITS n, 0, 18⟩
def F.MSn_DPLL_LIMITS.REVERT_HOLD (n : Nat) : Fld := ⟨R.MSn_DPLL_LIMITS n, 18, 14⟩
def R.MSn_DPLL_STATUS (n : Nat) : Nat := 0x10070 + n * 0x1000
def F.MSn_DPLL_STATUS.STATE (n : Nat) : Fld := ⟨R.MSn_DPLL_STATUS n, 0, 2⟩
def F.MSn_DPLL_STATUS.CUR_REF (n : Nat) : Fld := ⟨R.MSn_DPLL_STATUS n, 4, 3⟩
def F.MSn_DPLL_STATUS.CUR_REF_VALID (n : Nat) : Fld := ⟨R.MSn_DPLL_STATUS n, 7, 1⟩
def F.MSn_DPLL_STATUS.MODEL_VALID (n : Nat) : Fld := ⟨R.MSn_DPLL_STATUS n, 8, 1⟩
def F.MSn_DPLL_STATUS.EXTRAP (n : Nat) : Fld := ⟨R.MSn_DPLL_STATUS n, 9, 1⟩
def F.MSn_DPLL_STATUS.STEER_LIMITED (n : Nat) : Fld := ⟨R.MSn_DPLL_STATUS n, 10, 1⟩
def F.MSn_DPLL_STATUS.BW_CLAMPED (n : Nat) : Fld := ⟨R.MSn_DPLL_STATUS n, 11, 1⟩
def R.MSn_DPLL_EVENT (n : Nat) : Nat := 0x10074 + n * 0x1000
def F.MSn_DPLL_EVENT.REF_SWITCH (n : Nat) : Fld := ⟨R.MSn_DPLL_EVENT n, 0, 1⟩
def F.MSn_DPLL_EVENT.HOLDOVER_ENTER (n : Nat) : Fld := ⟨R.MSn_DPLL_EVENT n, 8, 1⟩
def F.MSn_DPLL_EVENT.HOLDOVER_EXIT (n : Nat) : Fld := ⟨R.MSn_DPLL_EVENT n, 16, 1⟩
def F.MSn_DPLL_EVENT.DPLL_LOCKED (n : Nat) : Fld := ⟨R.MSn_DPLL_EVENT n, 24, 1⟩
def R.MSn_DPLL_PHERR (n : Nat) : Nat := 0x10078 + n * 0x1000
def R.MSn_HOLD_A0_LO (n : Nat) : Nat := 0x10080 + n * 0x1000
def R.MSn_HOLD_A0_HI (n : Nat) : Nat := 0x10084 + n * 0x1000
def R.MSn_HOLD_A1_LO (n : Nat) : Nat := 0x10088 + n * 0x1000
def R.MSn_HOLD_A1_HI (n : Nat) : Nat := 0x1008C + n * 0x1000
def R.MSn_HOLD_A2_LO (n : Nat) : Nat := 0x10090 + n * 0x1000
def R.MSn_HOLD_A2_HI (n : Nat) : Nat := 0x10094 + n * 0x1000
def R.MSn_HOLD_D_LO (n : Nat) : Nat := 0x10098 + n * 0x1000
def R.MSn_HOLD_D_HI (n : Nat) : Nat := 0x1009C + n * 0x1000
def R.MSn_HOLD_CFG (n : Nat) : Nat := 0x100A0 + n * 0x1000
def F.MSn_HOLD_CFG.LEARN_MIN (n : Nat) : Fld := ⟨R.MSn_HOLD_CFG n, 0, 16⟩
def F.MSn_HOLD_CFG.AVG_TIME (n : Nat) : Fld := ⟨R.MSn_HOLD_CFG n, 16, 16⟩
def R.MSn_HOLD_TEMP (n : Nat) : Nat := 0x100A4 + n * 0x1000
def F.MSn_HOLD_TEMP.T_REF (n : Nat) : Fld := ⟨R.MSn_HOLD_TEMP n, 0, 16⟩
def F.MSn_HOLD_TEMP.EXT_EN (n : Nat) : Fld := ⟨R.MSn_HOLD_TEMP n, 16, 1⟩
def R.MSn_HOLD_EXT_TEMP (n : Nat) : Nat := 0x100A8 + n * 0x1000
def F.MSn_HOLD_EXT_TEMP.EXT_TEMP (n : Nat) : Fld := ⟨R.MSn_HOLD_EXT_TEMP n, 0, 16⟩
def R.MSn_SEG_TARGET_LO (n : Nat) (i : Nat) : Nat := 0x10200 + n * 0x1000 + i * 0x10
def R.MSn_SEG_TARGET_HI (n : Nat) (i : Nat) : Nat := 0x10204 + n * 0x1000 + i * 0x10
def R.MSn_SEG_SLOPE (n : Nat) (i : Nat) : Nat := 0x10208 + n * 0x1000 + i * 0x10
def R.MSn_SEG_DWELL (n : Nat) (i : Nat) : Nat := 0x1020C + n * 0x1000 + i * 0x10
def F.MSn_SEG_DWELL.DWELL (n : Nat) (i : Nat) : Fld := ⟨R.MSn_SEG_DWELL n i, 0, 16⟩
def F.MSn_SEG_DWELL.LAST (n : Nat) (i : Nat) : Fld := ⟨R.MSn_SEG_DWELL n i, 16, 1⟩
def R.BAND_CAP (n : Nat) (i : Nat) : Nat := 0x14000 + n * 0x400 + i * 0x10
def F.BAND_CAP.CAP_CODE (n : Nat) (i : Nat) : Fld := ⟨R.BAND_CAP n i, 0, 10⟩
def F.BAND_CAP.VALID (n : Nat) (i : Nat) : Fld := ⟨R.BAND_CAP n i, 16, 1⟩
def F.BAND_CAP.SURVEYED (n : Nat) (i : Nat) : Fld := ⟨R.BAND_CAP n i, 17, 1⟩
def R.BAND_F_LO (n : Nat) (i : Nat) : Nat := 0x14004 + n * 0x400 + i * 0x10
def R.BAND_F_HI (n : Nat) (i : Nat) : Nat := 0x14008 + n * 0x400 + i * 0x10
def R.BAND_KDCO (n : Nat) (i : Nat) : Nat := 0x1400C + n * 0x400 + i * 0x10
def F.BAND_KDCO.KDCO (n : Nat) (i : Nat) : Fld := ⟨R.BAND_KDCO n i, 0, 16⟩
def F.BAND_KDCO.SURVEY_TEMP (n : Nat) (i : Nat) : Fld := ⟨R.BAND_KDCO n i, 16, 16⟩
def R.OUTn_CTRL (n : Nat) : Nat := 0x20000 + n * 0x400
def F.OUTn_CTRL.EN (n : Nat) : Fld := ⟨R.OUTn_CTRL n, 0, 1⟩
def F.OUTn_CTRL.PATH (n : Nat) : Fld := ⟨R.OUTn_CTRL n, 1, 1⟩
def F.OUTn_CTRL.SRC_MS (n : Nat) : Fld := ⟨R.OUTn_CTRL n, 2, 2⟩
def R.OUTn_FMT (n : Nat) : Nat := 0x20004 + n * 0x400
def F.OUTn_FMT.FORMAT (n : Nat) : Fld := ⟨R.OUTn_FMT n, 0, 3⟩
def F.OUTn_FMT.LEVEL (n : Nat) : Fld := ⟨R.OUTn_FMT n, 4, 2⟩
def F.OUTn_FMT.LVCMOS_N (n : Nat) : Fld := ⟨R.OUTn_FMT n, 6, 2⟩
def R.OUTn_DIV (n : Nat) : Nat := 0x20008 + n * 0x400
def F.OUTn_DIV.DIV (n : Nat) : Fld := ⟨R.OUTn_DIV n, 0, 16⟩
def R.OUTn_FOD_INT (n : Nat) : Nat := 0x2000C + n * 0x400
def F.OUTn_FOD_INT.D_INT (n : Nat) : Fld := ⟨R.OUTn_FOD_INT n, 0, 24⟩
def R.OUTn_FOD_FRAC_LO (n : Nat) : Nat := 0x20010 + n * 0x400
def R.OUTn_FOD_FRAC_HI (n : Nat) : Nat := 0x20014 + n * 0x400
def R.OUTn_FOD_MOD_LO (n : Nat) : Nat := 0x20018 + n * 0x400
def R.OUTn_FOD_MOD_HI (n : Nat) : Nat := 0x2001C + n * 0x400
def R.OUTn_PHASE_LO (n : Nat) : Nat := 0x20020 + n * 0x400
def R.OUTn_PHASE_HI (n : Nat) : Nat := 0x20024 + n * 0x400
def R.OUTn_PH_SLEW (n : Nat) : Nat := 0x20028 + n * 0x400
def F.OUTn_PH_SLEW.PH_SLEW (n : Nat) : Fld := ⟨R.OUTn_PH_SLEW n, 0, 12⟩
def R.OUTn_BYPASS (n : Nat) : Nat := 0x2002C + n * 0x400
def F.OUTn_BYPASS.BYP_TYPE (n : Nat) : Fld := ⟨R.OUTn_BYPASS n, 0, 1⟩
def F.OUTn_BYPASS.BYP_REF (n : Nat) : Fld := ⟨R.OUTn_BYPASS n, 1, 3⟩
def F.OUTn_BYPASS.BYP_DIV (n : Nat) : Fld := ⟨R.OUTn_BYPASS n, 4, 10⟩
def F.OUTn_BYPASS.RETURN_AUTO (n : Nat) : Fld := ⟨R.OUTn_BYPASS n, 16, 1⟩
def R.OUTn_SETTLE (n : Nat) : Nat := 0x20030 + n * 0x400
def F.OUTn_SETTLE.CH_SETTLE (n : Nat) : Fld := ⟨R.OUTn_SETTLE n, 0, 16⟩
def R.OUTn_START_TICK_LO (n : Nat) : Nat := 0x20034 + n * 0x400
def R.OUTn_START_TICK_HI (n : Nat) : Nat := 0x20038 + n * 0x400
def R.OUTn_STATUS (n : Nat) : Nat := 0x20040 + n * 0x400
def F.OUTn_STATUS.CH_STATE (n : Nat) : Fld := ⟨R.OUTn_STATUS n, 0, 3⟩
def F.OUTn_STATUS.OUT_STATE (n : Nat) : Fld := ⟨R.OUTn_STATUS n, 4, 3⟩
def F.OUTn_STATUS.SLEWING (n : Nat) : Fld := ⟨R.OUTn_STATUS n, 7, 1⟩
def F.OUTn_STATUS.SWITCHING (n : Nat) : Fld := ⟨R.OUTn_STATUS n, 8, 1⟩
def F.OUTn_STATUS.GEN (n : Nat) : Fld := ⟨R.OUTn_STATUS n, 16, 8⟩
def R.OUTn_EVENT (n : Nat) : Nat := 0x20044 + n * 0x400
def F.OUTn_EVENT.STARTED (n : Nat) : Fld := ⟨R.OUTn_EVENT n, 0, 1⟩
def F.OUTn_EVENT.START_LATE (n : Nat) : Fld := ⟨R.OUTn_EVENT n, 8, 1⟩
def F.OUTn_EVENT.STOPPED (n : Nat) : Fld := ⟨R.OUTn_EVENT n, 16, 1⟩
def F.OUTn_EVENT.GUARD (n : Nat) : Fld := ⟨R.OUTn_EVENT n, 24, 1⟩
def R.OUTn_PHASE_NOW_LO (n : Nat) : Nat := 0x20048 + n * 0x400
def R.OUTn_PHASE_NOW_HI (n : Nat) : Nat := 0x2004C + n * 0x400
def R.OUTn_GUARD_COUNT (n : Nat) : Nat := 0x20050 + n * 0x400
def R.OUTn_EVENT2 (n : Nat) : Nat := 0x20054 + n * 0x400
def F.OUTn_EVENT2.BYPASS_ENTER (n : Nat) : Fld := ⟨R.OUTn_EVENT2 n, 0, 1⟩
def F.OUTn_EVENT2.BYPASS_EXIT (n : Nat) : Fld := ⟨R.OUTn_EVENT2 n, 8, 1⟩
def F.OUTn_EVENT2.PARKED (n : Nat) : Fld := ⟨R.OUTn_EVENT2 n, 16, 1⟩
def R.OUT_BANKb_STATUS (n : Nat) : Nat := 0x28000 + n * 0x10
def F.OUT_BANKb_STATUS.VDDO_LEVEL (n : Nat) : Fld := ⟨R.OUT_BANKb_STATUS n, 0, 2⟩
def F.OUT_BANKb_STATUS.PD_ON (n : Nat) : Fld := ⟨R.OUT_BANKb_STATUS n, 2, 1⟩
def R.TIME_CTRL : Nat := 0x30000
def F.TIME_CTRL.SRC : Fld := ⟨R.TIME_CTRL, 0, 2⟩
def F.TIME_CTRL.TIME_DPLL : Fld := ⟨R.TIME_CTRL, 2, 2⟩
def F.TIME_CTRL.PPS_IN_EN : Fld := ⟨R.TIME_CTRL, 4, 1⟩
def F.TIME_CTRL.PPS_OUT_EN : Fld := ⟨R.TIME_CTRL, 5, 1⟩
def F.TIME_CTRL.PPS_IN_EDGE : Fld := ⟨R.TIME_CTRL, 6, 1⟩
def F.TIME_CTRL.AUTO_STEP : Fld := ⟨R.TIME_CTRL, 7, 1⟩
def F.TIME_CTRL.TRACEABLE : Fld := ⟨R.TIME_CTRL, 8, 1⟩
def R.TIME_STATUS : Nat := 0x30004
def F.TIME_STATUS.STATE : Fld := ⟨R.TIME_STATUS, 0, 2⟩
def F.TIME_STATUS.TIME_VALID : Fld := ⟨R.TIME_STATUS, 2, 1⟩
def F.TIME_STATUS.SLEWING : Fld := ⟨R.TIME_STATUS, 3, 1⟩
def F.TIME_STATUS.STEP_PENDING : Fld := ⟨R.TIME_STATUS, 4, 1⟩
def F.TIME_STATUS.STEP_BLOCKED : Fld := ⟨R.TIME_STATUS, 5, 1⟩
def F.TIME_STATUS.BYPASS_CLK : Fld := ⟨R.TIME_STATUS, 6, 1⟩
def R.TIME_EVENT : Nat := 0x30008
def F.TIME_EVENT.STEPPED : Fld := ⟨R.TIME_EVENT, 0, 1⟩
def F.TIME_EVENT.SLEW_DONE : Fld := ⟨R.TIME_EVENT, 8, 1⟩
def F.TIME_EVENT.HOLDOVER_ENTER : Fld := ⟨R.TIME_EVENT, 16, 1⟩
def F.TIME_EVENT.HOLDOVER_EXIT : Fld := ⟨R.TIME_EVENT, 24, 1⟩
def R.TIME_CAP_CTRL : Nat := 0x3000C
def F.TIME_CAP_CTRL.CAPTURE : Fld := ⟨R.TIME_CAP_CTRL, 0, 1⟩
def R.TIME_CAP_SEC_LO : Nat := 0x30010
def R.TIME_CAP_SEC_HI : Nat := 0x30014
def R.TIME_CAP_NS : Nat := 0x30018
def R.TIME_CAP_FRAC : Nat := 0x3001C
def F.TIME_CAP_FRAC.FRAC : Fld := ⟨R.TIME_CAP_FRAC, 0, 16⟩
def R.TIME_CAP_TICK_LO : Nat := 0x30020
def R.TIME_CAP_TICK_HI : Nat := 0x30024
def R.TIME_CAP_OPTIME_LO : Nat := 0x30028
def R.TIME_CAP_OPTIME_HI : Nat := 0x3002C
def R.TIME_CAP_PCC : Nat := 0x30030
def F.TIME_CAP_PCC.PCC : Fld := ⟨R.TIME_CAP_PCC, 0, 20⟩
def R.TIME_CAP_STATUS : Nat := 0x30034
def F.TIME_CAP_STATUS.STATUS : Fld := ⟨R.TIME_CAP_STATUS, 0, 7⟩
def R.TIME_SLEW_MAX : Nat := 0x30038
def F.TIME_SLEW_MAX.SLEW_MAX : Fld := ⟨R.TIME_SLEW_MAX, 0, 14⟩
def R.TIME_SERVO : Nat := 0x3003C
def F.TIME_SERVO.LOCK_WIN : Fld := ⟨R.TIME_SERVO, 0, 16⟩
def F.TIME_SERVO.STEP_THRESH : Fld := ⟨R.TIME_SERVO, 16, 16⟩
def R.TIME_OFFSET_LO : Nat := 0x30040
def R.TIME_OFFSET_HI : Nat := 0x30044
def R.TIME_EPOCH_SEC_LO : Nat := 0x30048
def R.TIME_EPOCH_SEC_HI : Nat := 0x3004C
def R.TIME_EPOCH_NS : Nat := 0x30050
def R.TIME_EPOCH_FRAC : Nat := 0x30054
def F.TIME_EPOCH_FRAC.FRAC : Fld := ⟨R.TIME_EPOCH_FRAC, 0, 16⟩
def R.TIME_UTC_OFFSET : Nat := 0x30058
def F.TIME_UTC_OFFSET.UTC_OFFSET : Fld := ⟨R.TIME_UTC_OFFSET, 0, 16⟩
def F.TIME_UTC_OFFSET.UTC_VALID : Fld := ⟨R.TIME_UTC_OFFSET, 16, 1⟩
def R.TIME_PPS_CFG : Nat := 0x30060
def F.TIME_PPS_CFG.PPS_WIDTH : Fld := ⟨R.TIME_PPS_CFG, 0, 9⟩
def R.TIME_PPS_IN_DELAY : Nat := 0x30064
def R.TIME_PPS_OUT_DELAY : Nat := 0x30068
def R.TIME_PPS_IN_ERR : Nat := 0x3006C
def R.TIME_PPS_IN_BAD : Nat := 0x30070
def R.TIME_STEP_COUNT : Nat := 0x30074
def R.PTP_DISCARD_COUNT : Nat := 0x30078
def R.PTP_CFG : Nat := 0x30080
def F.PTP_CFG.PROFILE : Fld := ⟨R.PTP_CFG, 0, 1⟩
def F.PTP_CFG.DOMAIN : Fld := ⟨R.PTP_CFG, 1, 7⟩
def F.PTP_CFG.ACCURACY : Fld := ⟨R.PTP_CFG, 8, 8⟩
def F.PTP_CFG.PRIORITY1 : Fld := ⟨R.PTP_CFG, 16, 8⟩
def F.PTP_CFG.PRIORITY2 : Fld := ⟨R.PTP_CFG, 24, 8⟩
def R.PTP_CLASS : Nat := 0x30084
def F.PTP_CLASS.CLASS_LOCKED : Fld := ⟨R.PTP_CLASS, 0, 8⟩
def F.PTP_CLASS.CLASS_HOLD : Fld := ⟨R.PTP_CLASS, 8, 8⟩
def F.PTP_CLASS.CLASS_FREE : Fld := ⟨R.PTP_CLASS, 16, 8⟩
def F.PTP_CLASS.EXT_PORT_CFG : Fld := ⟨R.PTP_CLASS, 24, 1⟩
def R.PTP_INTERVALS : Nat := 0x30088
def F.PTP_INTERVALS.LOG_SYNC : Fld := ⟨R.PTP_INTERVALS, 0, 8⟩
def F.PTP_INTERVALS.LOG_ANNOUNCE : Fld := ⟨R.PTP_INTERVALS, 8, 8⟩
def F.PTP_INTERVALS.LOG_PDELAY : Fld := ⟨R.PTP_INTERVALS, 16, 8⟩
def F.PTP_INTERVALS.ANNOUNCE_TIMEOUT : Fld := ⟨R.PTP_INTERVALS, 24, 8⟩
def R.PTP_PORT_EN (n : Nat) : Nat := 0x30100 + n * 0x4
def R.TICK_CTRL : Nat := 0x34000
def F.TICK_CTRL.DEG_HOLD : Fld := ⟨R.TICK_CTRL, 0, 1⟩
def R.TICK_STATUS : Nat := 0x34004
def F.TICK_STATUS.RUNNING : Fld := ⟨R.TICK_STATUS, 0, 1⟩
def F.TICK_STATUS.TRANSITIONAL : Fld := ⟨R.TICK_STATUS, 1, 1⟩
def F.TICK_STATUS.PERIOD_PENDING : Fld := ⟨R.TICK_STATUS, 2, 1⟩
def F.TICK_STATUS.SCHED_REJECTED : Fld := ⟨R.TICK_STATUS, 3, 1⟩
def F.TICK_STATUS.PHASE : Fld := ⟨R.TICK_STATUS, 4, 3⟩
def F.TICK_STATUS.EPOCH_PENDING : Fld := ⟨R.TICK_STATUS, 7, 1⟩
def R.TICK_EVENT : Nat := 0x34008
def F.TICK_EVENT.FB_CUTOFF : Fld := ⟨R.TICK_EVENT, 0, 1⟩
def F.TICK_EVENT.COMPUTE : Fld := ⟨R.TICK_EVENT, 8, 1⟩
def F.TICK_EVENT.PUBLISH : Fld := ⟨R.TICK_EVENT, 16, 1⟩
def F.TICK_EVENT.GAP : Fld := ⟨R.TICK_EVENT, 24, 1⟩
def R.TICK_EVENT2 : Nat := 0x3400C
def F.TICK_EVENT2.PERIOD_CHANGED : Fld := ⟨R.TICK_EVENT2, 0, 1⟩
def F.TICK_EVENT2.TRUNCATED : Fld := ⟨R.TICK_EVENT2, 8, 1⟩
def F.TICK_EVENT2.SCHED_REJECTED : Fld := ⟨R.TICK_EVENT2, 16, 1⟩
def R.TICK_PERIOD_LO : Nat := 0x34010
def R.TICK_PERIOD_HI : Nat := 0x34014
def R.TICK_PERIOD_DEN : Nat := 0x34018
def F.TICK_PERIOD_DEN.PER_DEN : Fld := ⟨R.TICK_PERIOD_DEN, 0, 16⟩
def R.TICK_EPOCH_REM : Nat := 0x3401C
def F.TICK_EPOCH_REM.EPOCH_REM : Fld := ⟨R.TICK_EPOCH_REM, 0, 16⟩
def R.TICK_INDEX_LO : Nat := 0x34020
def R.TICK_INDEX_HI : Nat := 0x34024
def R.TICK_SCHED0 : Nat := 0x34030
def F.TICK_SCHED0.FB_CUT : Fld := ⟨R.TICK_SCHED0, 0, 10⟩
def F.TICK_SCHED0.CS : Fld := ⟨R.TICK_SCHED0, 16, 10⟩
def R.TICK_SCHED1 : Nat := 0x34034
def F.TICK_SCHED1.PUB : Fld := ⟨R.TICK_SCHED1, 0, 10⟩
def F.TICK_SCHED1.PUB_MARGIN : Fld := ⟨R.TICK_SCHED1, 16, 14⟩
def R.TICK_FB_MISS_COUNT : Nat := 0x34040
def R.TICK_COMPUTE_MISS_COUNT : Nat := 0x34044
def R.TICK_PUBLISH_MISS_COUNT : Nat := 0x34048
def R.TICK_GAP_MISS_COUNT : Nat := 0x3404C
def R.TICK_FB_LATE_COUNT : Nat := 0x34050
def R.TICK_TRUNC_COUNT : Nat := 0x34054
def R.TICK_APPLY_DEFER_COUNT : Nat := 0x34058
def R.TICK_LAST_COMPUTE_END : Nat := 0x34060
def F.TICK_LAST_COMPUTE_END.END : Fld := ⟨R.TICK_LAST_COMPUTE_END, 0, 24⟩
def R.TICK_LAST_PUBLISH_END : Nat := 0x34064
def F.TICK_LAST_PUBLISH_END.END : Fld := ⟨R.TICK_LAST_PUBLISH_END, 0, 24⟩
def R.TICK_MAX_PUBLISH_END : Nat := 0x34068
def F.TICK_MAX_PUBLISH_END.MAX_END : Fld := ⟨R.TICK_MAX_PUBLISH_END, 0, 24⟩
def R.TICK_MISS_INDEX_LO : Nat := 0x34070
def R.TICK_MISS_INDEX_HI : Nat := 0x34074
def R.SHAFT_WINDOW (n : Nat) (i : Nat) : Nat := 0x40000 + n * 0x80 + i * 0x4
def R.SHAFT_ACTIVE_LO : Nat := 0x42000
def R.SHAFT_ACTIVE_HI : Nat := 0x42004
def R.FOL_WINDOW (n : Nat) (i : Nat) : Nat := 0x50000 + n * 0x20 + i * 0x4
def R.LINK_CTRL : Nat := 0x70000
def F.LINK_CTRL.EN : Fld := ⟨R.LINK_CTRL, 0, 1⟩
def F.LINK_CTRL.AN_EN : Fld := ⟨R.LINK_CTRL, 1, 1⟩
def F.LINK_CTRL.REF_SRC : Fld := ⟨R.LINK_CTRL, 2, 1⟩
def F.LINK_CTRL.REF_MS : Fld := ⟨R.LINK_CTRL, 3, 2⟩
def F.LINK_CTRL.TX_INV : Fld := ⟨R.LINK_CTRL, 8, 4⟩
def F.LINK_CTRL.RX_INV : Fld := ⟨R.LINK_CTRL, 12, 4⟩
def F.LINK_CTRL.CMD_EN : Fld := ⟨R.LINK_CTRL, 16, 1⟩
def R.LINK_STATUS : Nat := 0x70004
def F.LINK_STATUS.LINK_UP : Fld := ⟨R.LINK_STATUS, 0, 1⟩
def F.LINK_STATUS.AN_DONE : Fld := ⟨R.LINK_STATUS, 1, 1⟩
def F.LINK_STATUS.REF_BYPASS : Fld := ⟨R.LINK_STATUS, 2, 1⟩
def F.LINK_STATUS.TSYNC_OK : Fld := ⟨R.LINK_STATUS, 3, 1⟩
def F.LINK_STATUS.BP_ACTIVE : Fld := ⟨R.LINK_STATUS, 4, 1⟩
def F.LINK_STATUS.PAUSED : Fld := ⟨R.LINK_STATUS, 8, 8⟩
def R.LINK_EVENT : Nat := 0x70008
def F.LINK_EVENT.LINK_DOWN : Fld := ⟨R.LINK_EVENT, 0, 1⟩
def F.LINK_EVENT.LINK_UP : Fld := ⟨R.LINK_EVENT, 8, 1⟩
def F.LINK_EVENT.PORT_CHANGE : Fld := ⟨R.LINK_EVENT, 16, 1⟩
def F.LINK_EVENT.REF_BYPASS : Fld := ⟨R.LINK_EVENT, 24, 1⟩
def R.LINK_EVENT2 : Nat := 0x7000C
def F.LINK_EVENT2.AUTH_FAIL : Fld := ⟨R.LINK_EVENT2, 0, 1⟩
def F.LINK_EVENT2.REPLAY : Fld := ⟨R.LINK_EVENT2, 8, 1⟩
def F.LINK_EVENT2.REPORT_MISSING : Fld := ⟨R.LINK_EVENT2, 16, 1⟩
def F.LINK_EVENT2.TSYNC_LOST : Fld := ⟨R.LINK_EVENT2, 24, 1⟩
def R.LINK_ETYPE : Nat := 0x70010
def F.LINK_ETYPE.LINE_ETYPE : Fld := ⟨R.LINK_ETYPE, 0, 16⟩
def F.LINK_ETYPE.CARRIAGE_ETYPE : Fld := ⟨R.LINK_ETYPE, 16, 16⟩
def R.LINK_VLAN : Nat := 0x70014
def F.LINK_VLAN.VID : Fld := ⟨R.LINK_VLAN, 0, 12⟩
def F.LINK_VLAN.VLAN_EN : Fld := ⟨R.LINK_VLAN, 12, 1⟩
def R.LINK_MAC_LO : Nat := 0x70018
def R.LINK_MAC_HI : Nat := 0x7001C
def R.LINK_PEER_MAC_LO : Nat := 0x70020
def R.LINK_PEER_MAC_HI : Nat := 0x70024
def R.LINE_MCAST_LO : Nat := 0x70028
def R.LINE_MCAST_HI : Nat := 0x7002C
def R.LINK_LINE : Nat := 0x70030
def F.LINK_LINE.LINE_ID : Fld := ⟨R.LINK_LINE, 0, 16⟩
def F.LINK_LINE.DEVICE : Fld := ⟨R.LINK_LINE, 16, 6⟩
def R.LINK_CLASS : Nat := 0x70034
def F.LINK_CLASS.SS_TC : Fld := ⟨R.LINK_CLASS, 0, 3⟩
def F.LINK_CLASS.PTP_TC : Fld := ⟨R.LINK_CLASS, 4, 3⟩
def F.LINK_CLASS.CMD_TC : Fld := ⟨R.LINK_CLASS, 8, 3⟩
def R.LINK_SS_MARGIN : Nat := 0x70038
def F.LINK_SS_MARGIN.MARGIN : Fld := ⟨R.LINK_SS_MARGIN, 0, 16⟩
def R.LINK_SS_MASK (n : Nat) : Nat := 0x70040 + n * 0x4
def R.LINK_PFC : Nat := 0x70060
def F.LINK_PFC.RX_EN : Fld := ⟨R.LINK_PFC, 0, 8⟩
def F.LINK_PFC.TX_EN : Fld := ⟨R.LINK_PFC, 8, 8⟩
def R.LINK_TSYNC : Nat := 0x70064
def F.LINK_TSYNC.PERIOD : Fld := ⟨R.LINK_TSYNC, 0, 14⟩
def R.LINK_DELAY : Nat := 0x70068
def R.LINK_ASYM : Nat := 0x7006C
def R.LINK_CMD : Nat := 0x70070
def F.LINK_CMD.WINDOW : Fld := ⟨R.LINK_CMD, 0, 14⟩
def R.LINK_FEC_CORR : Nat := 0x70080
def R.LINK_FEC_UNCORR : Nat := 0x70084
def R.LINK_RX_DISCARD : Nat := 0x70088
def R.LINK_TX_DISCARD : Nat := 0x7008C
def R.LINK_REPORT_MISSING : Nat := 0x70090
def R.LINK_REPORT_LATE : Nat := 0x70094
def R.LINK_AUTH_FAIL : Nat := 0x70098
def R.LINK_REPLAY : Nat := 0x7009C
def R.LINK_FB_REJECT : Nat := 0x700A0
def R.LINK_PFC_RX : Nat := 0x700A4
def R.LINK_PORT_UP (n : Nat) : Nat := 0x70100 + n * 0x4
def R.LINK_PORT_MISS (n : Nat) : Nat := 0x70400 + n * 0x4
def R.LINK_KEY (n : Nat) (i : Nat) : Nat := 0x70800 + n * 0x80 + i * 0x8
def R.LINK_KEY_CTRL : Nat := 0x70900
def F.LINK_KEY_CTRL.VALID0 : Fld := ⟨R.LINK_KEY_CTRL, 0, 1⟩
def F.LINK_KEY_CTRL.VALID1 : Fld := ⟨R.LINK_KEY_CTRL, 1, 1⟩
def R.STORE_CTRL : Nat := 0x78000
def F.STORE_CTRL.EN : Fld := ⟨R.STORE_CTRL, 0, 1⟩
def F.STORE_CTRL.MIRROR_EVT : Fld := ⟨R.STORE_CTRL, 1, 1⟩
def R.STORE_STATUS : Nat := 0x78004
def F.STORE_STATUS.STATE : Fld := ⟨R.STORE_STATUS, 0, 3⟩
def F.STORE_STATUS.LINK_UP : Fld := ⟨R.STORE_STATUS, 3, 1⟩
def F.STORE_STATUS.FLUSH_MODE : Fld := ⟨R.STORE_STATUS, 4, 1⟩
def F.STORE_STATUS.STAGE_HALVED : Fld := ⟨R.STORE_STATUS, 5, 1⟩
def F.STORE_STATUS.STREAMS_RUNNING : Fld := ⟨R.STORE_STATUS, 8, 8⟩
def F.STORE_STATUS.WINDOWS : Fld := ⟨R.STORE_STATUS, 16, 16⟩
def R.STORE_EVENT : Nat := 0x78008
def F.STORE_EVENT.STATE_CHANGE : Fld := ⟨R.STORE_EVENT, 0, 1⟩
def F.STORE_EVENT.GAP : Fld := ⟨R.STORE_EVENT, 8, 1⟩
def F.STORE_EVENT.TRIGGER : Fld := ⟨R.STORE_EVENT, 16, 1⟩
def F.STORE_EVENT.IO_ERR : Fld := ⟨R.STORE_EVENT, 24, 1⟩
def R.STORE_STAGE_USED : Nat := 0x7800C
def R.STORE_STAGE_MAX : Nat := 0x78010
def R.STORE_TRIG_CTRL : Nat := 0x78014
def F.STORE_TRIG_CTRL.TRIP : Fld := ⟨R.STORE_TRIG_CTRL, 0, 1⟩
def F.STORE_TRIG_CTRL.FAULT_U : Fld := ⟨R.STORE_TRIG_CTRL, 1, 1⟩
def F.STORE_TRIG_CTRL.DEADLINE : Fld := ⟨R.STORE_TRIG_CTRL, 2, 1⟩
def R.STORE_CAPACITY_LO : Nat := 0x78018
def R.STORE_CAPACITY_HI : Nat := 0x7801C
def R.STORE_GAP_COUNT : Nat := 0x78020
def R.STORE_IO_ERR_COUNT : Nat := 0x78024
def R.STORE_TRIG_DROP_COUNT : Nat := 0x78028
def R.STORE_RELEASE : Nat := 0x78030
def F.STORE_RELEASE.WINDOWS : Fld := ⟨R.STORE_RELEASE, 0, 16⟩
def R.STORE_ERASE : Nat := 0x78038
def F.STORE_ERASE.ERASE : Fld := ⟨R.STORE_ERASE, 0, 1⟩
def R.STORE_STREAM_STATE (n : Nat) : Nat := 0x78100 + n * 0x20
def R.STORE_STREAM_RANGE (n : Nat) : Nat := 0x78104 + n * 0x20
def R.STORE_STREAM_OLDEST_LO (n : Nat) : Nat := 0x78108 + n * 0x20
def R.STORE_STREAM_OLDEST_HI (n : Nat) : Nat := 0x7810C + n * 0x20
def R.STORE_STREAM_NEWEST_LO (n : Nat) : Nat := 0x78110 + n * 0x20
def R.STORE_STREAM_NEWEST_HI (n : Nat) : Nat := 0x78114 + n * 0x20
def R.STORE_STREAM_GAPS (n : Nat) : Nat := 0x78118 + n * 0x20
def R.STORE_WINDOW_FLAGS (n : Nat) : Nat := 0x78200 + n * 0x20
def R.STORE_WINDOW_FIRST_LO (n : Nat) : Nat := 0x78208 + n * 0x20
def R.STORE_WINDOW_FIRST_HI (n : Nat) : Nat := 0x7820C + n * 0x20
def R.STORE_WINDOW_LAST_LO (n : Nat) : Nat := 0x78210 + n * 0x20
def R.STORE_WINDOW_LAST_HI (n : Nat) : Nat := 0x78214 + n * 0x20
def R.STORE_WINDOW_KT_LO (n : Nat) : Nat := 0x78218 + n * 0x20
def R.STORE_WINDOW_KT_HI (n : Nat) : Nat := 0x7821C + n * 0x20
def R.MGMT_CTRL : Nat := 0x7C000
def F.MGMT_CTRL.CNT_EN : Fld := ⟨R.MGMT_CTRL, 0, 1⟩
def F.MGMT_CTRL.CNT_FREEZE : Fld := ⟨R.MGMT_CTRL, 1, 1⟩
def F.MGMT_CTRL.CNT_CLEAR : Fld := ⟨R.MGMT_CTRL, 2, 1⟩
def F.MGMT_CTRL.SAMP_EN : Fld := ⟨R.MGMT_CTRL, 3, 1⟩
def F.MGMT_CTRL.SAMP_CAUSE : Fld := ⟨R.MGMT_CTRL, 4, 2⟩
def F.MGMT_CTRL.SAMP_FULL : Fld := ⟨R.MGMT_CTRL, 6, 1⟩
def R.MGMT_SAMP_PERIOD : Nat := 0x7C004
def F.MGMT_SAMP_PERIOD.PERIOD : Fld := ⟨R.MGMT_SAMP_PERIOD, 0, 24⟩
def R.MGMT_STATUS : Nat := 0x7C008
def F.MGMT_STATUS.ONLINE : Fld := ⟨R.MGMT_STATUS, 0, 4⟩
def F.MGMT_STATUS.HEARTBEAT_OK : Fld := ⟨R.MGMT_STATUS, 4, 1⟩
def R.MGMT_EVENT : Nat := 0x7C00C
def F.MGMT_EVENT.CORE_OFFLINE : Fld := ⟨R.MGMT_EVENT, 0, 1⟩
def F.MGMT_EVENT.SAMP_FULL : Fld := ⟨R.MGMT_EVENT, 8, 1⟩
def F.MGMT_EVENT.LOAD_HIGH : Fld := ⟨R.MGMT_EVENT, 16, 1⟩
def R.MGMT_LOAD : Nat := 0x7C010
def F.MGMT_LOAD.MEAN : Fld := ⟨R.MGMT_LOAD, 0, 8⟩
def F.MGMT_LOAD.MAX : Fld := ⟨R.MGMT_LOAD, 8, 8⟩
def R.MGMT_LOAD_THRESH : Nat := 0x7C014
def F.MGMT_LOAD_THRESH.THRESH : Fld := ⟨R.MGMT_LOAD_THRESH, 0, 8⟩
def R.MGMT_CMD_COUNT : Nat := 0x7C018
def R.MGMT_CMD_LAT_SUM : Nat := 0x7C01C
def R.MGMT_CMD_LAT_MAX : Nat := 0x7C020
def R.MGMT_FW_BUILD_LO : Nat := 0x7C028
def R.MGMT_FW_BUILD_HI : Nat := 0x7C02C
def R.MGMT_Cc_CYCLES_LO (n : Nat) : Nat := 0x7C100 + n * 0x40
def R.MGMT_Cc_CYCLES_HI (n : Nat) : Nat := 0x7C104 + n * 0x40
def R.MGMT_Cc_IDLE_LO (n : Nat) : Nat := 0x7C108 + n * 0x40
def R.MGMT_Cc_IDLE_HI (n : Nat) : Nat := 0x7C10C + n * 0x40
def R.MGMT_Cc_EXEC_LO (n : Nat) : Nat := 0x7C110 + n * 0x40
def R.MGMT_Cc_EXEC_HI (n : Nat) : Nat := 0x7C114 + n * 0x40
def R.MGMT_Cc_ARB_WAIT_LO (n : Nat) : Nat := 0x7C118 + n * 0x40
def R.MGMT_Cc_ARB_WAIT_HI (n : Nat) : Nat := 0x7C11C + n * 0x40
def R.MGMT_Cc_DMA_WAIT_LO (n : Nat) : Nat := 0x7C120 + n * 0x40
def R.MGMT_Cc_DMA_WAIT_HI (n : Nat) : Nat := 0x7C124 + n * 0x40
def R.MGMT_Cc_FLASH_WAIT_LO (n : Nat) : Nat := 0x7C128 + n * 0x40
def R.MGMT_Cc_FLASH_WAIT_HI (n : Nat) : Nat := 0x7C12C + n * 0x40
def R.MGMT_Cc_LEVEL3_LO (n : Nat) : Nat := 0x7C130 + n * 0x40
def R.MGMT_Cc_LEVEL3_HI (n : Nat) : Nat := 0x7C134 + n * 0x40
def R.MGMT_Cc_LEVEL4_LO (n : Nat) : Nat := 0x7C138 + n * 0x40
def R.MGMT_Cc_LEVEL4_HI (n : Nat) : Nat := 0x7C13C + n * 0x40
def R.MGMT_SAMP_SEL : Nat := 0x7C200
def F.MGMT_SAMP_SEL.ENTRY : Fld := ⟨R.MGMT_SAMP_SEL, 0, 12⟩
def R.MGMT_SAMP_WR : Nat := 0x7C204
def R.MGMT_SAMP_E (n : Nat) : Nat := 0x7C210 + n * 0x4
def R.FIELDn_CTRL (n : Nat) : Nat := 0x7E000 + n * 0x20
def F.FIELDn_CTRL.EN (n : Nat) : Fld := ⟨R.FIELDn_CTRL n, 0, 1⟩
def F.FIELDn_CTRL.POL (n : Nat) : Fld := ⟨R.FIELDn_CTRL n, 1, 1⟩
def F.FIELDn_CTRL.ILIM (n : Nat) : Fld := ⟨R.FIELDn_CTRL n, 4, 4⟩
def R.FIELDn_DIV (n : Nat) : Nat := 0x7E004 + n * 0x20
def F.FIELDn_DIV.DIV (n : Nat) : Fld := ⟨R.FIELDn_DIV n, 0, 16⟩
def F.FIELDn_DIV.PHASE (n : Nat) : Fld := ⟨R.FIELDn_DIV n, 16, 16⟩
def R.FIELDn_OFFSET (n : Nat) : Nat := 0x7E008 + n * 0x20
def F.FIELDn_OFFSET.OFFSET (n : Nat) : Fld := ⟨R.FIELDn_OFFSET n, 0, 24⟩
def R.FIELDn_WIDTH (n : Nat) : Nat := 0x7E00C + n * 0x20
def F.FIELDn_WIDTH.WIDTH (n : Nat) : Fld := ⟨R.FIELDn_WIDTH n, 0, 24⟩
def R.FIELD_STATUS : Nat := 0x7E100
def F.FIELD_STATUS.LEVEL : Fld := ⟨R.FIELD_STATUS, 0, 8⟩
def F.FIELD_STATUS.LIMITING : Fld := ⟨R.FIELD_STATUS, 8, 8⟩
def F.FIELD_STATUS.OFFSET_LATE : Fld := ⟨R.FIELD_STATUS, 16, 8⟩
def R.FIELD_EVENT0 : Nat := 0x7E104
def F.FIELD_EVENT0.OVERCURRENT_0 : Fld := ⟨R.FIELD_EVENT0, 0, 1⟩
def F.FIELD_EVENT0.OVERCURRENT_1 : Fld := ⟨R.FIELD_EVENT0, 8, 1⟩
def F.FIELD_EVENT0.OVERCURRENT_2 : Fld := ⟨R.FIELD_EVENT0, 16, 1⟩
def F.FIELD_EVENT0.OVERCURRENT_3 : Fld := ⟨R.FIELD_EVENT0, 24, 1⟩
def R.FIELD_EVENT1 : Nat := 0x7E108
def F.FIELD_EVENT1.OVERCURRENT_0 : Fld := ⟨R.FIELD_EVENT1, 0, 1⟩
def F.FIELD_EVENT1.OVERCURRENT_1 : Fld := ⟨R.FIELD_EVENT1, 8, 1⟩
def F.FIELD_EVENT1.OVERCURRENT_2 : Fld := ⟨R.FIELD_EVENT1, 16, 1⟩
def F.FIELD_EVENT1.OVERCURRENT_3 : Fld := ⟨R.FIELD_EVENT1, 24, 1⟩
def R.DBG_LOOP : Nat := 0x7F000
def F.DBG_LOOP.LINK_LB : Fld := ⟨R.DBG_LOOP, 0, 2⟩
def F.DBG_LOOP.STO_LB : Fld := ⟨R.DBG_LOOP, 2, 2⟩
def R.DBG_CHECK : Nat := 0x7F004
def F.DBG_CHECK.START : Fld := ⟨R.DBG_CHECK, 0, 1⟩
def F.DBG_CHECK.TARGET : Fld := ⟨R.DBG_CHECK, 4, 3⟩
def R.DBG_CHECK_RESULT : Nat := 0x7F008
def F.DBG_CHECK_RESULT.DONE : Fld := ⟨R.DBG_CHECK_RESULT, 0, 1⟩
def F.DBG_CHECK_RESULT.PASS : Fld := ⟨R.DBG_CHECK_RESULT, 1, 1⟩
def F.DBG_CHECK_RESULT.MISSED : Fld := ⟨R.DBG_CHECK_RESULT, 16, 8⟩
def F.DBG_CHECK_RESULT.FALSE : Fld := ⟨R.DBG_CHECK_RESULT, 24, 8⟩

/-- The register map of R268 in the order of its offsets, part 1. -/
def regMap1 : List RegDesc := [
  ⟨0x0, 0x4, 1, 0x4, 1, [⟨0, 16, .ro, 38464⟩, ⟨16, 16, .ro, 12609⟩]⟩,
  ⟨0x4, 0x4, 1, 0x4, 1, [⟨0, 8, .ro, 0⟩, ⟨8, 8, .ro, 0⟩, ⟨16, 16, .ro, 0⟩]⟩,
  ⟨0x8, 0x4, 1, 0x4, 1, [⟨0, 3, .ro, 0⟩, ⟨4, 3, .ro, 0⟩, ⟨7, 1, .ro, 0⟩]⟩,
  ⟨0xC, 0x4, 1, 0x4, 1, [⟨0, 1, .rc, 0⟩, ⟨8, 1, .rc, 0⟩, ⟨16, 1, .rc, 0⟩]⟩,
  ⟨0x10, 0x4, 1, 0x4, 1, [⟨0, 3, .gp, 0⟩]⟩,
  ⟨0x18, 0x4, 1, 0x4, 1, [⟨0, 16, .ro, 0⟩, ⟨16, 3, .ro, 0⟩, ⟨24, 1, .ro, 0⟩]⟩,
  ⟨0x20, 0x4, 1, 0x4, 1, [⟨0, 1, .gp, 0⟩]⟩,
  ⟨0x30, 0x4, 1, 0x4, 1, [⟨0, 1, .rc, 0⟩, ⟨8, 1, .rc, 0⟩, ⟨16, 1, .rc, 0⟩, ⟨24, 1, .rc, 0⟩]⟩,
  ⟨0x34, 0x4, 1, 0x4, 1, [⟨0, 20, .ro, 0⟩, ⟨20, 3, .ro, 0⟩, ⟨24, 3, .ro, 0⟩, ⟨31, 1, .rc, 0⟩]⟩,
  ⟨0x38, 0x4, 1, 0x4, 1, [⟨0, 20, .ro, 0⟩, ⟨20, 3, .ro, 0⟩, ⟨24, 3, .ro, 0⟩, ⟨31, 1, .ro, 0⟩]⟩,
  ⟨0x40, 0x4, 1, 0x4, 1, [⟨0, 32, .rw, 0⟩]⟩,
  ⟨0x44, 0x4, 1, 0x4, 1, [⟨0, 32, .rw, 0⟩]⟩,
  ⟨0x48, 0x4, 1, 0x4, 1, [⟨0, 32, .rw, 0⟩]⟩,
  ⟨0x50, 0x4, 1, 0x4, 1, [⟨0, 2, .ro, 0⟩, ⟨2, 1, .ro, 0⟩, ⟨3, 1, .ro, 0⟩, ⟨4, 4, .ro, 0⟩, ⟨8, 1, .ro, 0⟩]⟩,
  ⟨0x60, 0x4, 1, 0x4, 1, [⟨0, 4, .rw, 0⟩]⟩,
  ⟨0x64, 0x4, 1, 0x4, 1, [⟨0, 1, .ro, 0⟩, ⟨1, 1, .ro, 0⟩, ⟨2, 4, .ro, 0⟩, ⟨6, 1, .ro, 0⟩, ⟨7, 1, .ro, 0⟩, ⟨8, 1, .ro, 0⟩, ⟨9, 1, .ro, 0⟩, ⟨10, 1, .ro, 0⟩, ⟨11, 1, .ro, 0⟩, ⟨12, 1, .ro, 0⟩]⟩,
  ⟨0x68, 0x4, 1, 0x4, 1, [⟨0, 13, .rw, 0⟩]⟩,
  ⟨0x70, 0x4, 4, 0x4, 1, [⟨0, 32, .rw, 0⟩]⟩,
  ⟨0x1000, 0x4, 1, 0x4, 1, [⟨0, 5, .gp, 0⟩, ⟨8, 1, .gp, 0⟩]⟩,
  ⟨0x1008, 0x4, 1, 0x4, 1, [⟨0, 24, .sl, 0⟩]⟩,
  ⟨0x100C, 0x4, 1, 0x4, 1, [⟨0, 1, .ro, 0⟩, ⟨4, 4, .ro, 0⟩, ⟨8, 5, .ro, 0⟩, ⟨16, 2, .ro, 0⟩]⟩,
  ⟨0x1010, 0x4, 1, 0x4, 1, [⟨0, 1, .rc, 0⟩, ⟨8, 1, .rc, 0⟩, ⟨16, 1, .rc, 0⟩, ⟨24, 1, .rc, 0⟩]⟩,
  ⟨0x1014, 0x4, 1, 0x4, 1, [⟨0, 2, .ro, 2⟩, ⟨2, 1, .sl, 1⟩, ⟨3, 1, .ro, 0⟩, ⟨4, 1, .sl, 0⟩]⟩,
  ⟨0x1018, 0x4, 1, 0x4, 1, [⟨0, 27, .ro, 0⟩]⟩,
  ⟨0x1020, 0x4, 1, 0x4, 1, [⟨0, 17, .sl, 0⟩]⟩,
  ⟨0x1024, 0x4, 1, 0x4, 1, [⟨0, 16, .sl, 0⟩]⟩,
  ⟨0x1040, 0x4, 17, 0x4, 1, [⟨0, 16, .sl, 0⟩, ⟨16, 16, .sl, 0⟩]⟩,
  ⟨0x2000, 0x4, 1, 0x4, 1, [⟨0, 1, .ro, 0⟩, ⟨1, 2, .ro, 0⟩, ⟨3, 3, .ro, 0⟩, ⟨6, 1, .ro, 1⟩, ⟨7, 1, .ro, 0⟩]⟩,
  ⟨0x2004, 0x4, 1, 0x4, 1, [⟨0, 1, .wo, 0⟩]⟩,
  ⟨0x2008, 0x4, 1, 0x4, 1, [⟨0, 1, .rc, 0⟩, ⟨8, 1, .rc, 0⟩, ⟨16, 1, .rc, 0⟩]⟩,
  ⟨0x2010, 0x4, 1, 0x4, 1, [⟨0, 32, .ro, 0⟩]⟩,
  ⟨0x2014, 0x4, 1, 0x4, 1, [⟨0, 32, .ro, 0⟩]⟩,
  ⟨0x2018, 0x4, 1, 0x4, 1, [⟨0, 10, .ro, 0⟩, ⟨10, 6, .ro, 0⟩, ⟨16, 2, .ro, 0⟩, ⟨18, 3, .ro, 0⟩, ⟨24, 6, .ro, 0⟩, ⟨31, 1, .ro, 0⟩]⟩,
  ⟨0x201C, 0x4, 1, 0x4, 1, [⟨0, 32, .ro, 0⟩]⟩,
  ⟨0x2020, 0x4, 1, 0x4, 1, [⟨0, 32, .ro, 0⟩]⟩,
  ⟨0x2024, 0x4, 1, 0x4, 1, [⟨0, 32, .ro, 0⟩]⟩,
  ⟨0x2028, 0x4, 1, 0x4, 1, [⟨0, 32, .ro, 0⟩]⟩,
  ⟨0x202C, 0x4, 1, 0x4, 1, [⟨0, 32, .ro, 0⟩]⟩,
  ⟨0x2030, 0x4, 8, 0x4, 1, [⟨0, 32, .ro, 0⟩]⟩,
  ⟨0x2050, 0x4, 1, 0x4, 1, [⟨0, 32, .rw, 0⟩]⟩,
  ⟨0x2054, 0x4, 1, 0x4, 1, [⟨0, 32, .rw, 0⟩]⟩,
  ⟨0x2058, 0x4, 1, 0x4, 1, [⟨0, 32, .rw, 0⟩]⟩,
  ⟨0x2060, 0x4, 1, 0x4, 1, [⟨0, 1, .rw, 1⟩]⟩,
  ⟨0x2064, 0x4, 1, 0x4, 1, [⟨0, 1, .sl, 0⟩, ⟨1, 1, .sl, 0⟩, ⟨2, 1, .sl, 0⟩, ⟨3, 1, .sl, 0⟩, ⟨4, 1, .sl, 0⟩, ⟨5, 1, .sl, 0⟩]⟩,
  ⟨0x2070, 0x4, 1, 0x4, 1, [⟨0, 2, .gp, 0⟩, ⟨4, 3, .gp, 0⟩, ⟨8, 2, .gp, 1⟩, ⟨16, 5, .gp, 1⟩]⟩,
  ⟨0x2078, 0x4, 1, 0x4, 1, [⟨0, 10, .gp, 0⟩, ⟨10, 6, .gp, 0⟩, ⟨24, 3, .gp, 0⟩]⟩,
  ⟨0x2080, 0x4, 4, 0x4, 1, [⟨0, 32, .ro, 0⟩]⟩,
  ⟨0x2090, 0x4, 1, 0x4, 1, [⟨0, 5, .ro, 0⟩, ⟨8, 1, .ro, 0⟩, ⟨16, 1, .ro, 0⟩]⟩,
  ⟨0x2100, 0x4, 4, 0x4, 1, [⟨0, 32, .w1c, 0⟩]⟩,
  ⟨0x2110, 0x4, 4, 0x4, 1, [⟨0, 32, .ro, 0⟩]⟩,
  ⟨0x2120, 0x4, 4, 0x4, 1, [⟨0, 32, .ro, 0⟩]⟩,
  ⟨0x2204, 0x4, 6, 0x4, 1, [⟨0, 3, .rw, 0⟩, ⟨4, 3, .rw, 0⟩]⟩,
  ⟨0x2220, 0x4, 1, 0x4, 1, [⟨0, 3, .rw, 0⟩, ⟨4, 3, .rw, 0⟩]⟩,
  ⟨0x2240, 0x4, 4, 0x4, 1, [⟨0, 3, .rw, 0⟩, ⟨4, 3, .rw, 0⟩]⟩,
  ⟨0x2280, 0x4, 32, 0x4, 1, [⟨0, 3, .rw, 0⟩, ⟨4, 3, .rw, 0⟩]⟩,
  ⟨0x2300, 0x4, 4, 0x4, 1, [⟨0, 3, .rw, 0⟩, ⟨4, 3, .rw, 0⟩]⟩,
  ⟨0x2340, 0x4, 3, 0x4, 1, [⟨0, 3, .rw, 0⟩, ⟨4, 3, .rw, 0⟩]⟩,
  ⟨0x2380, 0x4, 8, 0x4, 1, [⟨0, 3, .rw, 0⟩, ⟨4, 3, .rw, 0⟩]⟩,
  ⟨0x3000, 0x4, 1, 0x4, 1, [⟨0, 11, .ro, 0⟩, ⟨11, 1, .ro, 0⟩, ⟨12, 1, .ro, 0⟩, ⟨13, 1, .ro, 0⟩, ⟨16, 7, .ro, 0⟩, ⟨24, 8, .ro, 0⟩]⟩,
  ⟨0x3004, 0x4, 1, 0x4, 1, [⟨0, 1, .rc, 0⟩, ⟨8, 1, .rc, 0⟩, ⟨16, 1, .rc, 0⟩, ⟨24, 1, .rc, 0⟩]⟩,
  ⟨0x3008, 0x4, 1, 0x4, 1, [⟨0, 32, .ro, 0⟩]⟩,
  ⟨0x300C, 0x4, 1, 0x4, 1, [⟨0, 32, .ro, 0⟩]⟩,
  ⟨0x3010, 0x4, 1, 0x4, 1, [⟨0, 32, .rw, 0⟩]⟩,
  ⟨0x3014, 0x4, 1, 0x4, 1, [⟨0, 32, .rw, 0⟩]⟩,
  ⟨0x3018, 0x4, 1, 0x4, 1, [⟨0, 8, .rwp, 16⟩, ⟨8, 8, .rwp, 8⟩]⟩,
  ⟨0x301C, 0x4, 1, 0x4, 1, [⟨0, 10, .rw, 256⟩]⟩]

/-- The register map of R268 in the order of its offsets, part 2. -/
def regMap2 : List RegDesc := [
  ⟨0x3020, 0x4, 1, 0x4, 1, [⟨0, 32, .ro, 0⟩]⟩,
  ⟨0x3024, 0x4, 1, 0x4, 1, [⟨0, 12, .ro, 0⟩]⟩,
  ⟨0x3028, 0x4, 1, 0x4, 1, [⟨0, 20, .ro, 0⟩]⟩,
  ⟨0x302C, 0x4, 1, 0x4, 1, [⟨0, 1, .ro, 0⟩, ⟨1, 1, .ro, 0⟩, ⟨2, 1, .ro, 0⟩, ⟨3, 1, .ro, 0⟩]⟩,
  ⟨0x3030, 0x4, 1, 0x4, 1, [⟨0, 1, .gp, 0⟩]⟩,
  ⟨0x4000, 0x4, 1, 0x4, 1, [⟨0, 4, .rw, 0⟩]⟩,
  ⟨0x4004, 0x4, 1, 0x4, 1, [⟨0, 9, .ro, 0⟩, ⟨16, 6, .ro, 0⟩]⟩,
  ⟨0x4008, 0x4, 1, 0x4, 1, [⟨0, 1, .rc, 0⟩, ⟨8, 1, .rc, 0⟩, ⟨16, 1, .rc, 0⟩, ⟨24, 1, .rc, 0⟩]⟩,
  ⟨0x400C, 0x4, 1, 0x4, 1, [⟨0, 32, .rw, 0⟩]⟩,
  ⟨0x4010, 0x4, 1, 0x4, 1, [⟨0, 32, .rw, 0⟩]⟩,
  ⟨0x4014, 0x4, 1, 0x4, 1, [⟨0, 32, .rw, 0⟩]⟩,
  ⟨0x4100, 0x40, 4, 0x4, 1, [⟨12, 20, .rwd, 0⟩]⟩,
  ⟨0x4104, 0x40, 4, 0x4, 1, [⟨0, 32, .rwd, 0⟩]⟩,
  ⟨0x4108, 0x40, 4, 0x4, 1, [⟨0, 4, .rwd, 4⟩]⟩,
  ⟨0x410C, 0x40, 4, 0x4, 1, [⟨0, 12, .rw, 0⟩]⟩,
  ⟨0x4110, 0x40, 4, 0x4, 1, [⟨0, 12, .ro, 0⟩]⟩,
  ⟨0x4114, 0x40, 4, 0x4, 1, [⟨12, 20, .rwd, 0⟩]⟩,
  ⟨0x4118, 0x40, 4, 0x4, 1, [⟨0, 32, .rwd, 0⟩]⟩,
  ⟨0x411C, 0x40, 4, 0x4, 1, [⟨0, 4, .rwd, 4⟩]⟩,
  ⟨0x4120, 0x40, 4, 0x4, 1, [⟨0, 12, .ro, 0⟩]⟩,
  ⟨0x4124, 0x40, 4, 0x4, 1, [⟨0, 12, .rw, 0⟩]⟩,
  ⟨0x4128, 0x40, 4, 0x4, 1, [⟨2, 30, .rwd, 0⟩]⟩,
  ⟨0x412C, 0x40, 4, 0x4, 1, [⟨0, 32, .rwd, 0⟩]⟩,
  ⟨0x4130, 0x40, 4, 0x4, 1, [⟨0, 8, .rw, 1⟩, ⟨8, 16, .rw, 0⟩]⟩,
  ⟨0x4134, 0x40, 4, 0x4, 1, [⟨0, 1, .ro, 0⟩, ⟨1, 1, .ro, 0⟩, ⟨2, 1, .ro, 0⟩, ⟨4, 3, .ro, 0⟩, ⟨16, 9, .ro, 0⟩]⟩,
  ⟨0x5000, 0x4, 1, 0x4, 1, [⟨0, 4, .rwp, 15⟩, ⟨4, 4, .rwp, 15⟩]⟩,
  ⟨0x5004, 0x4, 1, 0x4, 1, [⟨0, 9, .rwp, 64⟩]⟩,
  ⟨0x5010, 0x4, 1, 0x4, 1, [⟨0, 1, .ro, 0⟩, ⟨1, 1, .ro, 0⟩, ⟨2, 1, .ro, 0⟩, ⟨3, 1, .ro, 0⟩, ⟨4, 2, .ro, 0⟩]⟩,
  ⟨0x5014, 0x4, 1, 0x4, 1, [⟨0, 32, .ro, 0⟩]⟩,
  ⟨0x5018, 0x4, 1, 0x4, 1, [⟨0, 32, .ro, 0⟩]⟩,
  ⟨0x5400, 0x200, 4, 0x4, 1, [⟨0, 1, .ro, 0⟩, ⟨1, 1, .ro, 0⟩, ⟨2, 3, .ro, 0⟩, ⟨5, 2, .ro, 0⟩, ⟨16, 16, .ro, 0⟩]⟩,
  ⟨0x5404, 0x200, 4, 0x4, 1, [⟨0, 1, .rc, 0⟩, ⟨8, 1, .rc, 0⟩, ⟨16, 1, .rc, 0⟩, ⟨24, 1, .rc, 0⟩]⟩,
  ⟨0x5408, 0x200, 4, 0x4, 1, [⟨0, 1, .ro, 0⟩, ⟨1, 1, .ro, 0⟩, ⟨2, 1, .ro, 0⟩, ⟨3, 2, .ro, 0⟩, ⟨5, 4, .ro, 0⟩]⟩,
  ⟨0x540C, 0x200, 4, 0x4, 1, [⟨0, 16, .ro, 0⟩, ⟨16, 8, .ro, 0⟩]⟩,
  ⟨0x5410, 0x200, 4, 0x4, 1, [⟨0, 16, .ro, 0⟩]⟩,
  ⟨0x5414, 0x200, 4, 0x4, 1, [⟨0, 32, .rw, 0⟩]⟩,
  ⟨0x5418, 0x200, 4, 0x4, 1, [⟨0, 32, .rw, 0⟩]⟩,
  ⟨0x5420, 0x200, 4, 0x4, 1, [⟨0, 24, .rwd, 0⟩]⟩,
  ⟨0x5424, 0x200, 4, 0x4, 1, [⟨0, 24, .rwd, 0⟩]⟩,
  ⟨0x5500, 0x200, 4, 0x4, 64, [⟨0, 24, .rwd, 0⟩, ⟨24, 1, .rwd, 0⟩]⟩,
  ⟨0x5C00, 0x10, 32, 0x4, 1, [⟨0, 24, .rwd, 0⟩]⟩,
  ⟨0x5C04, 0x10, 32, 0x4, 1, [⟨0, 16, .ro, 0⟩]⟩,
  ⟨0x6000, 0x4, 8, 0x4, 1, [⟨0, 16, .sl, 0⟩, ⟨16, 1, .sl, 0⟩]⟩,
  ⟨0x6020, 0x4, 1, 0x4, 1, [⟨0, 16, .rw, 1680⟩]⟩,
  ⟨0x6024, 0x4, 1, 0x4, 1, [⟨0, 16, .sl, 0⟩, ⟨16, 3, .sl, 0⟩]⟩,
  ⟨0x8000, 0x40, 8, 0x4, 1, [⟨0, 1, .rwd, 0⟩, ⟨1, 1, .rwd, 0⟩, ⟨2, 1, .rwd, 0⟩]⟩,
  ⟨0x8004, 0x40, 8, 0x4, 1, [⟨0, 32, .rwd, 0⟩]⟩,
  ⟨0x8008, 0x40, 8, 0x4, 1, [⟨0, 24, .rwd, 0⟩]⟩,
  ⟨0x800C, 0x40, 8, 0x4, 1, [⟨0, 24, .rwd, 1⟩]⟩,
  ⟨0x8010, 0x40, 8, 0x4, 1, [⟨0, 24, .rwp, 10000⟩]⟩,
  ⟨0x8014, 0x40, 8, 0x4, 1, [⟨0, 5, .rwp, 5⟩, ⟨8, 8, .rwp, 20⟩, ⟨16, 16, .rwp, 100⟩]⟩,
  ⟨0x8020, 0x40, 8, 0x4, 1, [⟨0, 2, .ro, 0⟩, ⟨2, 1, .ro, 0⟩, ⟨3, 1, .ro, 0⟩]⟩,
  ⟨0x8024, 0x40, 8, 0x4, 1, [⟨0, 1, .rc, 0⟩, ⟨8, 1, .rc, 0⟩, ⟨16, 1, .rc, 0⟩]⟩,
  ⟨0x8028, 0x40, 8, 0x4, 1, [⟨0, 32, .ro, 0⟩]⟩,
  ⟨0x8200, 0x4, 1, 0x4, 1, [⟨0, 1, .ro, 0⟩, ⟨1, 1, .ro, 0⟩]⟩,
  ⟨0x8204, 0x4, 1, 0x4, 1, [⟨0, 28, .ro, 0⟩]⟩,
  ⟨0x10000, 0x1000, 4, 0x4, 1, [⟨0, 1, .rw, 0⟩, ⟨1, 2, .rwd, 1⟩, ⟨3, 2, .rwd, 2⟩, ⟨5, 1, .rwd, 1⟩, ⟨6, 1, .rwp, 1⟩, ⟨7, 1, .rwd, 0⟩, ⟨8, 6, .rwd, 0⟩]⟩,
  ⟨0x10004, 0x1000, 4, 0x4, 1, [⟨0, 13, .rwd, 0⟩]⟩,
  ⟨0x10008, 0x1000, 4, 0x4, 1, [⟨0, 32, .rwd, 0⟩]⟩,
  ⟨0x1000C, 0x1000, 4, 0x4, 1, [⟨0, 16, .rwd, 0⟩]⟩]

/-- The register map of R268 in the order of its offsets, part 3. -/
def regMap3 : List RegDesc := [
  ⟨0x10010, 0x1000, 4, 0x4, 1, [⟨0, 32, .rwd, 0⟩]⟩,
  ⟨0x10014, 0x1000, 4, 0x4, 1, [⟨0, 16, .rwd, 0⟩]⟩,
  ⟨0x10018, 0x1000, 4, 0x4, 1, [⟨0, 8, .rwp, 10⟩, ⟨16, 16, .rwp, 4096⟩]⟩,
  ⟨0x1001C, 0x1000, 4, 0x4, 1, [⟨0, 16, .rwp, 8000⟩, ⟨16, 16, .rwp, 50⟩]⟩,
  ⟨0x10020, 0x1000, 4, 0x4, 1, [⟨0, 1, .ro, 0⟩, ⟨1, 1, .ro, 0⟩, ⟨2, 1, .ro, 0⟩, ⟨3, 1, .ro, 0⟩, ⟨4, 1, .ro, 0⟩, ⟨5, 1, .ro, 0⟩, ⟨6, 1, .ro, 0⟩, ⟨7, 1, .ro, 0⟩, ⟨8, 6, .ro, 0⟩]⟩,
  ⟨0x10024, 0x1000, 4, 0x4, 1, [⟨0, 1, .rc, 0⟩, ⟨8, 1, .rc, 0⟩, ⟨16, 1, .rc, 0⟩, ⟨24, 1, .rc, 0⟩]⟩,
  ⟨0x10028, 0x1000, 4, 0x4, 1, [⟨0, 16, .ro, 0⟩]⟩,
  ⟨0x1002C, 0x1000, 4, 0x4, 1, [⟨0, 1, .rc, 0⟩, ⟨8, 1, .rc, 0⟩, ⟨16, 1, .rc, 0⟩, ⟨24, 1, .rc, 0⟩]⟩,
  ⟨0x10030, 0x1000, 4, 0x4, 1, [⟨0, 32, .ro, 0⟩]⟩,
  ⟨0x10034, 0x1000, 4, 0x4, 1, [⟨0, 8, .ro, 0⟩]⟩,
  ⟨0x10040, 0x1000, 4, 0x4, 1, [⟨0, 2, .rwd, 0⟩, ⟨4, 10, .rwd, 0⟩, ⟨16, 16, .rwd, 31500⟩]⟩,
  ⟨0x10044, 0x1000, 4, 0x4, 1, [⟨0, 1, .wo, 0⟩, ⟨1, 1, .wo, 0⟩]⟩,
  ⟨0x10048, 0x1000, 4, 0x4, 1, [⟨0, 32, .rwp, 0⟩]⟩,
  ⟨0x1004C, 0x1000, 4, 0x4, 1, [⟨0, 32, .rwp, 0⟩]⟩,
  ⟨0x10050, 0x1000, 4, 0x4, 1, [⟨0, 1, .rwp, 0⟩, ⟨1, 2, .rwp, 1⟩, ⟨4, 3, .rwp, 0⟩, ⟨7, 1, .rwp, 1⟩, ⟨8, 1, .rwp, 0⟩]⟩,
  ⟨0x10054, 0x1000, 4, 0x4, 1, [⟨0, 20, .rwp, 10000⟩]⟩,
  ⟨0x10058, 0x1000, 4, 0x4, 1, [⟨0, 20, .rwp, 100000⟩]⟩,
  ⟨0x1005C, 0x1000, 4, 0x4, 1, [⟨0, 4, .rwp, 0⟩, ⟨4, 4, .rwp, 0⟩, ⟨8, 4, .rwp, 0⟩, ⟨12, 4, .rwp, 0⟩, ⟨16, 4, .rwp, 0⟩, ⟨20, 4, .rwp, 0⟩, ⟨24, 4, .rwp, 0⟩, ⟨28, 4, .rwp, 0⟩]⟩,
  ⟨0x10060, 0x1000, 4, 0x4, 1, [⟨0, 16, .rwp, 20⟩, ⟨16, 16, .rwp, 64⟩]⟩,
  ⟨0x10064, 0x1000, 4, 0x4, 1, [⟨0, 18, .rwp, 20000⟩, ⟨18, 14, .rwp, 10⟩]⟩,
  ⟨0x10070, 0x1000, 4, 0x4, 1, [⟨0, 2, .ro, 0⟩, ⟨4, 3, .ro, 0⟩, ⟨7, 1, .ro, 0⟩, ⟨8, 1, .ro, 0⟩, ⟨9, 1, .ro, 0⟩, ⟨10, 1, .ro, 0⟩, ⟨11, 1, .ro, 0⟩]⟩,
  ⟨0x10074, 0x1000, 4, 0x4, 1, [⟨0, 1, .rc, 0⟩, ⟨8, 1, .rc, 0⟩, ⟨16, 1, .rc, 0⟩, ⟨24, 1, .rc, 0⟩]⟩,
  ⟨0x10078, 0x1000, 4, 0x4, 1, [⟨0, 32, .ro, 0⟩]⟩,
  ⟨0x10080, 0x1000, 4, 0x4, 1, [⟨0, 32, .rwp, 0⟩]⟩,
  ⟨0x10084, 0x1000, 4, 0x4, 1, [⟨0, 16, .rwp, 0⟩]⟩,
  ⟨0x10088, 0x1000, 4, 0x4, 1, [⟨0, 32, .rwp, 0⟩]⟩,
  ⟨0x1008C, 0x1000, 4, 0x4, 1, [⟨0, 16, .rwp, 0⟩]⟩,
  ⟨0x10090, 0x1000, 4, 0x4, 1, [⟨0, 32, .rwp, 0⟩]⟩,
  ⟨0x10094, 0x1000, 4, 0x4, 1, [⟨0, 16, .rwp, 0⟩]⟩,
  ⟨0x10098, 0x1000, 4, 0x4, 1, [⟨0, 32, .rwp, 0⟩]⟩,
  ⟨0x1009C, 0x1000, 4, 0x4, 1, [⟨0, 16, .rwp, 0⟩]⟩,
  ⟨0x100A0, 0x1000, 4, 0x4, 1, [⟨0, 16, .rwp, 30⟩, ⟨16, 16, .rwp, 60⟩]⟩,
  ⟨0x100A4, 0x1000, 4, 0x4, 1, [⟨0, 16, .rwp, 0⟩, ⟨16, 1, .rwp, 0⟩]⟩,
  ⟨0x100A8, 0x1000, 4, 0x4, 1, [⟨0, 16, .rw, 0⟩]⟩,
  ⟨0x10200, 0x1000, 4, 0x10, 16, [⟨0, 32, .rwd, 0⟩]⟩,
  ⟨0x10204, 0x1000, 4, 0x10, 16, [⟨0, 29, .rwd, 0⟩]⟩,
  ⟨0x10208, 0x1000, 4, 0x10, 16, [⟨0, 32, .rwd, 0⟩]⟩,
  ⟨0x1020C, 0x1000, 4, 0x10, 16, [⟨0, 16, .rwd, 0⟩, ⟨16, 1, .rwd, 0⟩]⟩,
  ⟨0x14000, 0x400, 4, 0x10, 64, [⟨0, 10, .rwd, 0⟩, ⟨16, 1, .rwd, 0⟩, ⟨17, 1, .rwd, 0⟩]⟩,
  ⟨0x14004, 0x400, 4, 0x10, 64, [⟨0, 32, .rwd, 0⟩]⟩,
  ⟨0x14008, 0x400, 4, 0x10, 64, [⟨0, 32, .rwd, 0⟩]⟩,
  ⟨0x1400C, 0x400, 4, 0x10, 64, [⟨0, 16, .rwd, 0⟩, ⟨16, 16, .rwd, 0⟩]⟩,
  ⟨0x20000, 0x400, 32, 0x4, 1, [⟨0, 1, .rw, 0⟩, ⟨1, 1, .rwd, 0⟩, ⟨2, 2, .rwd, 0⟩]⟩,
  ⟨0x20004, 0x400, 32, 0x4, 1, [⟨0, 3, .rwd, 0⟩, ⟨4, 2, .rwd, 0⟩, ⟨6, 2, .rwd, 0⟩]⟩,
  ⟨0x20008, 0x400, 32, 0x4, 1, [⟨0, 16, .rwd, 4⟩]⟩,
  ⟨0x2000C, 0x400, 32, 0x4, 1, [⟨0, 24, .rwd, 8⟩]⟩,
  ⟨0x20010, 0x400, 32, 0x4, 1, [⟨0, 32, .rwd, 0⟩]⟩,
  ⟨0x20014, 0x400, 32, 0x4, 1, [⟨0, 16, .rwd, 0⟩]⟩,
  ⟨0x20018, 0x400, 32, 0x4, 1, [⟨0, 32, .rwd, 1⟩]⟩,
  ⟨0x2001C, 0x400, 32, 0x4, 1, [⟨0, 16, .rwd, 0⟩]⟩,
  ⟨0x20020, 0x400, 32, 0x4, 1, [⟨0, 32, .rwp, 0⟩]⟩,
  ⟨0x20024, 0x400, 32, 0x4, 1, [⟨0, 16, .rwp, 0⟩]⟩,
  ⟨0x20028, 0x400, 32, 0x4, 1, [⟨0, 12, .rwp, 40⟩]⟩,
  ⟨0x2002C, 0x400, 32, 0x4, 1, [⟨0, 1, .rwd, 0⟩, ⟨1, 3, .rwd, 0⟩, ⟨4, 10, .rwd, 1⟩, ⟨16, 1, .rwd, 1⟩]⟩,
  ⟨0x20030, 0x400, 32, 0x4, 1, [⟨0, 16, .rwp, 0⟩]⟩,
  ⟨0x20034, 0x400, 32, 0x4, 1, [⟨0, 32, .rwp, 0⟩]⟩,
  ⟨0x20038, 0x400, 32, 0x4, 1, [⟨0, 32, .rwp, 0⟩]⟩,
  ⟨0x20040, 0x400, 32, 0x4, 1, [⟨0, 3, .ro, 0⟩, ⟨4, 3, .ro, 0⟩, ⟨7, 1, .ro, 0⟩, ⟨8, 1, .ro, 0⟩, ⟨16, 8, .ro, 0⟩]⟩,
  ⟨0x20044, 0x400, 32, 0x4, 1, [⟨0, 1, .rc, 0⟩, ⟨8, 1, .rc, 0⟩, ⟨16, 1, .rc, 0⟩, ⟨24, 1, .rc, 0⟩]⟩,
  ⟨0x20048, 0x400, 32, 0x4, 1, [⟨0, 32, .ro, 0⟩]⟩]

/-- The register map of R268 in the order of its offsets, part 4. -/
def regMap4 : List RegDesc := [
  ⟨0x2004C, 0x400, 32, 0x4, 1, [⟨0, 16, .ro, 0⟩]⟩,
  ⟨0x20050, 0x400, 32, 0x4, 1, [⟨0, 32, .rw, 0⟩]⟩,
  ⟨0x20054, 0x400, 32, 0x4, 1, [⟨0, 1, .rc, 0⟩, ⟨8, 1, .rc, 0⟩, ⟨16, 1, .rc, 0⟩]⟩,
  ⟨0x28000, 0x10, 4, 0x4, 1, [⟨0, 2, .sl, 0⟩, ⟨2, 1, .ro, 0⟩]⟩,
  ⟨0x30000, 0x4, 1, 0x4, 1, [⟨0, 2, .rwp, 0⟩, ⟨2, 2, .rwp, 0⟩, ⟨4, 1, .rwp, 0⟩, ⟨5, 1, .rwp, 0⟩, ⟨6, 1, .rwp, 0⟩, ⟨7, 1, .rwp, 1⟩, ⟨8, 1, .rwp, 0⟩]⟩,
  ⟨0x30004, 0x4, 1, 0x4, 1, [⟨0, 2, .ro, 0⟩, ⟨2, 1, .ro, 0⟩, ⟨3, 1, .ro, 0⟩, ⟨4, 1, .ro, 0⟩, ⟨5, 1, .ro, 0⟩, ⟨6, 1, .ro, 0⟩]⟩,
  ⟨0x30008, 0x4, 1, 0x4, 1, [⟨0, 1, .rc, 0⟩, ⟨8, 1, .rc, 0⟩, ⟨16, 1, .rc, 0⟩, ⟨24, 1, .rc, 0⟩]⟩,
  ⟨0x3000C, 0x4, 1, 0x4, 1, [⟨0, 1, .wo, 0⟩]⟩,
  ⟨0x30010, 0x4, 1, 0x4, 1, [⟨0, 32, .ro, 0⟩]⟩,
  ⟨0x30014, 0x4, 1, 0x4, 1, [⟨0, 16, .ro, 0⟩]⟩,
  ⟨0x30018, 0x4, 1, 0x4, 1, [⟨0, 32, .ro, 0⟩]⟩,
  ⟨0x3001C, 0x4, 1, 0x4, 1, [⟨0, 16, .ro, 0⟩]⟩,
  ⟨0x30020, 0x4, 1, 0x4, 1, [⟨0, 32, .ro, 0⟩]⟩,
  ⟨0x30024, 0x4, 1, 0x4, 1, [⟨0, 32, .ro, 0⟩]⟩,
  ⟨0x30028, 0x4, 1, 0x4, 1, [⟨0, 32, .ro, 0⟩]⟩,
  ⟨0x3002C, 0x4, 1, 0x4, 1, [⟨0, 12, .ro, 0⟩]⟩,
  ⟨0x30030, 0x4, 1, 0x4, 1, [⟨0, 20, .ro, 0⟩]⟩,
  ⟨0x30034, 0x4, 1, 0x4, 1, [⟨0, 7, .ro, 0⟩]⟩,
  ⟨0x30038, 0x4, 1, 0x4, 1, [⟨0, 14, .rwp, 1000⟩]⟩,
  ⟨0x3003C, 0x4, 1, 0x4, 1, [⟨0, 16, .rwp, 50⟩, ⟨16, 16, .rwp, 10⟩]⟩,
  ⟨0x30040, 0x4, 1, 0x4, 1, [⟨0, 32, .ro, 0⟩]⟩,
  ⟨0x30044, 0x4, 1, 0x4, 1, [⟨0, 32, .ro, 0⟩]⟩,
  ⟨0x30048, 0x4, 1, 0x4, 1, [⟨0, 32, .ro, 0⟩]⟩,
  ⟨0x3004C, 0x4, 1, 0x4, 1, [⟨0, 16, .ro, 0⟩]⟩,
  ⟨0x30050, 0x4, 1, 0x4, 1, [⟨0, 32, .ro, 0⟩]⟩,
  ⟨0x30054, 0x4, 1, 0x4, 1, [⟨0, 16, .ro, 0⟩]⟩,
  ⟨0x30058, 0x4, 1, 0x4, 1, [⟨0, 16, .rwp, 37⟩, ⟨16, 1, .rwp, 0⟩]⟩,
  ⟨0x30060, 0x4, 1, 0x4, 1, [⟨0, 9, .rwp, 100⟩]⟩,
  ⟨0x30064, 0x4, 1, 0x4, 1, [⟨0, 32, .rwp, 0⟩]⟩,
  ⟨0x30068, 0x4, 1, 0x4, 1, [⟨0, 32, .rwp, 0⟩]⟩,
  ⟨0x3006C, 0x4, 1, 0x4, 1, [⟨0, 32, .ro, 0⟩]⟩,
  ⟨0x30070, 0x4, 1, 0x4, 1, [⟨0, 32, .rw, 0⟩]⟩,
  ⟨0x30074, 0x4, 1, 0x4, 1, [⟨0, 32, .rw, 0⟩]⟩,
  ⟨0x30078, 0x4, 1, 0x4, 1, [⟨0, 32, .rw, 0⟩]⟩,
  ⟨0x30080, 0x4, 1, 0x4, 1, [⟨0, 1, .rwp, 1⟩, ⟨1, 7, .rwp, 0⟩, ⟨8, 8, .rwp, 254⟩, ⟨16, 8, .rwp, 246⟩, ⟨24, 8, .rwp, 248⟩]⟩,
  ⟨0x30084, 0x4, 1, 0x4, 1, [⟨0, 8, .rwp, 6⟩, ⟨8, 8, .rwp, 7⟩, ⟨16, 8, .rwp, 248⟩, ⟨24, 1, .rwp, 0⟩]⟩,
  ⟨0x30088, 0x4, 1, 0x4, 1, [⟨0, 8, .rwp, 253⟩, ⟨8, 8, .rwp, 0⟩, ⟨16, 8, .rwp, 0⟩, ⟨24, 8, .rwp, 3⟩]⟩,
  ⟨0x30100, 0x4, 8, 0x4, 1, [⟨0, 32, .rwp, 0⟩]⟩,
  ⟨0x34000, 0x4, 1, 0x4, 1, [⟨0, 1, .rwp, 1⟩]⟩,
  ⟨0x34004, 0x4, 1, 0x4, 1, [⟨0, 1, .ro, 0⟩, ⟨1, 1, .ro, 0⟩, ⟨2, 1, .ro, 0⟩, ⟨3, 1, .ro, 0⟩, ⟨4, 3, .ro, 0⟩, ⟨7, 1, .ro, 0⟩]⟩,
  ⟨0x34008, 0x4, 1, 0x4, 1, [⟨0, 1, .rc, 0⟩, ⟨8, 1, .rc, 0⟩, ⟨16, 1, .rc, 0⟩, ⟨24, 1, .rc, 0⟩]⟩,
  ⟨0x3400C, 0x4, 1, 0x4, 1, [⟨0, 1, .rc, 0⟩, ⟨8, 1, .rc, 0⟩, ⟨16, 1, .rc, 0⟩]⟩,
  ⟨0x34010, 0x4, 1, 0x4, 1, [⟨0, 32, .ro, 0⟩]⟩,
  ⟨0x34014, 0x4, 1, 0x4, 1, [⟨0, 24, .ro, 0⟩]⟩,
  ⟨0x34018, 0x4, 1, 0x4, 1, [⟨0, 16, .ro, 0⟩]⟩,
  ⟨0x3401C, 0x4, 1, 0x4, 1, [⟨0, 16, .ro, 0⟩]⟩,
  ⟨0x34020, 0x4, 1, 0x4, 1, [⟨0, 32, .ro, 0⟩]⟩,
  ⟨0x34024, 0x4, 1, 0x4, 1, [⟨0, 32, .ro, 0⟩]⟩,
  ⟨0x34030, 0x4, 1, 0x4, 1, [⟨0, 10, .rwp, 250⟩, ⟨16, 10, .rwp, 250⟩]⟩,
  ⟨0x34034, 0x4, 1, 0x4, 1, [⟨0, 10, .rwp, 600⟩, ⟨16, 14, .rwp, 1000⟩]⟩,
  ⟨0x34040, 0x4, 1, 0x4, 1, [⟨0, 32, .rw, 0⟩]⟩,
  ⟨0x34044, 0x4, 1, 0x4, 1, [⟨0, 32, .rw, 0⟩]⟩,
  ⟨0x34048, 0x4, 1, 0x4, 1, [⟨0, 32, .rw, 0⟩]⟩,
  ⟨0x3404C, 0x4, 1, 0x4, 1, [⟨0, 32, .rw, 0⟩]⟩,
  ⟨0x34050, 0x4, 1, 0x4, 1, [⟨0, 32, .rw, 0⟩]⟩,
  ⟨0x34054, 0x4, 1, 0x4, 1, [⟨0, 32, .rw, 0⟩]⟩,
  ⟨0x34058, 0x4, 1, 0x4, 1, [⟨0, 32, .rw, 0⟩]⟩,
  ⟨0x34060, 0x4, 1, 0x4, 1, [⟨0, 24, .ro, 0⟩]⟩,
  ⟨0x34064, 0x4, 1, 0x4, 1, [⟨0, 24, .ro, 0⟩]⟩,
  ⟨0x34068, 0x4, 1, 0x4, 1, [⟨0, 24, .rw, 0⟩]⟩]

/-- The register map of R268 in the order of its offsets, part 5. -/
def regMap5 : List RegDesc := [
  ⟨0x34070, 0x4, 1, 0x4, 1, [⟨0, 32, .ro, 0⟩]⟩,
  ⟨0x34074, 0x4, 1, 0x4, 1, [⟨0, 32, .ro, 0⟩]⟩,
  ⟨0x40000, 0x80, 64, 0x4, 28, [⟨0, 32, .ro, 0⟩]⟩,
  ⟨0x42000, 0x4, 1, 0x4, 1, [⟨0, 32, .ro, 0⟩]⟩,
  ⟨0x42004, 0x4, 1, 0x4, 1, [⟨0, 32, .ro, 0⟩]⟩,
  ⟨0x50000, 0x20, 4096, 0x4, 8, [⟨0, 32, .ro, 0⟩]⟩,
  ⟨0x70000, 0x4, 1, 0x4, 1, [⟨0, 1, .rw, 0⟩, ⟨1, 1, .rwd, 1⟩, ⟨2, 1, .rwd, 0⟩, ⟨3, 2, .rwd, 0⟩, ⟨8, 4, .rwd, 0⟩, ⟨12, 4, .rwd, 0⟩, ⟨16, 1, .rwp, 0⟩]⟩,
  ⟨0x70004, 0x4, 1, 0x4, 1, [⟨0, 1, .ro, 0⟩, ⟨1, 1, .ro, 0⟩, ⟨2, 1, .ro, 0⟩, ⟨3, 1, .ro, 0⟩, ⟨4, 1, .ro, 0⟩, ⟨8, 8, .ro, 0⟩]⟩,
  ⟨0x70008, 0x4, 1, 0x4, 1, [⟨0, 1, .rc, 0⟩, ⟨8, 1, .rc, 0⟩, ⟨16, 1, .rc, 0⟩, ⟨24, 1, .rc, 0⟩]⟩,
  ⟨0x7000C, 0x4, 1, 0x4, 1, [⟨0, 1, .rc, 0⟩, ⟨8, 1, .rc, 0⟩, ⟨16, 1, .rc, 0⟩, ⟨24, 1, .rc, 0⟩]⟩,
  ⟨0x70010, 0x4, 1, 0x4, 1, [⟨0, 16, .rwd, 34997⟩, ⟨16, 16, .rwd, 34998⟩]⟩,
  ⟨0x70014, 0x4, 1, 0x4, 1, [⟨0, 12, .rwd, 0⟩, ⟨12, 1, .rwd, 0⟩]⟩,
  ⟨0x70018, 0x4, 1, 0x4, 1, [⟨0, 32, .rwd, 0⟩]⟩,
  ⟨0x7001C, 0x4, 1, 0x4, 1, [⟨0, 16, .rwd, 0⟩]⟩,
  ⟨0x70020, 0x4, 1, 0x4, 1, [⟨0, 32, .rwd, 4294967295⟩]⟩,
  ⟨0x70024, 0x4, 1, 0x4, 1, [⟨0, 16, .rwd, 65535⟩]⟩,
  ⟨0x70028, 0x4, 1, 0x4, 1, [⟨0, 32, .rwd, 0⟩]⟩,
  ⟨0x7002C, 0x4, 1, 0x4, 1, [⟨0, 16, .rwd, 768⟩]⟩,
  ⟨0x70030, 0x4, 1, 0x4, 1, [⟨0, 16, .rwd, 0⟩, ⟨16, 6, .ro, 0⟩]⟩,
  ⟨0x70034, 0x4, 1, 0x4, 1, [⟨0, 3, .rwp, 6⟩, ⟨4, 3, .rwp, 7⟩, ⟨8, 3, .rwp, 2⟩]⟩,
  ⟨0x70038, 0x4, 1, 0x4, 1, [⟨0, 16, .rwp, 2000⟩]⟩,
  ⟨0x70040, 0x4, 8, 0x4, 1, [⟨0, 32, .rwp, 0⟩]⟩,
  ⟨0x70060, 0x4, 1, 0x4, 1, [⟨0, 8, .rwd, 255⟩, ⟨8, 8, .rwd, 0⟩]⟩,
  ⟨0x70064, 0x4, 1, 0x4, 1, [⟨0, 14, .rwp, 1000⟩]⟩,
  ⟨0x70068, 0x4, 1, 0x4, 1, [⟨0, 32, .ro, 0⟩]⟩,
  ⟨0x7006C, 0x4, 1, 0x4, 1, [⟨0, 32, .rwp, 0⟩]⟩,
  ⟨0x70070, 0x4, 1, 0x4, 1, [⟨0, 14, .rwp, 1000⟩]⟩,
  ⟨0x70080, 0x4, 1, 0x4, 1, [⟨0, 32, .rw, 0⟩]⟩,
  ⟨0x70084, 0x4, 1, 0x4, 1, [⟨0, 32, .rw, 0⟩]⟩,
  ⟨0x70088, 0x4, 1, 0x4, 1, [⟨0, 32, .rw, 0⟩]⟩,
  ⟨0x7008C, 0x4, 1, 0x4, 1, [⟨0, 32, .rw, 0⟩]⟩,
  ⟨0x70090, 0x4, 1, 0x4, 1, [⟨0, 32, .rw, 0⟩]⟩,
  ⟨0x70094, 0x4, 1, 0x4, 1, [⟨0, 32, .rw, 0⟩]⟩,
  ⟨0x70098, 0x4, 1, 0x4, 1, [⟨0, 32, .rw, 0⟩]⟩,
  ⟨0x7009C, 0x4, 1, 0x4, 1, [⟨0, 32, .rw, 0⟩]⟩,
  ⟨0x700A0, 0x4, 1, 0x4, 1, [⟨0, 32, .rw, 0⟩]⟩,
  ⟨0x700A4, 0x4, 1, 0x4, 1, [⟨0, 32, .rw, 0⟩]⟩,
  ⟨0x70100, 0x4, 8, 0x4, 1, [⟨0, 32, .ro, 0⟩]⟩,
  ⟨0x70400, 0x4, 256, 0x4, 1, [⟨0, 32, .rw, 0⟩]⟩,
  ⟨0x70800, 0x80, 2, 0x8, 8, [⟨0, 32, .gp, 0⟩]⟩,
  ⟨0x70900, 0x4, 1, 0x4, 1, [⟨0, 1, .gp, 0⟩, ⟨1, 1, .gp, 0⟩]⟩,
  ⟨0x78000, 0x4, 1, 0x4, 1, [⟨0, 1, .rw, 0⟩, ⟨1, 1, .rwp, 1⟩]⟩,
  ⟨0x78004, 0x4, 1, 0x4, 1, [⟨0, 3, .ro, 0⟩, ⟨3, 1, .ro, 0⟩, ⟨4, 1, .ro, 0⟩, ⟨5, 1, .ro, 0⟩, ⟨8, 8, .ro, 0⟩, ⟨16, 16, .ro, 0⟩]⟩,
  ⟨0x78008, 0x4, 1, 0x4, 1, [⟨0, 1, .rc, 0⟩, ⟨8, 1, .rc, 0⟩, ⟨16, 1, .rc, 0⟩, ⟨24, 1, .rc, 0⟩]⟩,
  ⟨0x7800C, 0x4, 1, 0x4, 1, [⟨0, 32, .ro, 0⟩]⟩,
  ⟨0x78010, 0x4, 1, 0x4, 1, [⟨0, 32, .rw, 0⟩]⟩,
  ⟨0x78014, 0x4, 1, 0x4, 1, [⟨0, 1, .rwp, 0⟩, ⟨1, 1, .rwp, 0⟩, ⟨2, 1, .rwp, 0⟩]⟩,
  ⟨0x78018, 0x4, 1, 0x4, 1, [⟨0, 32, .ro, 0⟩]⟩,
  ⟨0x7801C, 0x4, 1, 0x4, 1, [⟨0, 32, .ro, 0⟩]⟩,
  ⟨0x78020, 0x4, 1, 0x4, 1, [⟨0, 32, .rw, 0⟩]⟩,
  ⟨0x78024, 0x4, 1, 0x4, 1, [⟨0, 32, .rw, 0⟩]⟩,
  ⟨0x78028, 0x4, 1, 0x4, 1, [⟨0, 32, .rw, 0⟩]⟩,
  ⟨0x78030, 0x4, 1, 0x4, 1, [⟨0, 16, .wo, 0⟩]⟩,
  ⟨0x78038, 0x4, 1, 0x4, 1, [⟨0, 1, .gp, 0⟩]⟩,
  ⟨0x78100, 0x20, 8, 0x4, 1, [⟨0, 32, .ro, 0⟩]⟩,
  ⟨0x78104, 0x20, 8, 0x4, 1, [⟨0, 32, .ro, 0⟩]⟩,
  ⟨0x78108, 0x20, 8, 0x4, 1, [⟨0, 32, .ro, 0⟩]⟩,
  ⟨0x7810C, 0x20, 8, 0x4, 1, [⟨0, 32, .ro, 0⟩]⟩,
  ⟨0x78110, 0x20, 8, 0x4, 1, [⟨0, 32, .ro, 0⟩]⟩,
  ⟨0x78114, 0x20, 8, 0x4, 1, [⟨0, 32, .ro, 0⟩]⟩]

/-- The register map of R268 in the order of its offsets, part 6. -/
def regMap6 : List RegDesc := [
  ⟨0x78118, 0x20, 8, 0x4, 1, [⟨0, 32, .rw, 0⟩]⟩,
  ⟨0x78200, 0x20, 16, 0x4, 1, [⟨0, 32, .ro, 0⟩]⟩,
  ⟨0x78208, 0x20, 16, 0x4, 1, [⟨0, 32, .ro, 0⟩]⟩,
  ⟨0x7820C, 0x20, 16, 0x4, 1, [⟨0, 32, .ro, 0⟩]⟩,
  ⟨0x78210, 0x20, 16, 0x4, 1, [⟨0, 32, .ro, 0⟩]⟩,
  ⟨0x78214, 0x20, 16, 0x4, 1, [⟨0, 32, .ro, 0⟩]⟩,
  ⟨0x78218, 0x20, 16, 0x4, 1, [⟨0, 32, .ro, 0⟩]⟩,
  ⟨0x7821C, 0x20, 16, 0x4, 1, [⟨0, 32, .ro, 0⟩]⟩,
  ⟨0x7C000, 0x4, 1, 0x4, 1, [⟨0, 1, .rw, 1⟩, ⟨1, 1, .rw, 0⟩, ⟨2, 1, .wo, 0⟩, ⟨3, 1, .rw, 0⟩, ⟨4, 2, .rw, 0⟩, ⟨6, 1, .rw, 0⟩]⟩,
  ⟨0x7C004, 0x4, 1, 0x4, 1, [⟨0, 24, .rw, 100000⟩]⟩,
  ⟨0x7C008, 0x4, 1, 0x4, 1, [⟨0, 4, .ro, 0⟩, ⟨4, 1, .ro, 0⟩]⟩,
  ⟨0x7C00C, 0x4, 1, 0x4, 1, [⟨0, 1, .rc, 0⟩, ⟨8, 1, .rc, 0⟩, ⟨16, 1, .rc, 0⟩]⟩,
  ⟨0x7C010, 0x4, 1, 0x4, 1, [⟨0, 8, .ro, 0⟩, ⟨8, 8, .ro, 0⟩]⟩,
  ⟨0x7C014, 0x4, 1, 0x4, 1, [⟨0, 8, .rw, 85⟩]⟩,
  ⟨0x7C018, 0x4, 1, 0x4, 1, [⟨0, 32, .rw, 0⟩]⟩,
  ⟨0x7C01C, 0x4, 1, 0x4, 1, [⟨0, 32, .rw, 0⟩]⟩,
  ⟨0x7C020, 0x4, 1, 0x4, 1, [⟨0, 32, .rw, 0⟩]⟩,
  ⟨0x7C028, 0x4, 1, 0x4, 1, [⟨0, 32, .ro, 0⟩]⟩,
  ⟨0x7C02C, 0x4, 1, 0x4, 1, [⟨0, 32, .ro, 0⟩]⟩,
  ⟨0x7C100, 0x40, 4, 0x4, 1, [⟨0, 32, .ro, 0⟩]⟩,
  ⟨0x7C104, 0x40, 4, 0x4, 1, [⟨0, 16, .ro, 0⟩]⟩,
  ⟨0x7C108, 0x40, 4, 0x4, 1, [⟨0, 32, .ro, 0⟩]⟩,
  ⟨0x7C10C, 0x40, 4, 0x4, 1, [⟨0, 16, .ro, 0⟩]⟩,
  ⟨0x7C110, 0x40, 4, 0x4, 1, [⟨0, 32, .ro, 0⟩]⟩,
  ⟨0x7C114, 0x40, 4, 0x4, 1, [⟨0, 16, .ro, 0⟩]⟩,
  ⟨0x7C118, 0x40, 4, 0x4, 1, [⟨0, 32, .ro, 0⟩]⟩,
  ⟨0x7C11C, 0x40, 4, 0x4, 1, [⟨0, 16, .ro, 0⟩]⟩,
  ⟨0x7C120, 0x40, 4, 0x4, 1, [⟨0, 32, .ro, 0⟩]⟩,
  ⟨0x7C124, 0x40, 4, 0x4, 1, [⟨0, 16, .ro, 0⟩]⟩,
  ⟨0x7C128, 0x40, 4, 0x4, 1, [⟨0, 32, .ro, 0⟩]⟩,
  ⟨0x7C12C, 0x40, 4, 0x4, 1, [⟨0, 16, .ro, 0⟩]⟩,
  ⟨0x7C130, 0x40, 4, 0x4, 1, [⟨0, 32, .ro, 0⟩]⟩,
  ⟨0x7C134, 0x40, 4, 0x4, 1, [⟨0, 16, .ro, 0⟩]⟩,
  ⟨0x7C138, 0x40, 4, 0x4, 1, [⟨0, 32, .ro, 0⟩]⟩,
  ⟨0x7C13C, 0x40, 4, 0x4, 1, [⟨0, 16, .ro, 0⟩]⟩,
  ⟨0x7C200, 0x4, 1, 0x4, 1, [⟨0, 12, .rw, 0⟩]⟩,
  ⟨0x7C204, 0x4, 1, 0x4, 1, [⟨0, 32, .ro, 0⟩]⟩,
  ⟨0x7C210, 0x4, 5, 0x4, 1, [⟨0, 32, .ro, 0⟩]⟩,
  ⟨0x7E000, 0x20, 8, 0x4, 1, [⟨0, 1, .rw, 0⟩, ⟨1, 1, .rwp, 0⟩, ⟨4, 4, .rwd, 0⟩]⟩,
  ⟨0x7E004, 0x20, 8, 0x4, 1, [⟨0, 16, .rwp, 1⟩, ⟨16, 16, .rwp, 0⟩]⟩,
  ⟨0x7E008, 0x20, 8, 0x4, 1, [⟨0, 24, .rwp, 0⟩]⟩,
  ⟨0x7E00C, 0x20, 8, 0x4, 1, [⟨0, 24, .rwp, 1000⟩]⟩,
  ⟨0x7E100, 0x4, 1, 0x4, 1, [⟨0, 8, .ro, 0⟩, ⟨8, 8, .ro, 0⟩, ⟨16, 8, .ro, 0⟩]⟩,
  ⟨0x7E104, 0x4, 1, 0x4, 1, [⟨0, 1, .rc, 0⟩, ⟨8, 1, .rc, 0⟩, ⟨16, 1, .rc, 0⟩, ⟨24, 1, .rc, 0⟩]⟩,
  ⟨0x7E108, 0x4, 1, 0x4, 1, [⟨0, 1, .rc, 0⟩, ⟨8, 1, .rc, 0⟩, ⟨16, 1, .rc, 0⟩, ⟨24, 1, .rc, 0⟩]⟩,
  ⟨0x7F000, 0x4, 1, 0x4, 1, [⟨0, 2, .rwd, 0⟩, ⟨2, 2, .rwd, 0⟩]⟩,
  ⟨0x7F004, 0x4, 1, 0x4, 1, [⟨0, 1, .wo, 0⟩, ⟨4, 3, .rwd, 0⟩]⟩,
  ⟨0x7F008, 0x4, 1, 0x4, 1, [⟨0, 1, .ro, 0⟩, ⟨1, 1, .ro, 0⟩, ⟨16, 8, .ro, 0⟩, ⟨24, 8, .ro, 0⟩]⟩]

/-- Every register of the window (R268). -/
def regMap : List RegDesc := regMap1 ++ regMap2 ++ regMap3 ++ regMap4 ++ regMap5 ++ regMap6

/-- Words at each of `count` blocks from `base` in steps of `stride`: `words` holds offsets within a block. -/
def blocks (base stride count : Nat) (words : Tbl Word) : Tbl Word :=
  (List.range count).flatMap fun i => words.map fun w => (base + i * stride + w.1, w.2)

/-- The reset reactions of Table 12-2: U in bits 6:4, C (LOG) in bits 2:0. -/
def fltReactReset : Tbl Word := [(0x2204, 0x20), (0x2208, 0x10), (0x220C, 0x10), (0x2210, 0x10), (0x2214, 0x10), (0x2218, 0x10), (0x2220, 0x10), (0x2240, 0x20), (0x2244, 0x20), (0x2248, 0x20), (0x224C, 0x20), (0x2280, 0x10), (0x2284, 0x10), (0x2288, 0x10), (0x228C, 0x10), (0x2290, 0x10), (0x2294, 0x10), (0x2298, 0x10), (0x229C, 0x10), (0x22A0, 0x10), (0x22A4, 0x10), (0x22A8, 0x10), (0x22AC, 0x10), (0x22B0, 0x10), (0x22B4, 0x10), (0x22B8, 0x10), (0x22BC, 0x10), (0x22C0, 0x10), (0x22C4, 0x10), (0x22C8, 0x10), (0x22CC, 0x10), (0x22D0, 0x10), (0x22D4, 0x10), (0x22D8, 0x10), (0x22DC, 0x10), (0x22E0, 0x10), (0x22E4, 0x10), (0x22E8, 0x10), (0x22EC, 0x10), (0x22F0, 0x10), (0x22F4, 0x10), (0x22F8, 0x10), (0x22FC, 0x10), (0x2300, 0x10), (0x2304, 0x10), (0x2308, 0x10), (0x2340, 0x10), (0x2344, 0x10), (0x2348, 0x10), (0x2380, 0x20), (0x2384, 0x20), (0x2388, 0x20), (0x238C, 0x20), (0x2390, 0x20), (0x2398, 0x10), (0x239C, 0x10)]

/-- The words of the window that are not 0 after reset, by rising offset (the Reset columns, R11). (DESIGN CHOICE, log 3) -/
def resetRegs : Tbl Word :=
  [(0x0, 0x31419640)] ++
  [(0x1014, 0x00000006)] ++
  [(0x2000, 0x00000040)] ++
  [(0x2060, 0x00000001)] ++
  [(0x2070, 0x00010100)] ++
  fltReactReset ++
  [(0x3018, 0x00000810)] ++
  [(0x301C, 0x00000100)] ++
  blocks 0x4100 0x40 4 [(0x8, 0x00000004), (0x1C, 0x00000004), (0x30, 0x00000001)] ++
  [(0x5000, 0x000000FF)] ++
  [(0x5004, 0x00000040)] ++
  [(0x6020, 0x00000690)] ++
  blocks 0x8000 0x40 8 [(0xC, 0x00000001), (0x10, 0x00002710), (0x14, 0x00641405)] ++
  blocks 0x10000 0x1000 4 [(0x0, 0x00000072), (0x18, 0x1000000A), (0x1C, 0x00321F40), (0x40, 0x7B0C0000), (0x50, 0x00000082), (0x54, 0x00002710), (0x58, 0x000186A0), (0x60, 0x00400014), (0x64, 0x00284E20), (0xA0, 0x003C001E)] ++
  blocks 0x20000 0x400 32 [(0x8, 0x00000004), (0xC, 0x00000008), (0x18, 0x00000001), (0x28, 0x00000028), (0x2C, 0x00010010)] ++
  [(0x30000, 0x00000080)] ++
  [(0x30038, 0x000003E8)] ++
  [(0x3003C, 0x000A0032)] ++
  [(0x30058, 0x00000025)] ++
  [(0x30060, 0x00000064)] ++
  [(0x30080, 0xF8F6FE01)] ++
  [(0x30084, 0x00F80706)] ++
  [(0x30088, 0x030000FD)] ++
  [(0x34000, 0x00000001)] ++
  [(0x34030, 0x00FA00FA)] ++
  [(0x34034, 0x03E80258)] ++
  [(0x70000, 0x00000002)] ++
  [(0x70010, 0x88B688B5)] ++
  [(0x70020, 0xFFFFFFFF)] ++
  [(0x70024, 0x0000FFFF)] ++
  [(0x7002C, 0x00000300)] ++
  [(0x70034, 0x00000276)] ++
  [(0x70038, 0x000007D0)] ++
  [(0x70060, 0x000000FF)] ++
  [(0x70064, 0x000003E8)] ++
  [(0x70070, 0x000003E8)] ++
  [(0x78000, 0x00000002)] ++
  [(0x7C000, 0x00000001)] ++
  [(0x7C004, 0x000186A0)] ++
  [(0x7C014, 0x00000055)] ++
  blocks 0x7E000 0x20 8 [(0x4, 0x00000001), (0xC, 0x000003E8)]

/-- The sources of Table 12-2. -/
def faultSources : List Nat := [0x1, 0x2, 0x3, 0x4, 0x5, 0x6, 0x8, 0x10, 0x11, 0x12, 0x13, 0x20, 0x21, 0x22, 0x23, 0x24, 0x25, 0x26, 0x27, 0x28, 0x29, 0x2A, 0x2B, 0x2C, 0x2D, 0x2E, 0x2F, 0x30, 0x31, 0x32, 0x33, 0x34, 0x35, 0x36, 0x37, 0x38, 0x39, 0x3A, 0x3B, 0x3C, 0x3D, 0x3E, 0x3F, 0x40, 0x41, 0x42, 0x43, 0x50, 0x51, 0x52, 0x60, 0x61, 0x62, 0x63, 0x64, 0x65, 0x66, 0x67]

end Sys2Proof.Machine
end

