-- ==== Sys2Proof/Machine/State.lean ====
section
/-! DEFINITION. The state of the block as plain data: what every chapter of the spec gives the device, the queue of waiting
commands, and `State.reset`. A live value that a register shows has one home: the register words `Dev.regs`, or a field of a
record below from which `Dev.readWord` computes the word. -/

namespace Sys2Proof.Machine

/-- The six modes, coded as R245 (R25). -/
inductive Mode where
  | boot | configure | run | degraded | test | halt
  deriving DecidableEq, Repr

/-- Object states, coded as CH_STATE and SHAFTs_STATE.STATE (R65, R151, R169, R243, R302). -/
inductive ObjState where
  | free | created | configured | running | stopping | stopped
  deriving DecidableEq, Repr

/-- Completion statuses, Table 10-3. -/
inductive Status where
  | ok | busy | badOpcode | badHandle | staleHandle | noResource | state | range | guard | mode | deadline | auth | timeout
  | precond | partialDone | internal
  deriving DecidableEq, Repr

/-- Fault classes (R270). -/
inductive FClass where
  | c | u | f
  deriving DecidableEq, Repr

/-- A fault message (Table 12-1). -/
structure FaultMsg where
  source   : Nat
  kind     : Nat
  cls      : FClass
  address  : Nat
  injected : Bool
  real     : Bool
  merged   : Bool
  deriving DecidableEq, Repr

/-- The record that is being handled (R276, R277). -/
structure FaultRec where
  first      : FaultMsg
  lastSource : Nat
  kindOr     : Nat
  cls        : FClass
  reaction   : Nat
  flagsOr    : Nat
  mergeCount : Nat
  tick       : Nat
  sec        : Nat
  ns         : Nat
  deriving DecidableEq, Repr

/-- The fault collector beside its registers (R271, R276, R280, R284, R287). `live`, `degrade` and `force` are the sets of sources
of R280; `live` holds real conditions only. `croakSince` is the AON edge at which the half-period in progress began; `croakBad` remembers for conditions 1 to 4
of R284 that they failed in the half-period in progress; `reqHeld` is the value of FLT_CROAK_CFG.REQ_RUN in force until the AON edge after the one counted (R263). `croakOn` tells that CROAK is driven. `cbTarget`, `cbBits` and `cbLeft` are the target, bits and
count of the CHECKBIT injection armed last, `cbHits` the corruptions recorded: target, bits, and address or SEQ, newest first (R287). `eccAt` holds the instants of the last corrections of
each bank, `banksOut` the banks taken out (R273), `configured` that CONFIGURE has been entered since power-on (R283), `checking` that a checker
test runs (R291). -/
structure FltState where
  queues    : Tbl (List FaultMsg)
  rec?      : Option FaultRec
  live      : BitVec 128
  degrade   : BitVec 128
  force     : BitVec 128
  croakStop : Bool
  croakLevel : Bool
  croakOn   : Bool
  croakSince : Nat
  croakBad  : BitVec 4
  reqHeld   : Option (Bool × Nat)
  fatal     : Bool
  cbTarget  : Nat
  cbBits    : Nat
  cbLeft    : Nat
  cbHits    : List (Nat × Nat × Nat)
  eccAt     : Tbl (List Nat)
  banksOut  : BitVec 4
  configured : Bool
  checking  : Bool
  deriving DecidableEq, Repr

/-- An open guarded pair of one requester (R257). -/
structure OpenPair where
  off  : Nat
  val  : Word
  at'  : Nat
  deriving DecidableEq, Repr

/-- A mode request in progress (R245, R269): its code, who asked (Table 11-1 code), the command to complete, if any,
and whether the switch-on of PD23 has been asked for (R333). -/
structure ModeReq where
  code : Nat
  req  : Nat
  cid  : Option Nat
  asked : Bool
  deriving DecidableEq, Repr

/-- The register interface and GLB (R248 to R269). Tables are keyed by requester number (`reqKey`). -/
structure GlbState where
  mode      : Mode
  prev      : Mode
  modeReq   : Option ModeReq
  guards    : Tbl OpenPair
  shadows   : Tbl (Nat × Word)
  stages    : Tbl (Nat × Word)
  irqSent   : BitVec 4
  bootSel   : Nat
  regsReady : Bool
  priv      : Bool
  step      : Nat
  cfgFixed  : Nat
  resetCause : Nat
  deriving DecidableEq, Repr

/-- A fetched entry (R225, R231) or an in-band entry (R220): its bytes, the instant at which it became visible or was accepted (R239),
for an in-band entry its sender, ingress port, key slot and counter, and whether its fields are in network order (R9). -/
structure Entry where
  bytes : List Byte
  seen  : Nat
  sa    : Nat
  port  : Nat
  key   : Nat
  seq   : Nat
  net   : Bool
  deriving DecidableEq, Repr

/-- One pair of rings beside its registers (R224 to R229). `seen` holds the doorbell instants of the entries between HEAD and TAIL; `cqBad` tells that an
error has lain in CQr since the pair was enabled, so that its completions are discarded (R228). -/
structure Ring where
  enabled  : Bool
  draining : Bool
  err      : Nat
  cqBad    : Bool
  sqHead   : Nat
  sqTail   : Nat
  cqTail   : Nat
  cqHead   : Nat
  seen     : List Nat
  fetched  : List Entry
  irqCount : Nat
  irqSince : Option Nat
  deriving DecidableEq, Repr

/-- What a command in progress waits for. -/
inductive Wait where
  /-- its buffered change becomes live (R136) -/
  | live
  /-- a step of time takes effect (R107) -/
  | step
  /-- the first full tick on a new epoch opens (R115) -/
  | epoch
  /-- the operation it armed is carried out at its boundary (R137) -/
  | armed
  /-- a mode comes into force (R245) -/
  | mode
  /-- MSn becomes LOCKED (R31) -/
  | msLock (n : Nat)
  /-- the band survey of MSn ends (R33) -/
  | survey (n : Nat)
  /-- the channel starts or fails to (R67) -/
  | chStart (o : Nat)
  /-- the channel stops (R68) -/
  | chStop (o : Nat)
  /-- the calibration run of MSn ends (R85) -/
  | cal (n : Nat)
  /-- the flash save ends (R94) -/
  | save
  /-- the shaft is STOPPED (R154) -/
  | shaftStop (s : Nat)
  /-- the follower is STOPPED (R190) -/
  | folStop (f : Nat)
  /-- the last segment of the stream is closed (R302) -/
  | streamStop (s : Nat)
  /-- the store answers: formatting or reading (R308, R316) -/
  | store
  /-- the queued domain switch completes (R333) -/
  | domain (n on : Nat)
  /-- the snapshot is complete (R247) -/
  | snapshot (i : Nat)
  deriving DecidableEq, Repr

/-- A command in progress: executed and not yet completed (R238). `handle` names the object it waits on (R240); `lost` that
its completion will be discarded, since PERST_N has reset its ring (R362). -/
structure Ticket where
  cid    : Nat
  src    : Source
  entry  : Entry
  tag    : Word
  notify : Bool
  opcode : Nat
  handle : Nat
  wait   : Wait
  result : Nat
  detail : Nat
  lost   : Bool
  deriving DecidableEq, Repr

/-- The command interface beside its registers (R222 to R240, R345). -/
structure CmdState where
  rings      : Tbl Ring
  inband     : List Entry
  list       : List Entry
  inProgress : List Ticket
  nextCid    : Nat
  inbandTurn : Bool
  deriving DecidableEq, Repr

/-- States of the time engine, coded as TIME_STATUS.STATE (R104). -/
inductive TimeSt where
  | unset | acquiring | locked | holdover
  deriving DecidableEq, Repr

/-- An accepted step of time (R107): to a given ToD or by an offset, both in 2^-16 ns, the boundary at which it takes effect, and the command that waits
for it. -/
structure StepReq where
  to?  : Option Nat
  by'  : Int
  k    : Nat
  cid  : Option Nat
  deriving DecidableEq, Repr

/-- A PTP port beside PTP_PORT_EN (R117, R118, R212, R246). `state` is coded as portState of IEEE 1588-2019; times are in 2^-16 ns. `lostResp`
counts peer-delay requests in a row that were not answered. `respT` is the receipt time of the request as a Pdelay_Resp gives it, its ingress and its sender, `respPair`
the responder's origin time and the ingress of the last exchange, `rate` the neighbour's rate less 1 in 2^-41; `noRate` and `noDelay` stop the computation
of the rate and the delay, and `askSync`, `askAnnounce` and `askPdelay` are the intervals that the neighbour asked for, 127 being stop (Table 5-3). -/
structure PtpPort where
  state     : Nat
  p2p       : Bool
  asym      : Int
  ext       : Nat
  capable   : Bool
  pathDelay : Int
  offset    : Int
  heard     : Option PtpDataset
  heardAt   : Nat
  lastSync  : Nat
  syncSeq   : Nat
  syncT1    : Option (Nat × Int)
  syncT2    : Option (Nat × Nat)
  reqSeq    : Nat
  reqSent   : Option Nat
  reqT3     : Option Nat
  lostResp  : Nat
  respT     : Option (Int × Nat × Nat)
  respPair  : Option (Int × Nat)
  rate      : Int
  noRate    : Bool
  noDelay   : Bool
  txSeq     : Nat
  askSync   : Option Int
  askAnnounce : Option Int
  askPdelay : Option Int
  lastTx    : Tbl Nat
  deriving DecidableEq, Repr

/-- What a gPTP relay passes on from its SLAVE port (R117): the origin time and the correction at the ingress of the Sync, the ingress itself, and the grandmaster's
rate less 1 in 2^-41. Times are in 2^-16 ns. -/
structure Relay where
  port   : Nat
  origin : Nat
  corr   : Int
  at'    : Nat
  rate   : Int
  deriving DecidableEq, Repr

/-- The time engine beside its registers (R99 to R121). `tod` is the time counter in 2^-48 ns (R100); `servo` the part of y_time that a
servo or a holdover sets, in 2^-48, and `steerRef` the DPLL steering at entry into a PTP holdover (R121); `stepK` the tick that the last step
ended (R109); `epoch` the line epoch in 2^-16 ns (R114); `servos` the values of `servo` with the instants from which they held, newest first (R121);
`astray` that ToD has been without a disciplined rate since it was last set or locked (R340); `lostBy` the instant by which the next Sync or Announce of the
SLAVE port is due, `dpllHeld` that the DPLL of TIME_DPLL was last seen in holdover, and `viaDpll` that it put the engine in HOLDOVER (R121). `shown` is the ToD
of the last edge of the core clock while that is OSCIN bypass (R339). Instants are readings of `Dev.now`. -/
structure TimeState where
  tod       : Nat
  shown     : Nat
  st        : TimeSt
  servo     : Int
  slewLeft  : Int
  slewing   : Bool
  stepReq   : Option StepReq
  blocked   : Bool
  goodRun   : Nat
  badRun    : Nat
  everValid : Bool
  epoch     : Nat
  stepK     : Option Nat
  steerRef  : Option Int
  ppsFirst  : Bool
  lastPps   : Option Nat
  ppsOutAt  : Option Nat
  ppsSec    : Nat
  ports     : Tbl PtpPort
  parent    : Option PtpDataset
  servos    : List (Nat × Int)
  astray    : Bool
  relay     : Option Relay
  lostBy    : Option Nat
  dpllHeld  : Bool
  viaDpll   : Bool
  deriving DecidableEq, Repr

/-- A pending change of period (R127). -/
structure PeriodReq where
  num : Nat
  den : Nat
  k   : Nat
  cid : Option Nat
  deriving DecidableEq, Repr

/-- The tick generator beside its registers (R123 to R137). `nextK` is the index of the coming boundary on the grid in force; `bound` is
ToD of the boundary that opened the tick in progress, in 2^-16 ns; `missed` the kinds of Table 6-3 missed in this tick; `startK` the
first boundary that may open while the tick does not run (R126); `compEnd` and `pubEnd` the ends of compute and of hand-over in this tick, in ns
after T0, none until they have been checked. -/
structure TickState where
  running      : Bool
  transitional : Bool
  phase        : Nat
  index        : Nat
  nextK        : Nat
  startK       : Option Nat
  bound        : Nat
  num          : Nat
  den          : Nat
  epochRem     : Nat
  perReq       : Option PeriodReq
  epochReq     : Option (Nat × Option Nat)
  epochLive    : Bool
  epochCid     : Option Nat
  schedRej     : Bool
  gapMiss      : Bool
  missed       : List Nat
  cutDone      : Bool
  compEnd      : Option Nat
  pubEnd       : Option Nat
  deriving DecidableEq, Repr

/-- A ramp in progress (R52 to R54): the segment, the word it started from (`N_INT × N_MOD + N_FRAC`), the instant it started, and the word that the
whole ramp started from. `profile` tells a profile spread (R55) from a ramp. -/
structure Ramp where
  seg    : Nat
  start  : Nat
  since  : Nat
  base   : Nat
  profile : Bool
  deriving DecidableEq, Repr

/-- One master synthesiser and its DPLL beside their registers (R27 to R55). Instants are readings of `Dev.now`. `sscPhase` is the phase of the triangular
spread as a time, `ditherUp` the sign with which the dither began (R29), `exc` the phase that ramps and spread have added up to the segment in progress
(R46), in 2^-48 of the unit of `Dev.now`; `steers` the steering words with the instants from which they held, newest first (R50). `phase` counts the VCO cycles up to
`phaseAt`, in 2^-64 of a cycle (R27); `startAt` is the last instant at which channels were started at a boundary, with the number of their free values (R67). -/
structure Ms where
  acqAt     : Option Nat
  starting  : Bool
  second    : Bool
  lockAt    : Option Nat
  lost      : Bool
  returned  : Bool
  surveyAt  : Option Nat
  ramp      : Option Ramp
  dpllAt    : Nat
  narrowed  : Bool
  lockedMs  : Nat
  lockedAt  : Option Nat
  tempLo    : Int
  tempHi    : Int
  learnAt   : Nat
  extAt     : Nat
  extOld    : Bool
  sscPhase  : Nat
  ditherUp  : Bool
  exc       : Int
  steers    : List (Nat × Int)
  phase     : Int
  phaseAt   : Nat
  startAt   : Option (Nat × Nat)
  deriving DecidableEq, Repr

/-- One REFIN monitor beside its registers (R41, R42): bound by REF_MON_CREATE, lost since it was last VALID (R280), good gates counted, instants of the last state change, of
the gate's start and of the last activity seen. -/
structure RefMon where
  bound   : Bool
  lost    : Bool
  good    : Nat
  validAt : Nat
  gateAt  : Nat
  seenAt  : Nat
  deriving DecidableEq, Repr

/-- Clocks beside PWR_CLK_STATUS and REF_OSC_STATUS (R337 to R340): OSCIN present on its pin since, the core PLL locked since, the last
edge of the AON clock and the number of its edges, the words of the slow-domain copies (R263), the rate error of ToD on the ring oscillator, in 2^-48 (Table 15-2), the instant
from which the millisecond to the next measurement of that oscillator counts, and the first edge of the core clock after it last went to OSCIN bypass (R339). -/
structure ClkState where
  aonAt    : Nat
  aonN     : Nat
  slow     : Tbl Word
  oscSince : Option Nat
  pllSince : Option Nat
  oscLost  : Bool
  rateErr  : Int
  ringAt   : Option Nat
  bypAt    : Nat
  deriving DecidableEq, Repr

/-- An event on its way to the recorder (R292 to R296): code, token bucket (the code, or `0x1000 + SOURCE` for a FAULT record; none where
it is not rate-limited), packed payload. -/
structure EvtItem where
  code    : Nat
  bucket  : Option Nat
  payload : List Byte
  deriving DecidableEq, Repr

/-- A token bucket (R295): tokens in thousandths, the instant they were last counted, records suppressed since the last one written. -/
structure Bucket where
  tokens     : Nat
  since      : Nat
  suppressed : Nat
  firstMs    : Nat
  deriving DecidableEq, Repr

/-- The event recorder beside its registers (R292 to R301). `sand` holds the records of the Sand area, oldest first, each with its offset;
`clay` the images of the slots that are not erased, by number (R298); `clayQueue` the records whose slot is not yet programmed; `ckpt` the entries of checkpoint sector
0 (A) and 1 (B), in order. `sandBytes` counts the bytes written since the last EVT_READ of AREA 0; OPTIME is `optBase` at `optAt` (R301). -/
structure EvtState where
  fifo      : List EvtItem
  lost      : Nat
  lostMs    : Nat
  seq       : Nat
  sand      : List (Nat × List Byte)
  sandNext  : Nat
  sandBytes : Nat
  clay      : Tbl (List Byte)
  clayQueue : List (List Byte)
  haltQueue : List (List Byte)
  clearing  : Option Nat
  clearUsed : Nat
  buckets   : Tbl Bucket
  optBase   : Nat
  optAt     : Nat
  pcc       : Nat
  ckpt      : Tbl (List (List Byte))
  lastCkpt  : Nat
  threshHit : Bool
  deriving DecidableEq, Repr

/-- An in-band response waiting to be framed (R222). -/
structure InbandReply where
  entry  : Entry
  bytes  : List Byte
  deriving DecidableEq, Repr

/-- Sub-states of an output, coded as OUT_STATE (R62, R66). -/
inductive OutSub where
  | highZ | idle | armed | active | bypass | parked
  deriving DecidableEq, Repr

/-- The first rising edge that an ARMED channel is to give (R67): its instant, whether the start is late, and the tick index its completion reports. -/
structure FirstEdge where
  at'  : Nat
  late : Bool
  k    : Nat
  deriving DecidableEq, Repr

/-- One output with its synthesis channel, beside its registers (R59, R62 to R76). `goal` is the sub-state a switch in progress leads to (R72);
`held` tells that the old clock has been left, at `heldAt`, and the output waits at idle for the new one; `applied` is the phase applied at `slewAt`
(R63); `armK` the boundary of an ARMED channel (none for K = 0), `armAt` the instant from which its 10 ms run; `first` its first edge, once its boundary or its MS has
let it start (R67); `edgeAt` the instant of the first rising edge, `switchAt` the one at which a switch or a stop began (R68, R72), `before` the nominal frequency in
Hz before a relock (R75). `edge0` is the phase of the MS at the first rising edge at PHASE = 0 and `shift` the delay of the applied phase
`shiftTo`, both in 2^-64 of a VCO cycle (R63, R64). A stop or a switch waits for an edge: `waitH` is its number among the half periods of a clock from the MS, `waitAt` its instant on a
bypass source, and `riseAt` the last rising edge of the clock in use (R68, R72). `guard` is the level that the overshoot guard holds, and until when (R75). -/
structure OutCh where
  st      : ObjState
  sub     : OutSub
  goal    : Option OutSub
  held    : Bool
  stopReq : Bool
  applied : Int
  slewAt  : Nat
  armK    : Option Nat
  armAt   : Nat
  due     : Bool
  edgeAt  : Nat
  switchAt : Nat
  before  : Nat × Nat
  first   : Option FirstEdge
  edge0   : Int
  shift   : Int
  shiftTo : Int
  waitH   : Option Int
  waitAt  : Option Nat
  riseAt  : Nat
  heldAt  : Nat
  guard   : Option (Bool × Nat)
  deriving DecidableEq, Repr

/-- A calibration run that waits to start (R84 to R87): its trigger (1 START, 2 TEMP, 3 HOST), its stage mask, and, once a check of its
preconditions has passed, the first boundary at which it may start. -/
structure CalPend where
  trigger : Nat
  mask    : Nat
  ready   : Option Nat
  deriving DecidableEq, Repr

/-- The calibration engine of one MS beside its registers (R79 to R91): the run pending; of the run in progress the stage mask, the updates made
live in this stage, the samples accumulated since the last update (R79), the steps of an update computed for the coming boundary or, inside the apply
window, for the one after it (R136), the outputs that take part in the DTC stage and those that took part, the
instant it started, what is to be reported, the two preconditions as last seen (R86, R89), and the boundary of an abort; and whether any run has been made
since reset. `sums` holds Σ(e × q) of the samples by coefficient (R79), `skip` tells that the coming window is not counted since an update was late (R80), `probe`
numbers the free values of the probe of the window in progress (R82). -/
structure CalMs where
  pending  : Option CalPend
  mask     : Nat
  done     : Nat
  samples  : Nat
  staged   : Option (List (Nat × Int))
  late     : Option (List (Nat × Int))
  parts    : List Nat
  took     : List Nat
  since    : Nat
  unmet    : Bool
  lockOk   : Bool
  refOk    : Bool
  lost     : Bool
  stages   : Nat
  abortK   : Option Nat
  ranOnce  : Bool
  sums     : List (Nat × Int)
  skip     : Bool
  probe    : Nat
  deriving DecidableEq, Repr

/-- What a calibration save slot holds (Table 4-5): FORMAT, GEN, PCC, OPTIME, the saved register words by their offsets, CRC and MARK. A slot that is
erased is absent. -/
structure CalSlot where
  format : Nat
  gen    : Nat
  pcc    : Nat
  optime : Nat
  words  : Tbl Word
  crc    : Nat
  mark   : Byte
  deriving DecidableEq, Repr

/-- A CAL_SAVE in progress (R94): target slot (0 A, 1 B) and GEN, and the snapshot once it is taken. -/
structure CalSave where
  slot : Nat
  gen  : Nat
  snap : Option CalSlot
  deriving DecidableEq, Repr

/-- Calibration beside its registers: engines, the save slots in QSPI that are not erased, the save in progress. -/
structure CalState where
  ms    : Tbl CalMs
  slots : Tbl CalSlot
  save  : Option CalSave
  deriving DecidableEq, Repr

/-- The settings that SHAFT_CONFIG makes live (R155, R161): profile handles, line shaft ID, flags and policies. -/
structure ShaftCfg where
  run       : Nat
  stop      : Nat
  qstop     : Nat
  lineId    : Nat
  publish   : Bool
  barrier   : Bool
  clkLoss   : Nat
  missLimit : Nat
  deriving DecidableEq, Repr

/-- A speed target (R143): TARGET in 2^-48 revolution per tick, TGT_NUM and TGT_DEN. -/
structure SpeedTarget where
  tgt : Int
  num : Nat
  den : Nat
  deriving DecidableEq, Repr

/-- The start slot of a shaft (R157): an armed SHAFT_START, or an armed SHAFT_RETUNE with its target. `back` is the state the shaft was
started from (R152); `checked` the record checked at the acceptance of a mirror's start (R165). -/
structure ShaftStart where
  k       : Nat
  retune  : Option SpeedTarget
  checked : Option ShaftRecord
  back    : ObjState
  cid     : Option Nat
  deriving DecidableEq, Repr

/-- The stop slot of a shaft (R157). -/
structure ShaftStop where
  k     : Nat
  quick : Bool
  cid   : Option Nat
  deriving DecidableEq, Repr

/-- A line shaft (R143, R151 to R168). `sub` is coded as Table 7-3; `pos` and `rem` are in 2^-48 revolution and in parts of TGT_DEN; `v` and
`a` in 2^-80 revolution per tick and tick². `cfg` is live and `ncfg` the last accepted. `prof` is the profile in progress, `seg` its segment,
`dwell` the advances left in a dwell; `trackA`, `trackJ` the limits of tracking (R148); `ended` tells that the stop profile is complete
(R153); `isLocal` that a mirror runs its own quick stop (R164); `last` the record a mirror used last; `delta` the step of the tick (R170);
`taken` that a stop has begun and no advance has followed it yet, `first` that the last advance was the first under its stop, which its record shows as
STOP_TAKEN (Table 7-7); `win` the window as it last changed (R168). -/
structure Shaft where
  st        : ObjState
  mirror    : Bool
  sub       : Nat
  pos       : Nat
  posK      : Nat
  v         : Int
  a         : Int
  target    : SpeedTarget
  remAcc    : Nat
  trim      : Int
  trimRate  : Nat
  cfg       : ShaftCfg
  ncfg      : ShaftCfg
  prof      : Option Nat
  seg       : Nat
  dwell     : Nat
  trackA    : Nat
  trackJ    : Nat
  ended     : Bool
  start?    : Option ShaftStart
  stop?     : Option ShaftStop
  misses    : Nat
  missRun   : Nat
  lost      : Bool
  extrap    : Bool
  isLocal   : Bool
  last      : Option ShaftRecord
  owner     : Nat
  delta     : Int
  taken     : Bool
  first     : Bool
  cause     : Nat
  win       : List Word
  deriving DecidableEq, Repr

/-- A ramp profile (R146, R147): first segment in the store, its segments of 32 bytes each, and whether it is well-formed. -/
structure Prof where
  first  : Nat
  segs   : List (List Byte)
  usable : Bool
  deriving DecidableEq, Repr

/-- Shafts, profiles, and the records received, by line shaft ID, newest first (R163). `before` holds the shafts as they were before the
advance of the tick (R160); `conflict` the instant of the last ID_CONFLICT message per ID (R166); `clkLoss` a loss of clock not yet
answered by the shafts' policies, and whether OSCIN was lost (R339, R340). -/
structure ShaftState where
  shafts   : Tbl Shaft
  before   : Tbl Shaft
  profs    : Tbl Prof
  recs     : Tbl (List ShaftRecord)
  conflict : Tbl Nat
  clkLoss  : Option Bool
  deriving DecidableEq, Repr

/-- What one FOL_CONFIG carries (R191): shaft, cam curve, group, slot, PORT, N and M. -/
structure FolBind where
  shaft : Nat
  cam   : Option Nat
  group : Nat
  slot  : Nat
  port  : Nat
  n     : Int
  m     : Nat
  deriving DecidableEq, Repr

/-- An armed FOL_START (R189). `back` is the state it was accepted in. -/
structure FolStart where
  k     : Nat
  align : Bool
  hold  : Bool
  back  : ObjState
  cid   : Option Nat
  deriving DecidableEq, Repr

/-- A follower (R169 to R191). `lock` is coded as Table 8-3; `g`, `frem` the geared position and its remainder (R170); offsets in 2^-32
revolution (R172). `bind` is live and `nbind` the last accepted. `sp` is the last setpoint published, `cur` the setpoint computed in this tick;
`frozen` and `hold` those of R190 and R188; `act`, `err` what feedback gave. `seen` tells that a record for the slot has arrived in this tick,
`present` that it is present (R182), `evald` that its error was evaluated; `startK` the tick in which its start took effect; `stopK` the boundary of STOPPED (R190); `holdReq`
a HOLD_SETPOINT not yet computed. `resync` counts good ticks in RESYNC, `sampled` its path-delay proviso (R188); `compare` asks for the
comparison at the coming computation. `gWas`, `fremWas`, `offWas`, `spWas`, `heldWas` are the values before this tick's computation; `win` the window as last
refreshed (R198); `marks` the counters TRIPS, SLIPS, PUB_MISS and FB_STALE as the last trace record saw them (R303). -/
structure Fol where
  st        : ObjState
  lock      : Nat
  g         : Nat
  frem      : Nat
  bind      : Option FolBind
  nbind     : Option FolBind
  offTarget : Int
  offset    : Int
  offRate   : Nat
  warn      : Nat
  trip      : Nat
  missLimit : Nat
  tripAct   : Nat
  goodRun   : Nat
  missRun   : Nat
  tripCause : Nat
  portDown  : Bool
  pubMiss   : Nat
  fbStale   : Nat
  fbDup     : Nat
  slips     : Nat
  trips     : Nat
  sp        : Option Nat
  cur       : Nat
  frozen    : Nat
  hold      : Nat
  act       : Nat
  err       : Int
  held      : Bool
  seen      : Bool
  present   : Bool
  evald     : Bool
  startK    : Option Nat
  stopK     : Option Nat
  holdReq   : Bool
  resync    : Nat
  sampled   : Bool
  compare   : Bool
  gWas      : Nat
  fremWas   : Nat
  offWas    : Int
  spWas     : Option Nat
  heldWas   : Bool
  start?    : Option FolStart
  stop?     : Option (Nat × Option Nat)
  win       : List Word
  marks     : List Nat
  deriving DecidableEq, Repr

/-- A cam curve (R177): first point in the store, LIFT, its points of 16 bytes each (Table 8-2), whether its first load has completed,
and the points that become live at the next boundary (R180). -/
structure Cam where
  first  : Nat
  lift   : Int
  pts    : List (List Byte)
  npts   : List (List Byte)
  loaded : Bool
  deriving DecidableEq, Repr

/-- A publication group (R175, R176, R194). `mask`, `cls`, `latMode` live and `nmask` the last mask accepted; `want` the latency set or measured, `lat` L_g in
force in this tick; `samples` the path-delay samples by follower of the last 64 ticks that produced one, newest first, `sample` those of this tick (R175); `tx` the SWL_TX times of its
last frames by the boundary they are for; `ticks` the ticks since L_g was last lowered. -/
structure Grp where
  mask    : BitVec 256
  nmask   : BitVec 256
  cls     : Nat
  latMode : Nat
  latency : Nat
  margin  : Nat
  want    : Nat
  lat     : Nat
  samples : List (List (Nat × Int))
  sample  : List (Nat × Int)
  clamped : Bool
  ticks   : Nat
  pubMiss : Nat
  tx      : List (Nat × Nat)
  deriving DecidableEq, Repr

/-- Followers, cam curves and groups. -/
structure FolState where
  fols : Tbl Fol
  cams : Tbl Cam
  grps : Tbl Grp
  deriving DecidableEq, Repr

/-- The kinds of frame the device sends (Table 9-8). -/
inductive FrameKind where
  | pub (g : Nat)
  | shaft
  | ptpEvent
  | ptpGeneral
  | tsync
  | response
  deriving DecidableEq, Repr

/-- A PTP message that the device sends (R117, R212): its fields by name, since IEEE 1588-2019 gives its bytes. Times are in 2^-16 ns. `utc` is
currentUtcOffset and whether it is valid, in an Announce; `requesting` the requestingPortIdentity of a response, `rate` the cumulativeScaledRateOffset of a gPTP
Follow_Up; `held` is not sent: the correction of a request, which the Pdelay_Resp_Follow_Up carries. -/
structure PtpOut where
  port       : Nat
  kind       : PtpKind
  domain     : Nat
  seq        : Nat
  twoStep    : Bool
  stamp      : Nat
  correction : Int
  requesting : Nat
  rate       : Int
  held       : Int
  dataset    : Option PtpDataset
  utc        : Option (Int × Bool)
  deriving DecidableEq, Repr

/-- What a frame carries behind its line tag: the bytes of an inner line frame, an in-band response whose frame is made as it is sent (Table 9-7), a PTP
message, or the body of a time-sync unit. -/
inductive FrameBody where
  | line (bytes : List Byte)
  | reply (r : InbandReply)
  | ptp (msg : PtpOut)
  | tsync (bytes : List Byte)
  deriving DecidableEq, Repr

/-- A frame that waits in the device (R209, R215): the tick it was assembled in and the instant since which it waits. -/
structure LinkFrame where
  kind     : FrameKind
  mask     : BitVec 256
  cls      : Nat
  deadline : Nat
  body     : FrameBody
  k        : Nat
  since    : Nat
  deriving DecidableEq, Repr

/-- A frame transmitted, with the ports whose report is outstanding (R218), the tick and instant of its transmission, and its SWL_TX time
in 2^-16 ns (R122). -/
structure SentFrame where
  seq   : Nat
  kind  : FrameKind
  ports : List Nat
  k     : Nat
  sentAt : Nat
  ts    : Nat
  ptp   : Option PtpOut
  deriving DecidableEq, Repr

/-- The last COUNTER accepted from an SA, and when (R221). -/
structure SaEntry where
  sa      : Nat
  counter : Nat
  since   : Nat
  deriving DecidableEq, Repr

/-- The switch link beside its registers (R199 to R223). `paused` holds the instants at which pauses expire, by class; `fill` the bytes in the
firmware-bound buffers and when they last grew, `xoff` the classes on which XOFF was sent; `syncs` the time-sync units not yet answered, with
their T1; `delays` twice the last 8 delay samples, in 2^-16 ns; `down` that the link went down unrequested and has not come up; `stepped` that a step has taken effect since the last unit; `portSeq` the SEQ recorded
at each port's last return (R217); `saCounters` the counters of R221; `missTick` the tick of the last REPORT_MISSING message. -/
structure LinkState where
  seq        : Nat
  queue      : List LinkFrame
  sent       : List SentFrame
  paused     : Tbl Nat
  fill       : Tbl (Nat × Nat)
  xoff       : BitVec 8
  syncSeq    : Nat
  syncs      : List (Nat × Nat)
  noEcho     : Nat
  delays     : List Int
  down       : Bool
  stepped    : Bool
  syncAt     : Nat
  portSeq    : Tbl Nat
  authAt     : Option Nat
  saCounters : List SaEntry
  missTick   : Option Nat
  deriving DecidableEq, Repr
/-- A segment of the trace (R309): its place in the ring and what its header holds (Table 13-5), its ticks with their records, oldest first; and
of one that is being written: whether its header is zeroed, the bytes that still wait in staging, and whether it is closed; of one that is read, whether its
DATA_CRC does not match (R316). -/
structure TraceSeg where
  slot      : Nat
  fmt       : Nat
  seq       : Nat
  first     : Nat
  bound     : Nat
  num       : Nat
  den       : Nat
  ticks     : List (Nat × List Byte)
  lost      : Nat
  gapBefore : Bool
  isPart    : Bool
  halted    : Bool
  decim     : Nat
  folFirst  : Nat
  folCount  : Nat
  stream    : Nat
  mode      : Nat
  zeroed    : Bool
  staged    : Nat
  closed    : Bool
  corrupt   : Bool
  deriving DecidableEq, Repr

/-- A segment as the SSD holds it (R309): bytes 0 to 88 of its header, whose other bytes are 0, and its data. -/
structure SegImage where
  header : List Byte
  data   : List Byte
  deriving DecidableEq, Repr

/-- A recorder stream (R302): settings, the last tick that passed it and the last one written, the ticks lost in the gap in progress and the first
of them (R311), the armed start and stop, and the boundary at which it stopped. -/
structure Stream where
  st     : ObjState
  mode   : Nat
  decim  : Nat
  first  : Nat
  count  : Nat
  pre    : Nat
  post   : Nat
  last   : Option Nat
  newest : Option Nat
  gapAt  : Option Nat
  lost   : Nat
  start? : Option (Nat × Option Nat)
  stop?  : Option Nat
  deriving DecidableEq, Repr

/-- A preserved window (R305, Table 13-4), with the source of its trigger. -/
structure Window where
  inUse  : Bool
  isDone : Bool
  stream : Nat
  first  : Nat
  last   : Nat
  kt     : Nat
  source : Nat
  deriving DecidableEq, Repr

/-- What a valid superblock says (Table 13-4). -/
structure Superblock where
  gen     : Nat
  fmt     : Nat
  lbas    : Nat
  lineId  : Nat
  device  : Nat
  windows : List Window
  deriving DecidableEq, Repr

/-- What a STORE_READ copies (R316): its command, whether the host took it, address, bytes, and the segments it reads. -/
structure ReadJob where
  cid    : Nat
  dmaOk  : Bool
  addr   : Nat
  bytes  : List Byte
  next   : Nat
  slots  : List Nat
  deriving DecidableEq, Repr

/-- NVMe commands other than segment writes that the store has to make (R308, R310, R316): a superblock update, one of a new format, the flush that ends
either (`whole` for a format), deallocation of a new format's regions or of every LBA, a read, an event block, one LBA of the index. -/
inductive StoreJob where
  | sb (img : Superblock)
  | fmt (img : Superblock)
  | flush (whole : Bool)
  | dealloc (cid : Option Nat)
  | erase
  | read (r : ReadJob)
  | block (pos : Nat) (bytes : List Byte)
  | index (lba : Nat)
  deriving DecidableEq, Repr

/-- An NVMe command of the subset that the device uses (R306), with its LBAs. -/
inductive NvmeCmd where
  | identify (ns : Bool)
  | numQueues (n : Nat)
  | cacheOff
  | createCq (q size : Nat)
  | createSq (q size : Nat)
  | read (lba n : Nat)
  | write (lba n : Nat)
  | flush
  | dealloc (lba n : Nat)
  deriving DecidableEq, Repr

/-- The record store beside its registers (R306 to R317): what the SSD holds (`sbs`, `segs`, `blocks`, and `indexW` by LBA of the index), the superblock that
governs since the mount, with its slot (R308), the index as it is kept in the device, by segment, the segments in flight, oldest first, the write head, the commands in flight, and the windows in force; `perstHigh` is the level of STO_PERST_N. -/
structure StoreState where
  sbs      : Tbl (List Byte)
  sb       : Option (Nat × Superblock)
  segs     : Tbl SegImage
  blocks   : Tbl (List Byte)
  indexW   : Tbl (List Byte)
  index    : Tbl (List Byte)
  flight   : List TraceSeg
  head     : Nat
  segSeq   : Nat
  windows  : List Window
  jobs     : List StoreJob
  streams  : Tbl Stream
  perstAt  : Option Nat
  perstHigh : Bool
  training : Bool
  cache    : Bool
  gts      : Nat
  width    : Nat
  lbas     : Nat
  evBlock  : List Byte
  evSince  : Option Nat
  evPos    : Nat
  lostAt   : Option Nat
  deriving DecidableEq, Repr


/-- The Newt cluster beside its registers (R321 to R329): the instant the boot ROM started the cores, the latest heartbeat, whether HEARTBEAT
has been sent since it, the counters by 8 × core + counter (Table order of MGMT_Cc) as they stood at `cntAt`, the sample buffer, by core the idle cycles and all
cycles since MGMT_LOAD was last computed (R326), the cycles of the selected cause since its last mark and the marks whose samples are still to come (R329), and the
instant of the last MGMT_LOAD update. -/
structure MgmtState where
  started  : Option Nat
  beat     : Option Nat
  beatLost : Bool
  cnt      : Tbl Nat
  cntAt    : Nat
  samples  : Tbl (List Word)
  used     : Tbl (Nat × Nat)
  sampCnt  : Tbl Nat
  marks    : Tbl Nat
  loadAt   : Nat
  deriving DecidableEq, Repr

/-- A request for a domain switch (R332, R333); the command that waits for it, if it is not a register's or the start-up's. -/
structure PwrReq where
  dom : Nat
  on  : Bool
  cid : Option Nat
  deriving DecidableEq, Repr

/-- Power beside its registers (R332, R335, R336): the requests written to PWR_DOMAIN_CTRL, each with the AON clock edge at which it acts (R263), the requests waiting, the switch in progress with the instant it started, the end of the last
one; the sensors that have given a reading, and those that are out of range; TJ_HIGH and TJ_CRIT
present; the rails reported out of range; the last conversion of each sensor, and since when it has exceeded TEMP_HIGH and 125 °C; the level code of
each VDDO as its domain was switched on (R335). -/
structure PowerState where
  asked    : List (PwrReq × Nat)
  queue    : List PwrReq
  cur      : Option PwrReq
  curAt    : Nat
  lastAt   : Option Nat
  tempRead : BitVec 8
  tempFail : BitVec 8
  hot      : Bool
  crit     : Bool
  railBad  : BitVec 17
  convAt   : Tbl Nat
  highAt   : Tbl Nat
  critAt   : Tbl Nat
  nom      : Tbl Nat
  deriving DecidableEq, Repr

/-- Start-up and resets (R324, R334, R342 to R346, R362, R365): power good has come and the supplies hold; VDD_AON and VDDIO are present (R357); RST_N is low; the second image slot is
being tried; what the boot flash reports of itself and the image copied to bank D; the instant the step began; the waits of the boot configuration in ms and its PD_MASK; whether step 7 has begun its work;
a warm reset runs; PERST_N is low; the instants of its last rise and of the last reset release; the host link is in L0 or L1; the host link was lost; PPS_IN is
high (R111). -/
structure BootState where
  powered  : Bool
  vddAon   : Bool
  vddio    : Bool
  rstLow   : Bool
  second   : Bool
  flash    : Option FlashInfo
  image    : List Byte
  since    : Nat
  refWait  : Nat
  timeWait : Nat
  calWait  : Nat
  pdMask   : Nat
  begun    : Bool
  warm     : Bool
  perst    : Bool
  perstUp  : Nat
  released : Option Nat
  hpeUp    : Bool
  hpeLost  : Bool
  ppsIn    : Bool
  deriving DecidableEq, Repr

/-- A snapshot (R247): its boundary; once that has opened, the header, the followers that are not FREE and the shaft records; and the
image when it is complete. -/
structure Snap where
  k      : Nat
  header : List Byte
  fols   : List Nat
  shafts : List Byte
  image  : Option (List Byte)
  deriving DecidableEq, Repr

/-- The TAP controller of R366: its state (IEEE 1149.1, numbered in `tapNext`), the instruction in force and the register being shifted, the data
register being shifted, the boundary cells in force, TRST_N low, and the level of TDO, none while it floats. -/
structure TapState where
  state : Nat
  ir    : BitVec 8
  shift : List Bool
  cells : List Bool
  trst  : Bool
  tdo   : Option Bool
  deriving DecidableEq, Repr

/-- Field tick outputs beside their registers (R348): the instants at which the pulses in progress began, and the tick of each output's last pulse. -/
structure FieldState where
  pulses : Tbl Nat
  last   : Tbl Nat
  deriving DecidableEq, Repr

/-- A change that waits for a boundary (R19, R135). -/
inductive Change where
  /-- a command's completion alone -/
  | done
  /-- bits of a register word (R12, RWP) -/
  | word (off : Nat) (mask val : Word)
  /-- a phase target, with PH_SLEW if given (R63) -/
  | phase (o target : Nat) (slew : Option Nat) (cid : Option Nat)
  /-- the holdover model of MSn restored (R51) -/
  | model (n : Nat)
  /-- what one SHAFT_CONFIG carries: settings, target, trim rate (0 keeps it), and a position preset (R155) -/
  | shaftCfg (s : Nat) (cfg : ShaftCfg) (target : SpeedTarget) (rate : Nat) (preset : Option Nat)
  /-- a speed target (R155) -/
  | shaftTarget (s : Nat) (target : SpeedTarget)
  /-- trim still to apply, relative or not, and trim rate (0 keeps it) (R155) -/
  | shaftTrim (s : Nat) (rel : Bool) (trim : Int) (rate : Nat)
  /-- what one FOL_CONFIG carries (R191) -/
  | folBind (f : Nat) (bind : FolBind)
  /-- an offset target, relative or not, and a rate if given (R172) -/
  | folOffset (f : Nat) (rel : Bool) (target : Int) (rate : Option Nat)
  /-- windows, MISS_LIMIT and TRIP_ACT (R183) -/
  | folLimits (f warn trip missLimit tripAct : Nat)
  /-- the points loaded into a cam curve (R180) -/
  | cam (c : Nat)
  /-- port mask, traffic class and LAT_MODE of a group (R194) -/
  | grpCfg (g : Nat) (mask : BitVec 256) (cls latMode : Nat)
  /-- LATENCY and LAT_MARGIN of a group (R176) -/
  | grpLatency (g latency margin : Nat)
  /-- the latency that a MEASURED group takes (R176) -/
  | grpWant (g want : Nat)
  /-- settings of one PTP port (R117) -/
  | ptpPort (port : Nat) (enable p2p : Bool) (ext : Nat) (asym : Int)
  deriving DecidableEq, Repr

/-- A buffered change, with the command that completes when it is live (R136). -/
structure Buffered where
  change : Change
  cid    : Option Nat
  deriving DecidableEq, Repr

/-- An operation armed for a boundary, in the order of Table 6-4. -/
inductive ArmOp where
  | chStop (o : Nat)
  | chStart (o : Nat)
  | rampStart (n : Nat)
  | lineStop (quick : Bool)
  | shaftStop (s : Nat)
  | lineStart
  | shaftStart (s : Nat)
  | folStop (f : Nat)
  | folStart (f : Nat)
  | folClear (f : Nat)
  | streamStop (s : Nat)
  | streamStart (s : Nat)
  | snapshot (i : Nat)
  | tickWait
  deriving DecidableEq, Repr

/-- An armed operation: its boundary, and the command that waits for it. -/
structure Armed where
  k   : Nat
  op  : ArmOp
  cid : Option Nat
  deriving DecidableEq, Repr

/-- What arrives on the switch link (R203, R206). -/
inductive RxUnit where
  | feedback (f : FeedbackFrame)
  | shafts (f : ShaftFrame)
  | command (f : InBandFrame)
  | ptp (m : PtpMessage)
  | reports (l : List EgressReport)
  | ports (mask : Nat)
  | echo (e : TimeEcho)
  | pfc (classes : BitVec 8) (quanta : List Nat)
  | other (cause : DiscardCause)
  deriving DecidableEq, Repr

/-- How the boot flash is read: 1-1-1, 1-4-4 or 1-4-4 DTR (R341). -/
inductive ReadMode where
  | single | quad | quadDtr
  deriving DecidableEq, Repr

/-- An operation of the boot flash: SFDP discovery, a read, the erase of a sector of 4 KiB, programming; `wide` tells that addresses have
4 bytes (R341). -/
inductive FlashOp where
  | sfdp
  | read (mode : ReadMode) (wide : Bool) (addr len : Nat)
  | erase (wide : Bool) (addr : Nat)
  | program (wide : Bool) (addr : Nat) (bytes : List Byte)
  deriving DecidableEq, Repr

/-- What the device sends to the outside, newest first in `Dev.out`. -/
inductive Output where
  /-- completion of 16 bytes at a slot of a completion ring, and the host address of that slot (R224, R225, R233) -/
  | cqe (ring slot addr : Nat) (bytes : List Byte)
  /-- a read of host memory by DMA (R224, R225) -/
  | hostRead (addr bytes : Nat)
  /-- other write to host memory by DMA (R225, R234) -/
  | hostWrite (addr : Nat) (bytes : List Byte)
  /-- MSI-X vector (R227, R267) -/
  | msix (vector : Nat)
  /-- words returned to a read, by requester key (R249) -/
  | readData (req : Nat) (words : List Word)
  /-- a request completed with Completer Abort (R251) -/
  | abort (req : Nat)
  /-- a carriage frame on the switch link: outer header and line tag, and what follows (R203, R204) -/
  | carriage (header : List Byte) (body : FrameBody)
  /-- a level on PPS_OUT (R113) -/
  | pps (high : Bool)
  /-- a PFC frame with the classes it stops and those it lets go (R202) -/
  | pfc (xoff xon : BitVec 8)
  /-- the unit received on the switch link sent again by the far-end loopback (DBG_LOOP) -/
  | relay (unit : RxUnit)
  /-- a level on STO_PERST_N (R307) -/
  | perst (high : Bool)
  /-- the NVMe controller enabled, with its admin queue entries and page size (R306, R307) -/
  | nvmeEnable (admin page : Nat)
  /-- an NVMe command on a queue: 0 admin, 1 trace writes, 2 everything else (R306) -/
  | nvme (queue : Nat) (cmd : NvmeCmd)
  /-- bytes returned on SMBus (R363) -/
  | smbus (bytes : List Byte)
  /-- a NACK on SMBus, or the bus released after its timeout (R363) -/
  | smbusEnd
  /-- an operation of the boot flash (R341) -/
  | flash (op : FlashOp)
  /-- end of an entry of the start-up list (R345) -/
  | listDone (tag : Word) (status : Nat)
  deriving DecidableEq, Repr

/-- What BAR2 holds (R267): the words of the MSI-X table that differ from its reset, by offset, and the pending bits of the eight vectors. -/
structure MsixState where
  table   : Tbl Word
  pending : BitVec 8
  deriving DecidableEq, Repr

/-- Whether a vector is masked by bit 0 of the last word of its entry, 1 after reset (PRESUMED, PCI Express Base Specification; log 131). -/
def MsixState.masked (m : MsixState) (v : Nat) : Bool := (Tbl.getD m.table (16 * v + 12) 1).getLsbD 0

/-- The device. `regs` and `pend` hold the live and pending register words; `pendNow` the changes for the coming boundary and `pendLate` those that
arrived inside the apply window; `schedPend` a set of schedule settings that has not qualified (R130); `trigs` the automatic triggers of this row (R305): 2 a fault, 3 a
deadline, 65536 + f a trip of follower f. `selAt` is the instant of monitor changes whose evaluation by the DPLLs is still to come (R44). -/
structure Dev where
  regs    : Tbl Word
  pend    : Tbl Word
  now     : Nat
  glb     : GlbState
  cmd     : CmdState
  flt     : FltState
  evt     : EvtState
  time    : TimeState
  tick    : TickState
  clk     : ClkState
  ms      : Tbl Ms
  refs    : Tbl RefMon
  selAt   : Option Nat
  outs    : Tbl OutCh
  cal     : CalState
  sh      : ShaftState
  fo      : FolState
  link    : LinkState
  store   : StoreState
  mgmt    : MgmtState
  pwr     : PowerState
  boot    : BootState
  snaps   : Tbl Snap
  tap     : TapState
  field   : FieldState
  msix    : MsixState
  baseGen : Nat
  gens    : Tbl Nat
  replies : List InbandReply
  pendNow : List Buffered
  pendLate : List Buffered
  schedPend : List Buffered
  armed   : List Armed
  trigs   : List Nat
  out     : List Output
  free    : Nat
  deriving DecidableEq, Repr

/-- GLB at power-on: mode BOOT, step not begun (R25, R269). -/
def GlbState.powerOn : GlbState where
  mode := .boot
  prev := .boot
  modeReq := none
  guards := []
  shadows := []
  stages := []
  irqSent := 0
  bootSel := 0
  regsReady := false
  priv := false
  step := 0
  cfgFixed := 0
  resetCause := 0

/-- A pair of rings at reset (R229). -/
def Ring.reset : Ring where
  enabled := false
  draining := false
  err := 0
  cqBad := false
  sqHead := 0
  sqTail := 0
  cqTail := 0
  cqHead := 0
  seen := []
  fetched := []
  irqCount := 0
  irqSince := none

/-- No command anywhere (R238); ring 2 has its turn first (R237, DESIGN CHOICE, log 11). -/
def CmdState.empty : CmdState where
  rings := []
  inband := []
  list := []
  inProgress := []
  nextCid := 0
  inbandTurn := false

/-- The collector at power-on (R283, R284). -/
def FltState.powerOn : FltState where
  queues := []
  rec? := none
  live := 0
  degrade := 0
  force := 0
  croakStop := false
  croakLevel := false
  croakOn := false
  croakSince := 0
  croakBad := 0
  reqHeld := none
  fatal := false
  cbTarget := 0
  cbBits := 0
  cbLeft := 0
  cbHits := []
  eccAt := []
  banksOut := 0
  configured := false
  checking := false

/-- The recorder at power-on, the flash erased (DESIGN CHOICE, log 6). -/
def EvtState.powerOn : EvtState where
  fifo := []
  lost := 0
  lostMs := 0
  seq := 0
  sand := []
  sandNext := 0
  sandBytes := 0
  clay := []
  clayQueue := []
  haltQueue := []
  clearing := none
  clearUsed := 0
  buckets := []
  optBase := 0
  optAt := 0
  pcc := 0
  ckpt := []
  lastCkpt := 0
  threshHit := false

/-- A PTP port that has heard nothing, INITIALIZING (PRESUMED, log 31). -/
def PtpPort.reset : PtpPort where
  state := 1
  p2p := true
  asym := 0
  ext := 0
  capable := false
  pathDelay := 0
  offset := 0
  heard := none
  heardAt := 0
  lastSync := 0
  syncSeq := 0
  syncT1 := none
  syncT2 := none
  reqSeq := 0
  reqSent := none
  reqT3 := none
  lostResp := 0
  respT := none
  respPair := none
  rate := 0
  noRate := false
  noDelay := false
  txSeq := 0
  askSync := none
  askAnnounce := none
  askPdelay := none
  lastTx := []

/-- The time engine at reset: UNSET, ToD 0 (R104, R105). -/
def TimeState.powerOn : TimeState where
  tod := 0
  shown := 0
  st := .unset
  servo := 0
  slewLeft := 0
  slewing := false
  stepReq := none
  blocked := false
  goodRun := 0
  badRun := 0
  everValid := false
  epoch := 0
  stepK := none
  steerRef := none
  ppsFirst := true
  lastPps := none
  ppsOutAt := none
  ppsSec := 0
  ports := []
  parent := none
  servos := []
  astray := false
  relay := none
  lostBy := none
  dpllHeld := false
  viaDpll := false

/-- The tick generator at reset: not running, no period (R126; DESIGN CHOICE, log 4). -/
def TickState.powerOn : TickState where
  running := false
  transitional := false
  phase := 0
  index := 0
  nextK := 0
  startK := none
  bound := 0
  num := 0
  den := 0
  epochRem := 0
  perReq := none
  epochReq := none
  epochLive := false
  epochCid := none
  schedRej := false
  gapMiss := false
  missed := []
  cutDone := false
  compEnd := none
  pubEnd := none

/-- The clocks at power-on: ring oscillator, OSCIN not yet qualified (R337, R340). -/
def ClkState.powerOn : ClkState where
  aonAt := 0
  aonN := 0
  slow := []
  oscSince := none
  pllSince := none
  oscLost := false
  rateErr := 0
  ringAt := none
  bypAt := 0

/-- A disabled MS with a DPLL in FREERUN (R47). -/
def Ms.reset : Ms where
  acqAt := none
  starting := false
  second := false
  lockAt := none
  lost := false
  returned := true
  surveyAt := none
  ramp := none
  dpllAt := 0
  narrowed := false
  lockedMs := 0
  lockedAt := none
  tempLo := 0
  tempHi := 0
  learnAt := 0
  extAt := 0
  extOld := false
  sscPhase := 0
  ditherUp := false
  exc := 0
  steers := []
  phase := 0
  phaseAt := 0
  startAt := none

/-- A monitor that is not bound (R42). -/
def RefMon.reset : RefMon where
  bound := false
  lost := false
  good := 0
  validAt := 0
  gateAt := 0
  seenAt := 0

/-- An output without a channel: high impedance (R62). -/
def OutCh.reset : OutCh where
  st := .free
  sub := .highZ
  goal := none
  held := false
  stopReq := false
  applied := 0
  slewAt := 0
  armK := none
  armAt := 0
  due := false
  edgeAt := 0
  switchAt := 0
  before := (0, 1)
  first := none
  edge0 := 0
  shift := 0
  shiftTo := 0
  waitH := none
  waitAt := none
  riseAt := 0
  heldAt := 0
  guard := none

/-- An engine that has made no run since reset (R84). -/
def CalMs.reset : CalMs where
  pending := none
  mask := 0
  done := 0
  samples := 0
  staged := none
  late := none
  parts := []
  took := []
  since := 0
  unmet := false
  lockOk := false
  refOk := false
  lost := false
  stages := 0
  abortK := none
  ranOnce := false
  sums := []
  skip := false
  probe := 0

/-- Calibration at power-on, the flash erased (DESIGN CHOICE, log 6). -/
def CalState.powerOn : CalState where
  ms := []
  slots := []
  save := none

/-- SHAFT_CONFIG settings after SHAFT_CREATE: none, MISS_LIMIT at its reset value (R164). -/
def ShaftCfg.reset : ShaftCfg where
  run := 0
  stop := 0
  qstop := 0
  lineId := 0
  publish := false
  barrier := false
  clkLoss := 0
  missLimit := 3

/-- A shaft that is FREE (R168). -/
def Shaft.reset : Shaft where
  st := .free
  mirror := false
  sub := 0
  pos := 0
  posK := 0
  v := 0
  a := 0
  target := ⟨0, 0, 1⟩
  remAcc := 0
  trim := 0
  trimRate := 1
  cfg := ShaftCfg.reset
  ncfg := ShaftCfg.reset
  prof := none
  seg := 0
  dwell := 0
  trackA := 0
  trackJ := 0
  ended := false
  start? := none
  stop? := none
  misses := 0
  missRun := 0
  lost := false
  extrap := false
  isLocal := false
  last := none
  owner := 0
  delta := 0
  taken := false
  first := false
  cause := 0
  win := []

/-- No shaft, no profile. -/
def ShaftState.empty : ShaftState where
  shafts := []
  before := []
  profs := []
  recs := []
  conflict := []
  clkLoss := none

/-- A follower as FOL_CREATE makes it but for its state (R171, R172, R183). -/
def Fol.reset : Fol where
  st := .free
  lock := 0
  g := 0
  frem := 0
  bind := none
  nbind := none
  offTarget := 0
  offset := 0
  offRate := 0
  warn := 2 ^ 22
  trip := 2 ^ 24
  missLimit := 3
  tripAct := 1
  goodRun := 0
  missRun := 0
  tripCause := 0
  portDown := false
  pubMiss := 0
  fbStale := 0
  fbDup := 0
  slips := 0
  trips := 0
  sp := none
  cur := 0
  frozen := 0
  hold := 0
  act := 0
  err := 0
  held := false
  seen := false
  present := false
  evald := false
  startK := none
  stopK := none
  holdReq := false
  resync := 0
  sampled := false
  compare := false
  gWas := 0
  fremWas := 0
  offWas := 0
  spWas := none
  heldWas := false
  start? := none
  stop? := none
  win := []
  marks := [0, 0, 0, 0]

/-- A group as GRP_CREATE makes it (R194). -/
def Grp.reset : Grp where
  mask := 0
  nmask := 0
  cls := 0
  latMode := 0
  latency := 0
  margin := 1000
  want := 0
  lat := 0
  samples := []
  sample := []
  clamped := false
  ticks := 0
  pubMiss := 0
  tx := []

/-- No follower, curve or group. -/
def FolState.empty : FolState where
  fols := []
  cams := []
  grps := []

/-- A link that is down and has sent nothing. -/
def LinkState.powerOn : LinkState where
  seq := 0
  queue := []
  sent := []
  paused := []
  fill := []
  xoff := 0
  syncSeq := 0
  syncs := []
  noEcho := 0
  delays := []
  down := false
  stepped := false
  syncAt := 0
  portSeq := []
  authAt := none
  saCounters := []
  missTick := none
/-- A stream as STREAM_CREATE makes it but for its state (R302). -/
def Stream.reset : Stream where
  st := .free
  mode := 0
  decim := 1
  first := 0
  count := 0
  pre := 0
  post := 0
  last := none
  newest := none
  gapAt := none
  lost := 0
  start? := none
  stop? := none

/-- A free window. -/
def Window.free : Window where
  inUse := false
  isDone := false
  stream := 0
  first := 0
  last := 0
  kt := 0
  source := 0

/-- The store at power-on, the SSD without a valid superblock (DESIGN CHOICE, log 6). -/
def StoreState.powerOn : StoreState where
  sbs := []
  sb := none
  segs := []
  blocks := []
  indexW := []
  index := []
  flight := []
  head := 0
  segSeq := 0
  windows := List.replicate 16 Window.free
  jobs := []
  streams := []
  perstAt := none
  perstHigh := false
  training := false
  cache := false
  gts := 0
  width := 0
  lbas := 0
  evBlock := []
  evSince := none
  evPos := 0
  lostAt := none


/-- The cores before they are started. -/
def MgmtState.powerOn : MgmtState where
  started := none
  beat := none
  beatLost := false
  cnt := []
  cntAt := 0
  samples := []
  used := []
  sampCnt := []
  marks := []
  loadAt := 0

/-- No switch asked for, no sensor read. -/
def PowerState.powerOn : PowerState where
  asked := []
  queue := []
  cur := none
  curAt := 0
  lastAt := none
  tempRead := 0
  tempFail := 0
  hot := false
  crit := false
  railBad := 0
  convAt := []
  highAt := []
  critAt := []
  nom := []

/-- Before power good; RST_N, PERST_N and the host link count as inactive and PPS_IN as low until their events come (DESIGN CHOICE, log 5). -/
def BootState.powerOn : BootState where
  powered := false
  vddAon := true
  vddio := true
  rstLow := false
  second := false
  flash := none
  image := []
  since := 0
  refWait := 0
  timeWait := 0
  calWait := 0
  pdMask := 0
  begun := false
  warm := false
  perst := false
  perstUp := 0
  released := none
  hpeUp := false
  hpeLost := false
  ppsIn := false

/-- The TAP controller in Test-Logic-Reset with IDCODE selected, and the 218 cells of the boundary-scan register, whose value at reset the spec does not give, at 0
(R366; DESIGN CHOICE, log 208). -/
def TapState.reset : TapState where
  state := 0
  ir := 2
  shift := []
  cells := List.replicate 218 false
  trst := false
  tdo := none

/-- The state of the block: the device, the index of the last tick opened since reset (R110, R125), and the queue of commands that wait,
first in, first out. -/
structure State where
  dev        : Dev
  lastOpened : Option Nat
  pending    : List Instr
  deriving DecidableEq, Repr

/-- Why a step stops with a fault: no meaning does, since the spec gives every row an effect or none. -/
inductive Fault where
  /-- never raised (safe): it is here because the interface asks for a type of faults -/
  | unreachable
  deriving DecidableEq, Repr

/-- Why a step is refused. -/
inductive Refusal where
  /-- raised by an arm of `exec` whose row has no meaning yet (safe: the run stops) -/
  | notModelled (mnemonic : String)
  deriving DecidableEq, Repr

/-- The device right after power-on reset, before the supplies are good (R11, R334; logs 3 to 6). -/
def Dev.powerOn : Dev where
  regs := resetRegs
  pend := []
  now := 0
  glb := GlbState.powerOn
  cmd := CmdState.empty
  flt := FltState.powerOn
  evt := EvtState.powerOn
  time := TimeState.powerOn
  tick := TickState.powerOn
  clk := ClkState.powerOn
  ms := []
  refs := []
  selAt := none
  outs := []
  cal := CalState.powerOn
  sh := ShaftState.empty
  fo := FolState.empty
  link := LinkState.powerOn
  store := StoreState.powerOn
  mgmt := MgmtState.powerOn
  pwr := PowerState.powerOn
  boot := BootState.powerOn
  snaps := []
  tap := TapState.reset
  field := ⟨[], []⟩
  msix := ⟨[], 0⟩
  baseGen := 0
  gens := []
  replies := []
  pendNow := []
  pendLate := []
  schedPend := []
  armed := []
  trigs := []
  out := []
  free := 0

/-- The state right after reset: an idle queue and a device that waits for its supplies. -/
def State.reset : State where
  dev := Dev.powerOn
  lastOpened := none
  pending := []

end Sys2Proof.Machine
end

