-- ==== Sys2Proof/Machine/Ops.lean ====
section
/-! DEFINITION. The operations that every chapter shares: register words and their fields, free values, the output log, device time,
ToD, handles, fault messages (R270, R271), events (R296), completions (R225 to R228, R233). -/

namespace Sys2Proof.Machine

/-- The code of a mode (R245). -/
def Mode.code : Mode → Nat
  | .boot => 0 | .configure => 1 | .run => 2 | .degraded => 3 | .test => 4 | .halt => 5

/-- The code of an object state (OUTn_STATUS.CH_STATE, SHAFTs_STATE.STATE). -/
def ObjState.code : ObjState → Nat
  | .free => 0 | .created => 1 | .configured => 2 | .running => 3 | .stopping => 4 | .stopped => 5

/-- The code of a status (Table 10-3). -/
def Status.code : Status → Nat
  | .ok => 0 | .busy => 1 | .badOpcode => 2 | .badHandle => 3 | .staleHandle => 4 | .noResource => 5 | .state => 6 | .range => 7
  | .guard => 8 | .mode => 9 | .deadline => 10 | .auth => 11 | .timeout => 12 | .precond => 13 | .partialDone => 14 | .internal => 15

/-- The code of a fault class (R270). -/
def FClass.code : FClass → Nat
  | .c => 1 | .u => 2 | .f => 3

/-- The higher of two classes (R270). -/
def FClass.max (a b : FClass) : FClass :=
  if a.code < b.code then b else a

/-- The code of a state of the time engine (TIME_STATUS.STATE). -/
def TimeSt.code : TimeSt → Nat
  | .unset => 0 | .acquiring => 1 | .locked => 2 | .holdover => 3

/-! ### Register words -/

/-- The bits of a field, in place. -/
def Fld.mask (f : Fld) : Word :=
  (BitVec.ofNat 32 (2 ^ f.len - 1)) <<< f.lo

/-- A field of a word. -/
def Fld.ofWord (f : Fld) (w : Word) : Nat :=
  w.toNat / 2 ^ f.lo % 2 ^ f.len

/-- A word with a field replaced. -/
def Fld.into (f : Fld) (w : Word) (v : Nat) : Word :=
  (w &&& ~~~f.mask) ||| ((BitVec.ofNat 32 v <<< f.lo) &&& f.mask)

/-- The live word of a register. -/
def Dev.word (d : Dev) (off : Nat) : Word :=
  Tbl.getD d.regs off 0

/-- The device with a register word replaced. -/
def Dev.setWord (d : Dev) (off : Nat) (w : Word) : Dev :=
  { d with regs := Tbl.put d.regs off w }

/-- The live value of a field. -/
def Dev.get (d : Dev) (f : Fld) : Nat :=
  f.ofWord (d.word f.off)

/-- A field of one bit. -/
def Dev.bit (d : Dev) (f : Fld) : Bool :=
  d.get f != 0

/-- The device with a field replaced. -/
def Dev.set (d : Dev) (f : Fld) (v : Nat) : Dev :=
  d.setWord f.off (f.into (d.word f.off) v)

/-- An event bit raised (R12, RC). -/
def Dev.raise (d : Dev) (f : Fld) : Dev :=
  d.set f 1

/-- A saturating counter increased (Table 11-5). -/
def Dev.count (d : Dev) (off n : Nat) : Dev :=
  d.setWord off (BitVec.ofNat 32 (satAdd (d.word off).toNat n))

/-- The live value of a LO/HI pair, by the offset of LO. -/
def Dev.get64 (d : Dev) (lo : Nat) : Nat :=
  (d.word lo).toNat + 2 ^ 32 * (d.word (lo + 4)).toNat

/-- A LO/HI pair replaced. -/
def Dev.set64 (d : Dev) (lo v : Nat) : Dev :=
  (d.setWord lo (BitVec.ofNat 32 v)).setWord (lo + 4) (BitVec.ofNat 32 (v / 2 ^ 32))

/-- The pending copy of a word: the last value written (R12, RWP). -/
def Dev.pendWord (d : Dev) (off : Nat) : Word :=
  Tbl.getD d.pend off (d.word off)

/-! ### Free values, output, time -/

/-- A fresh value of `w` bits (DESIGN CHOICE, log 2). -/
def Dev.freeVal (d : Dev) (w : Nat) : Nat :=
  (Config.freeBits w d.free).toNat

/-- A signed value of `w` bits: itself where they hold it, else a free value, since the spec states none (DESIGN CHOICE, log 23). -/
def Dev.fitS (d : Dev) (w : Nat) (v : Int) : Nat :=
  if -(2 ^ (w - 1) : Nat) ≤ v ∧ v < (2 ^ (w - 1) : Nat) then wrapN w v else d.freeVal w

/-- The same for an unsigned field. -/
def Dev.fitU (d : Dev) (w : Nat) (v : Int) : Nat :=
  if 0 ≤ v ∧ v < (2 ^ w : Nat) then v.toNat else d.freeVal w

/-- The counter of free values stepped. -/
def Dev.fresh (d : Dev) : Dev :=
  { d with free := d.free + 1 }

/-- Something sent to the outside (DESIGN CHOICE, log 8). -/
def Dev.emit (d : Dev) (o : Output) : Dev :=
  { d with out := o :: d.out }

/-- Units of `Dev.now` and of the time counter in one nanosecond (R100). -/
def perNs : Nat := 2 ^ 48

/-- One microsecond of device time. -/
def usec : Nat := 1000 * perNs

/-- One millisecond of device time. -/
def msec : Nat := 1000000 * perNs

/-- A number put in its place of a rising list. -/
def insertInt (x : Int) (l : List Int) : List Int :=
  match l with
  | [] => [x]
  | y :: r => if x ≤ y then x :: y :: r else y :: insertInt x r

/-- The median; of an even count a value from the lower to the higher of the two in the middle, which `free` places (DEDUCED, log 22). -/
def medianOf (l : List Int) (free : Nat) : Int :=
  let s := l.foldr insertInt []
  let lo := s.getD ((l.length - 1) / 2) 0
  lo + (free % ((s.getD (l.length / 2) 0 - lo).toNat + 1) : Nat)

/-- Whether `dur` has passed since an instant. -/
def Dev.passed (d : Dev) (since dur : Nat) : Bool :=
  decide (since + dur ≤ d.now)

/-- Whether `dur` has passed since an instant that may not have come. -/
def Dev.passed? (d : Dev) (since : Option Nat) (dur : Nat) : Bool :=
  match since with
  | none => false
  | some t => d.passed t dur

/-- TIME_SLEW_MAX in 0.01 ppm (R106; 0 is taken as 1, larger values as 10,000). -/
def Dev.slewMax (d : Dev) : Nat := min 10000 (max 1 (d.get F.TIME_SLEW_MAX.SLEW_MAX))

/-- The steering of the DPLL chosen for time, 0 where it is disabled (Table 5-1). -/
def Dev.timeSteer (d : Dev) : Int :=
  let n := d.get F.TIME_CTRL.TIME_DPLL
  if d.bit (F.MSn_DPLL_CTRL.DPLL_EN n) then signedN 40 (d.get64 (R.MSn_STEER_LO n)) else 0

/-- The rate word y_time without a slew, in 2^-48 (R103, R121, Table 5-1). -/
def Dev.yTime (d : Dev) : Int :=
  match d.get F.TIME_CTRL.SRC with
  | 1 => d.timeSteer + d.time.servo
  | 2 => d.time.servo + (match d.time.steerRef with | some s => d.timeSteer - s | none => 0)
  | _ => d.timeSteer

/-- The registers that hold SL fields (R263), by rising offset. -/
def slOffsets : List Nat :=
  [R.PWR_DOMAIN_STATUS, R.PWR_CLK_STATUS, R.PWR_RAIL_STATUS, R.PWR_TOTAL] ++ (List.range 17).map R.PWR_RAIL ++ [R.FLT_CROAK_STATUS] ++
    (List.range 8).map R.TEMPn ++ [R.TEMP_MAX] ++ (List.range 4).map R.OUT_BANKb_STATUS

/-- The frequency of the ring oscillator in Hz: as last measured, 50 MHz until then (R337, DESIGN CHOICE, log 10). -/
def Dev.fRing (d : Dev) : Nat :=
  let f := d.get F.PWR_RING_FREQ.FREQ
  if f = 0 then 50000000 else f

/-- One period of the AON clock: OSCIN divided by floor(OSC_NOM / 250,000), or the ring oscillator divided by 190 (R338; DEDUCED, log 9). -/
def Dev.aonPeriod (d : Dev) : Nat :=
  if d.bit F.PWR_CLK_STATUS.AON_SRC then 190 * 1000000000 * perNs / d.fRing
  else
    let f := d.get F.REF_OSC_NOM.OSC_NOM
    f / 250000 * 1000000000 * perNs / f

/-- The slow-domain copies after `dt` more of device time: taken at every edge of the AON clock (R263). -/
def Dev.aonTick (d : Dev) (dt : Nat) : ClkState :=
  let n := (d.now + dt - d.clk.aonAt) / d.aonPeriod
  if n = 0 then d.clk
  else { d.clk with aonAt := d.clk.aonAt + n * d.aonPeriod, aonN := d.clk.aonN + n, slow := slOffsets.map fun o => (o, d.word o) }

/-- OSCIN bypass: f_OSCIN, or half of it above 125 MHz (R337). -/
def Dev.fByp (d : Dev) : Nat :=
  let f := d.get F.REF_OSC_NOM.OSC_NOM
  if 125000000 < f then f / 2 else f

/-- The core clock is the ring oscillator, or OSCIN bypass (R337). -/
def Dev.onRing (d : Dev) : Bool := decide (d.get F.PWR_CLK_STATUS.CORE_SRC = 2)
def Dev.onBypass (d : Dev) : Bool := decide (d.get F.PWR_CLK_STATUS.CORE_SRC = 1)

/-- The rate of ToD in 2^-48: 1 + y_time, or on the ring oscillator what its measured frequency makes of the increment, without y_time (R100, Table 15-2). -/
def Dev.todRate (d : Dev) : Int := 2 ^ 48 + (if d.onRing then d.clk.rateErr else d.yTime)

/-- The pull of a slew, 10^-8 of the rate: none on the ring oscillator, whose increment holds no y_time (R106, Table 15-2; DEDUCED, log 205). -/
def Dev.slewPull (d : Dev) : Nat := if d.onRing then 0 else d.slewMax

/-- What the time counter gains in device time `dt`, and how much of it is the slew's (R100, R106). -/
def Dev.todGain (d : Dev) (dt : Nat) : Int × Int :=
  let most : Int := (dt * d.slewPull / 100000000 : Nat)
  let part := max (-most) (min most d.time.slewLeft)
  (((dt : Int) * d.todRate).fdiv (2 ^ 48) + part, part)

/-- One second of device time. -/
def perSec : Nat := 1000000000 * perNs

/-- Edge `n` of the bypass clock, after its first one. -/
def Dev.bypEdge (d : Dev) (n : Nat) : Nat := (n * perSec + (max 1 d.fByp - 1)) / max 1 d.fByp

/-- The number of the last edge of the bypass clock at an instant (R339). -/
def Dev.bypCount (d : Dev) (t : Nat) : Nat := (t - d.clk.bypAt) * max 1 d.fByp / perSec

/-- The ToD of the last edge of the bypass clock after `dt` more of device time: that of before where none has come (R339). -/
def Dev.shownAfter (d : Dev) (dt : Nat) : Nat :=
  let at' := d.clk.bypAt + d.bypEdge (d.bypCount (d.now + dt))
  if d.onBypass ∧ d.now < at' then d.time.tod + (d.todGain (at' - d.now)).1.toNat else d.time.shown

/-- Device time passes (R100, R106, R339): the time counter advances at its rate, a slew absorbs what TIME_SLEW_MAX allows, and the AON clock
refreshes the slow-domain copies. -/
def Dev.advance (d : Dev) (dt : Nat) : Dev :=
  let g := d.todGain dt
  { d with now := d.now + dt, clk := d.aonTick dt,
           time := { d.time with tod := d.time.tod + g.1.toNat, slewLeft := d.time.slewLeft - g.2, shown := d.shownAfter dt } }

/-- Device time passes to the next edge of the core clock on OSCIN bypass, if no edge is now (R339). -/
def Dev.toEdge (d : Dev) : Dev :=
  let n := d.bypCount d.now
  if d.onBypass ∧ d.clk.bypAt + d.bypEdge n < d.now then d.advance (d.clk.bypAt + d.bypEdge (n + 1) - d.now) else d

/-- The frequency of the core clock in Hz (R337). -/
def Dev.fCore (d : Dev) : Nat :=
  match d.get F.PWR_CLK_STATUS.CORE_SRC with
  | 0 => 1000000000
  | 1 => max 1 d.fByp
  | _ => d.fRing

/-- One period of the core clock in units of `Dev.now`. -/
def Dev.corePeriod (d : Dev) : Nat := 1000000000 * perNs / d.fCore

/-- An event that comes with time: device time passes until its instant, if that is still ahead (DESIGN CHOICE, log 7). -/
def Dev.till (d : Dev) (t : Nat) : Dev := if d.now < t then d.advance (t - d.now) else d

/-- As `till`, for an instant and a duration from it. -/
def Dev.after (d : Dev) (since : Option Nat) (dur : Nat) : Dev :=
  match since with
  | none => d
  | some t => d.till (t + dur)

/-- ToD in 2^-16 ns (R99, R100): on OSCIN bypass that of the last edge of the core clock, so that every timestamp is quantised to its period (R339). -/
def Dev.tod16 (d : Dev) : Nat := (if d.onBypass then d.time.shown else d.time.tod) / 2 ^ 32

/-- The ToD nanosecond count (R99). -/
def Dev.todNs (d : Dev) : Nat := d.tod16 / 65536

/-- Seconds, nanoseconds and fraction of a time in 2^-16 ns (R99). -/
def secOf (t : Nat) : Nat := t / 65536 / 1000000000
def nsOf (t : Nat) : Nat := t / 65536 % 1000000000
def fracOf (t : Nat) : Nat := t % 65536

/-- A time in 2^-16 ns of its three fields. -/
def timeOf (sec ns frac : Nat) : Nat := (sec * 1000000000 + ns) * 65536 + frac

/-- A 48-bit nanosecond value with its fraction, expanded to the time nearest to ToD, in 2^-16 ns (R101); free where no such time exists (DESIGN CHOICE, log 23). -/
def Dev.expand48 (d : Dev) (ns frac : Nat) : Nat :=
  let diff := signedN 48 (wrapN 48 ((ns : Int) - d.todNs))
  if diff = -(2 ^ 47) ∨ (d.todNs : Int) + diff < 0 then d.freeVal 96 else ((d.todNs : Int) + diff).toNat * 65536 + frac

/-- Operating time in ms, 44 bits (R301). -/
def Dev.optime (d : Dev) : Nat :=
  (d.evt.optBase + (d.now - d.evt.optAt) / msec) % 2 ^ 44

/-- TIME_VALID (R104). -/
def TimeSt.valid : TimeSt → Bool
  | .locked => true | .holdover => true | .unset => false | .acquiring => false

/-! ### Handles (R242) -/

/-- The generation of an object. -/
def Dev.gen (d : Dev) (ty idx : Nat) : Nat :=
  (d.baseGen + Tbl.getD d.gens (ty * 65536 + idx) 0) % 256

/-- The handle of an object. -/
def Dev.handle (d : Dev) (ty idx : Nat) : Nat :=
  ty * 2 ^ 24 + d.gen ty idx * 2 ^ 16 + idx

/-- The generation advanced by a destroy. -/
def Dev.bumpGen (d : Dev) (ty idx : Nat) : Dev :=
  { d with gens := Tbl.put d.gens (ty * 65536 + idx) ((Tbl.getD d.gens (ty * 65536 + idx) 0 + 1) % 256) }

/-! ### Fault messages -/

/-- The flags of a message, bits 63:58 (Table 12-1). -/
def FaultMsg.flags (m : FaultMsg) : Nat :=
  b2n m.injected + 2 * b2n m.real + 4 * b2n m.merged

/-- The 64 bits of a message (Table 12-1). -/
def FaultMsg.code (m : FaultMsg) : Nat :=
  m.source % 2 ^ 10 + m.kind % 2 ^ 6 * 2 ^ 10 + m.cls.code * 2 ^ 16 + m.address % 2 ^ 40 * 2 ^ 18 + m.flags * 2 ^ 58

/-- A message folded into the newest entry of a full queue (R271). -/
def FaultMsg.combine (a b : FaultMsg) : FaultMsg :=
  { a with kind := a.kind ||| b.kind, cls := a.cls.max b.cls, injected := a.injected || b.injected,
           real := a.real || b.real, merged := true }

/-- A message offered by its block: queued, or combined into the newest entry of a queue of 8 (R271). -/
def Dev.pushFault (d : Dev) (m : FaultMsg) : Dev :=
  let q := Tbl.getD d.flt.queues m.source []
  if q.length < 8 then
    { d with flt := { d.flt with queues := (Tbl.put d.flt.queues m.source (q ++ [m])) } }
  else
    let q' := q.dropLast ++ (q.drop (q.length - 1)).map fun a => a.combine m
    ({ d with flt := { d.flt with queues := Tbl.put d.flt.queues m.source q' } }).count R.FLT_COMBINED_COUNT 1

/-- A real condition reported by a block (R270); with its source forced, the message carries INJECTED as well (R288). -/
def Dev.sendFault (d : Dev) (source kind : Nat) (cls : FClass) (address : Nat) : Dev :=
  d.pushFault ⟨source, kind, cls, address % 2 ^ 40, d.flt.force.getLsbD source, true, false⟩

/-- The live bit of a source, real conditions only (R280). -/
def Dev.setLive (d : Dev) (source : Nat) (on : Bool) : Dev :=
  let one : BitVec 128 := 1#128 <<< source
  { d with flt := { d.flt with live := if on then d.flt.live ||| one else d.flt.live &&& ~~~one } }

/-! ### Events -/

/-- An event that reaches the recorder's FIFO of 64, or is lost (R296). -/
def Dev.event (d : Dev) (code : Nat) (bucket : Option Nat) (payload : List Byte) : Dev :=
  if d.evt.fifo.length < 64 then
    { d with evt := { d.evt with fifo := d.evt.fifo ++ [⟨code, bucket, payload⟩] } }
  else
    let first := if d.evt.lost = 0 then d.optime else d.evt.lostMs
    let e := { d.evt with lost := d.evt.lost + 1, lostMs := first }
    (({ d with evt := e }).count R.EVT_LOST_COUNT 1).raise F.EVT_EVENT.LOST

/-- An event whose code has a token bucket of its own (Table 13-2). -/
def Dev.eventLimited (d : Dev) (code : Nat) (fields : List (Nat × Nat)) : Dev :=
  d.event code (some code) (packFields fields)

/-- An event that is not rate-limited (Table 13-2). -/
def Dev.eventFree (d : Dev) (code : Nat) (fields : List (Nat × Nat)) : Dev :=
  d.event code none (packFields fields)

/-! ### Words written to SRAM (R287) -/

/-- A free value from 0 to `m`. -/
def Dev.freeTo (d : Dev) (m : Nat) : Nat := d.freeVal 48 % (m + 1)

/-- A corruption of the injection armed is made and its place recorded, the newest 16 (R287; DESIGN CHOICE, log 14). -/
def Dev.cbUse (d : Dev) (place : Nat) : Dev :=
  let f := d.flt
  { d with flt := { f with cbLeft := f.cbLeft - 1, cbHits := ((f.cbTarget, f.cbBits, place) :: f.cbHits).take 16 } }

/-- `n` words of 64 bits are written to SRAM bank `bank` (0 A to 3 D, Table 1-2): those for which a CHECKBIT injection is armed are corrupted, at offsets
that the spec leaves open (R287; DESIGN CHOICE, log 14). -/
def Dev.sramWrite (d : Dev) (bank n : Nat) : Dev :=
  if d.flt.cbTarget = bank then (List.range (min n d.flt.cbLeft)).foldl (fun d _ => d.fresh.cbUse (8 * (d.freeVal 40 % 786432))) d else d

/-- Some words of a bank are written, how many the spec does not say (R287; DESIGN CHOICE, log 14). -/
def Dev.sramSome (d : Dev) (bank : Nat) : Dev :=
  if d.flt.cbTarget = bank ∧ 0 < d.flt.cbLeft then d.fresh.sramWrite bank (d.freeTo 16) else d

/-- The command and DMA buffers are written: bank B, or bank C while B is out of service (Table 12-3). -/
def Dev.bufWrite (d : Dev) (n : Nat) : Dev := d.sramWrite (if d.flt.banksOut.getLsbD 1 then 2 else 1) n

/-! ### Completions -/

/-- Pair `r` of rings. -/
def Dev.ring (d : Dev) (r : Nat) : Ring :=
  Tbl.getD d.cmd.rings r Ring.reset

/-- Pair `r` replaced. -/
def Dev.setRing (d : Dev) (r : Nat) (x : Ring) : Dev :=
  { d with cmd := { d.cmd with rings := Tbl.put d.cmd.rings r x } }

/-- log2 of a ring's entries, taken as the nearer limit (CMD_SQr_SIZE, CMD_CQr_SIZE). -/
def clampSize (v : Nat) : Nat := min 12 (max 4 v)

/-- Entries of SQr and of CQr (R224). -/
def Dev.sqLen (d : Dev) (r : Nat) : Nat := 2 ^ clampSize (d.get (F.CMD_SQr_SIZE.SIZE r))
def Dev.cqLen (d : Dev) (r : Nat) : Nat := 2 ^ clampSize (d.get (F.CMD_CQr_SIZE.SIZE r))

/-- The 16 bytes of a completion (Table 10-2), in network order where it answers an in-band command (R9). -/
def completionBytes (net : Bool) (tag : Word) (st : Status) (result detail : Nat) : List Byte :=
  let field (n v : Nat) : List Byte := if net then beBytes n v else leBytes n v
  field 2 tag.toNat ++ field 2 st.code ++ field 4 result ++ field 8 detail

/-- A field of an entry: little-endian in host memory, in network order in a frame on the switch link (R9; DEDUCED, log 153). -/
def Entry.field (e : Entry) (off n : Nat) : Nat := if e.net then beAt e.bytes off n else leAt e.bytes off n

/-- An MSI-X vector is sent, or waits as its pending bit while its table entry is masked (R267; PRESUMED, log 131). -/
def Dev.sendVector (d : Dev) (v : Nat) : Dev :=
  if d.msix.masked v then { d with msix := { d.msix with pending := d.msix.pending ||| 1#8 <<< v } } else d.emit (.msix v)

/-- The interrupt of ring `r` if the completions counted since the last one have reached COUNT, or at once; COUNT = 0 disables the
vector (R227). -/
def Dev.ringIrqDue (d : Dev) (r : Nat) (atOnce : Bool) : Dev :=
  let c := d.get (F.CMD_CQr_IRQ.COUNT r)
  let x := d.ring r
  if c ≠ 0 ∧ x.irqCount ≠ 0 ∧ (atOnce ∨ c ≤ x.irqCount) then (d.setRing r { x with irqCount := 0, irqSince := none }).sendVector r else d

/-- One more completion is counted since the last interrupt of ring `r` (R227). (DEDUCED, log 135) -/
def Dev.ringIrq (d : Dev) (r : Nat) (notify : Bool) : Dev :=
  let x := d.ring r
  (d.setRing r { x with irqCount := x.irqCount + 1, irqSince := some (x.irqSince.getD d.now) }).ringIrqDue r notify

/-- A completion written into CQr (R225, R228): discarded and counted when an error lies in CQr. -/
def Dev.postRing (d : Dev) (r : Nat) (tag : Word) (notify : Bool) (st : Status) (result detail : Nat) : Dev :=
  let x := d.ring r
  if x.cqBad then d.count R.CMD_LOST_COUNT 1
  else
    let t := (x.cqTail + 1) % d.cqLen r
    let slot := d.get64 (R.CMD_CQr_BASE_LO r) + 16 * x.cqTail
    let d1 := (d.setRing r { x with cqTail := t }).emit (.cqe r x.cqTail slot (completionBytes false tag st result detail))
    let wb := d.get64 (R.CMD_CQr_WB_LO r)
    let d2 := if wb = 0 then d1 else d1.emit (.hostWrite wb (leBytes 4 t))
    d2.ringIrq r notify

/-- A command completes: into its ring, as an in-band response (R222), or as the end of an entry of the start-up list, with its record
unless it is OK (R345; an INTERNAL one has that of R241). In HALT nothing completes (R230). -/
def Dev.post (d : Dev) (src : Source) (e : Entry) (tag : Word) (notify : Bool) (st : Status) (result detail : Nat) : Dev :=
  if d.glb.mode = .halt then d
  else match src with
  | .ring r => d.postRing r tag notify st result detail
  | .inband => { d with replies := d.replies ++ [⟨e, completionBytes true tag st result detail⟩] }
  | .list =>
    let d1 := if st = .ok ∨ st = .internal then d else d.eventLimited 0x020 [(4, tag.toNat), (2, leAt e.bytes 0 2), (2, st.code)]
    d1.emit (.listDone tag st.code)

/-- What every INTERNAL completion brings beside the completion (R241): its event record, and a message unless a more specific one
has been sent. -/
def Dev.internalReport (d : Dev) (tag : Word) (opcode : Nat) (st : Status) (specific : Bool) : Dev :=
  if st = .internal then
    let d1 := d.eventLimited 0x020 [(4, tag.toNat), (2, opcode), (2, st.code)]
    if specific then d1 else d1.sendFault 0x004 0x03 .c tag.toNat
  else d

/-- A command in progress completes and leaves the table (R233, R238); one whose ring was reset is counted as lost (R362). `specific` tells, of an
INTERNAL one, that a more specific message has been sent for it (R241). -/
def Dev.finishAs (d : Dev) (t : Ticket) (st : Status) (result detail : Nat) (specific : Bool) : Dev :=
  let d1 := { d with cmd := { d.cmd with inProgress := d.cmd.inProgress.filter fun x => x.cid != t.cid } }
  let d2 := if t.lost then d1.count R.CMD_LOST_COUNT 1 else d1.post t.src t.entry t.tag t.notify st result detail
  d2.internalReport t.tag t.opcode st specific

/-- As `finishAs`, where a message of its own goes with every INTERNAL. -/
def Dev.finish (d : Dev) (t : Ticket) (st : Status) (result detail : Nat) : Dev := d.finishAs t st result detail true

/-- Every command in progress that waits for `w` completes alike; `specific` as for `finishAs`. -/
def Dev.finishWaitAs (d : Dev) (w : Wait) (st : Status) (result detail : Nat) (specific : Bool) : Dev :=
  (d.cmd.inProgress.filter fun t => t.wait = w).foldl (fun d t => d.finishAs t st result detail specific) d

/-- As `finishWaitAs`, where a message of its own goes with every INTERNAL. -/
def Dev.finishWait (d : Dev) (w : Wait) (st : Status) (result detail : Nat) : Dev := d.finishWaitAs w st result detail true

/-- As `finishWait`, each with the RESULT and DETAIL that were fixed when it executed. -/
def Dev.finishOwn (d : Dev) (w : Wait) (st : Status) : Dev :=
  (d.cmd.inProgress.filter fun t => t.wait = w).foldl (fun d t => d.finish t st t.result t.detail) d

/-- The command with number `cid` completes, if it is still in progress. -/
def Dev.finishCid (d : Dev) (cid : Option Nat) (st : Status) (result detail : Nat) : Dev :=
  match cid with
  | none => d
  | some c =>
    match d.cmd.inProgress.find? fun t => t.cid = c with
    | none => d
    | some t => d.finish t st result detail

/-- The commands that wait on a destroyed object end with STALE_HANDLE (R240). -/
def Dev.endStale (d : Dev) (handle : Nat) : Dev :=
  (d.cmd.inProgress.filter fun t => t.handle = handle).foldl (fun d t => d.finish t .staleHandle 0 0) d

/-- Commands of pair `r` in progress: executed and not completed (R238; CMD_RINGr_STATUS.OUTSTANDING). -/
def Dev.outstanding (d : Dev) (r : Nat) : Nat := (d.cmd.inProgress.filter fun t => decide (t.src = .ring r) && !t.lost).length

/-- Completion slots of CQr that no completion fills and none is reserved for (R225, R226). -/
def Dev.cqRoom (d : Dev) (r : Nat) : Nat :=
  let n := d.cqLen r
  let x := d.ring r
  (n - 1) - (x.cqTail + n - x.cqHead) % n - x.fetched.length - d.outstanding r

end Sys2Proof.Machine
end

