-- ==== Sys2Proof/Machine/Flash.lean ====
section
/-! DEFINITION. The boot flash: how it is read, its layout, and its operations (R341, R364, Table 15-3). -/

namespace Sys2Proof.Machine

/-- The read mode: 1-4-4 DTR where SFDP reports it, else 1-4-4, else 1-1-1 (R341). -/
def flashMode (f : FlashInfo) : ReadMode := if f.quadDtr then .quadDtr else if f.quad then .quad else .single

/-- 4-byte addresses above 128 Mbit (R341). -/
def flashWide (f : FlashInfo) : Bool := decide (128 < f.mbit)

/-- The image slot size S: half of what lies above 512 KiB, rounded down to 64 KiB, at most 6 MiB (R341). -/
def flashSlotSize (f : FlashInfo) : Nat := min (6 * 2 ^ 20) ((f.mbit * 2 ^ 17 - 2 ^ 19) / 2 / 2 ^ 16 * 2 ^ 16)

/-- The places of Table 15-3. -/
def flashConfig (b : Nat) : Nat := 0x1000 * b
def flashSave (slot : Nat) : Nat := 0x2000 + 0x2000 * slot
def flashCkpt (s : Nat) : Nat := 0x6000 + 0x1000 * s
def flashImage (f : FlashInfo) (b : Nat) : Nat := 0x80000 + b * flashSlotSize f

/-- Clay slots of 264 bytes follow one another over the sectors of their area (R298, Table 15-3; DEDUCED, log 180). -/
def flashClay (slot : Nat) : Nat := 0x8000 + 264 * slot

/-- QSPI_CLK in Hz: the ring oscillator during steps 1 to 6 of start-up, 50 MHz afterwards (R341, R364). -/
def Dev.qspiHz (d : Dev) : Nat := if 1 ≤ d.glb.step ∧ d.glb.step ≤ 6 ∧ !d.boot.warm then d.fRing else 50000000

/-- The read mode and the address width in use: those of R341 once SFDP has told, the plainest ones before. -/
def Dev.flashModeNow (d : Dev) : ReadMode := (d.boot.flash.map flashMode).getD .single
def Dev.flashWideNow (d : Dev) : Bool := (d.boot.flash.map flashWide).getD false

/-- A read, the erase of a sector, and the programming of bytes. -/
def Dev.flashRead (d : Dev) (addr len : Nat) : Dev := d.emit (.flash (.read d.flashModeNow d.flashWideNow addr len))
def Dev.flashErase (d : Dev) (addr : Nat) : Dev := d.emit (.flash (.erase d.flashWideNow addr))
def Dev.flashProgram (d : Dev) (addr : Nat) (b : List Byte) : Dev := d.emit (.flash (.program d.flashWideNow addr b))

/-- A Clay slot is programmed: bytes 1 to 263, and MARK last (R298); a failure shows in what the slot then holds (DEDUCED, log 180). -/
def Dev.flashClaySlot (d : Dev) (slot : Nat) (image : List Byte) : Dev :=
  (d.flashProgram (flashClay slot + 1) (image.drop 1)).flashProgram (flashClay slot) (image.take 1)

/-- The 68 sectors of the Clay area are erased, from the highest address down (R299). -/
def Dev.flashClayErase (d : Dev) : Dev := (List.range 68).foldr (fun i d => d.flashErase (0x8000 + 0x1000 * i)) d

end Sys2Proof.Machine
end

