-- ==== Sys2Proof/Machine/Operands.lean ====
section
/-! DEFINITION. Operands of commands: the entry (R231), its parameters (R232), handles (R243), the order of checks (R241), whose turn it is
(R236, R237, R239), and the one operation by which every command row executes. -/

namespace Sys2Proof.Machine

/-- A parameter of Table 10-5: bytes of its container, bits of its field, signed or not (R232). -/
structure PField where
  bytes  : Nat
  bits   : Nat
  signed : Bool
  deriving DecidableEq, Repr

/-- An unsigned parameter. -/
def pu (bytes bits : Nat) : PField := ⟨bytes, bits, false⟩

/-- A signed parameter. -/
def ps (bytes bits : Nat) : PField := ⟨bytes, bits, true⟩

/-- A command as it executes: its source, entry and parameters. -/
structure Cmd where
  src     : Source
  entry   : Entry
  opcode  : Nat
  flags   : Nat
  tag     : Word
  handle  : Nat
  timeout : Nat
  params  : List Nat
  dma     : Option (List Byte)
  deriving DecidableEq, Repr

/-- Parameter `i`. -/
def Cmd.p (c : Cmd) (i : Nat) : Nat := c.params.getD i 0

/-- Flag bit `i` (R231). -/
def Cmd.flag (c : Cmd) (i : Nat) : Bool := c.flags.testBit i

/-- INDEX of HANDLE (R242). -/
def Cmd.idx (c : Cmd) : Nat := c.handle % 65536

/-- INDEX of a handle. -/
def hIdx (h : Nat) : Nat := h % 65536

/-- A signed parameter of `bits` bits. -/
def Cmd.sp (c : Cmd) (i bits : Nat) : Int := signedN bits (c.p i)

/-- Requester code of a command's source (Table 11-1, and CAUSE 0 of the MODE record). -/
def Source.req : Source → Nat
  | .ring r => 1 + r
  | .inband => 5
  | .list => 0

/-- Whether FENCE is set in an entry (R231). -/
def Entry.fence (e : Entry) : Bool := (e.field 2 2).testBit 8

/-- Whether NOTIFY is set in an entry (R231). -/
def Entry.notify (e : Entry) : Bool := (e.field 2 2).testBit 9

/-- The opcode of an entry (R231). -/
def Entry.opcode (e : Entry) : Nat := e.field 0 2

/-- The opcodes of Table 10-5. -/
def opcodes : List Nat := [
  0x0001, 0x0002, 0x0010, 0x0011, 0x0020, 0x0021,
  0x0100, 0x0101, 0x0102, 0x0103, 0x0104, 0x0105, 0x0106, 0x0107,
  0x0140, 0x0141, 0x0142, 0x0143, 0x0145, 0x0146, 0x0147,
  0x0200, 0x0201, 0x0202, 0x0203, 0x0204, 0x0205, 0x0206,
  0x0300, 0x0301, 0x0302, 0x0303, 0x0310, 0x0311, 0x0312, 0x0320,
  0x0400, 0x0401, 0x0402, 0x0403,
  0x0500, 0x0501, 0x0502, 0x0503, 0x0504, 0x0505, 0x0506, 0x0507, 0x0508, 0x0510, 0x0511, 0x0512, 0x0513,
  0x0600, 0x0601, 0x0602, 0x0603, 0x0604, 0x0605, 0x0606, 0x0607, 0x0608, 0x0610, 0x0611, 0x0612, 0x0613,
  0x0620, 0x0621, 0x0622, 0x0623, 0x0624,
  0x0700, 0x0701, 0x0702, 0x0710, 0x0711, 0x0712,
  0x0800, 0x0810, 0x0811, 0x0820, 0x0821, 0x0822, 0x0823, 0x0824, 0x0825, 0x0830,
  0x0900, 0x0901, 0x0902, 0x0910, 0x0911, 0x0A00, 0x0A01, 0x0B00, 0x0B01, 0x0B02, 0x0B10, 0x0B11]

/-- Modes in which the rings are served (R230). -/
def Mode.served : Mode → Bool
  | .configure => true | .run => true | .degraded => true | .test => true | .boot => false | .halt => false

/-- The front entry of a source, if there is one. -/
def Dev.frontOf (d : Dev) (src : Source) : Option Entry :=
  match src with
  | .ring r => (d.ring r).fetched.head?
  | .inband => d.cmd.inband.head?
  | .list => d.cmd.list.head?

/-- Whether a source's front entry may execute: with FENCE, only when no earlier command of the source is in progress (R236). -/
def Dev.readySrc (d : Dev) (src : Source) : Bool :=
  match d.frontOf src with
  | none => false
  | some e => !e.fence || !(d.cmd.inProgress.any fun t => decide (t.src = src) && !t.lost)

/-- A Newt core is online: with none, no firmware interprets a command or keeps the recorder (R17, R322). -/
def Dev.coresRun (d : Dev) : Bool := decide (d.get F.MGMT_STATUS.ONLINE ≠ 0)

/-- The tasks of the firmware run: a core is online, and the cores have not stopped for HALT (R282, R320). -/
def Dev.firmwareRuns (d : Dev) : Bool := d.coresRun && decide (d.glb.mode ≠ .halt)

/-- The source whose command executes next (R237); in step 7 of start-up, once the surveys have ended, the start-up list, one entry at a time
(R345). -/
def Dev.turn (d : Dev) : Option Source :=
  if !d.coresRun then none
  else if d.glb.mode = .boot then
    if d.glb.step = 7 ∧ d.boot.begun ∧ !(d.ms.any fun p => p.2.surveyAt.isSome) ∧ !(d.cmd.inProgress.any fun t => t.src = .list) ∧
      d.readySrc .list then some .list else none
  else if !d.glb.mode.served then none
  else if d.readySrc (.ring 0) then some (.ring 0)
  else if d.readySrc (.ring 1) then some (.ring 1)
  else if d.readySrc (.ring 2) && (!d.readySrc .inband || !d.cmd.inbandTurn) then some (.ring 2)
  else if d.readySrc .inband then some .inband
  else if d.readySrc (.ring 3) then some (.ring 3)
  else none

/-- The front entry of a source taken off, and the alternation of R237 stepped. -/
def Dev.popCmd (d : Dev) (src : Source) : Dev :=
  match src with
  | .ring r =>
    let d1 := d.setRing r { d.ring r with fetched := (d.ring r).fetched.drop 1 }
    if r = 2 then { d1 with cmd := { d1.cmd with inbandTurn := true } } else d1
  | .inband => { d with cmd := { d.cmd with inband := d.cmd.inband.drop 1, inbandTurn := false } }
  | .list => { d with cmd := { d.cmd with list := d.cmd.list.drop 1 } }

/-- The mode a command's acceptance is judged in: the start-up list acts as in CONFIGURE (R345). (DEDUCED, log 130) -/
def Cmd.mode (c : Cmd) (d : Dev) : Mode :=
  if c.src = .list then .configure else d.glb.mode

/-- How a command ends as it executes: at once, or it waits; `specific` tells that a more specific message than INTERNAL was sent (R241). -/
inductive Res where
  | done (st : Status) (result detail : Nat) (specific : Bool)
  | wait (w : Wait) (result detail : Nat)
  deriving DecidableEq, Repr

/-- At once, with status OK. -/
def Res.ok (result detail : Nat) : Res := .done .ok result detail false

/-- A handle parameter: its place among the parameters, its type, whether 0 is allowed, which objects are FREE (R243), and when it is
not checked (R161). -/
structure HParam where
  idx   : Nat
  ty    : Nat
  zero  : Bool
  isFree : Dev → Nat → Bool
  skip   : Cmd → Dev → Bool := fun _ _ => false

/-- What Table 10-5 and the owning chapter give a command. `checks` lists statuses with the conditions under which they arise; the order is
that of R241. `hostAddr` is the place of HOST_ADDR among the parameters; `dmaBit` tells that flag bit 0 asks for a transfer. -/
structure CmdSpec where
  opcode   : Nat
  flagMask : Nat := 0
  ty       : Nat := 0
  isFree   : Dev → Nat → Bool := fun _ _ => true
  params   : List PField := []
  handles  : List HParam := []
  modes    : Mode → Bool := Mode.served
  hostAddr : Option Nat := none
  dmaBit   : Bool := false
  checks   : Cmd → Dev → List (Status × Bool) := fun _ _ => []
  waits    : Cmd → Dev → Bool := fun _ _ => false
  run      : Cmd → Nat → Dev → Dev × Res

/-- How many objects a handle type has (Table 10-4). -/
def typeCount (ty : Nat) : Nat :=
  match ty with
  | 1 => 32 | 2 => 8 | 3 => 64 | 4 => 4096 | 5 => 512 | 6 => 1024 | 7 => 1024 | 8 => 8 | 9 => 16
  | _ => 0

/-- The check of a handle, with the status for a wrong type (R243). -/
def Dev.checkHandle (d : Dev) (h ty : Nat) (isFree : Dev → Nat → Bool) (wrongType : Status) : Option Status :=
  if h = 0 then some .badHandle
  else if h / 2 ^ 24 ≠ ty then some wrongType
  else if typeCount ty ≤ hIdx h then some .badHandle
  else if h / 2 ^ 16 % 256 ≠ d.gen ty (hIdx h) then some .staleHandle
  else if isFree d (hIdx h) then some .badHandle
  else none

/-- The handle parameters in order: the first failure (R241, R243). -/
def Dev.checkHandles (d : Dev) (c : Cmd) (hs : List HParam) : Option Status :=
  match hs with
  | [] => none
  | x :: r =>
    if (x.zero ∧ c.p x.idx = 0) ∨ x.skip c d then d.checkHandles c r
    else match d.checkHandle (c.p x.idx) x.ty x.isFree .range with
      | some st => some st
      | none => d.checkHandles c r

/-- Whether a parameter fits its field (R232). -/
def PField.fits (f : PField) (v : Nat) : Bool :=
  if f.signed then decide (v = wrapN (8 * f.bytes) (signedN f.bits v)) else decide (v < 2 ^ f.bits)

/-- The command that an entry spells for the parameters of its row (R231, R232). A parameter of more than 8 bytes is a table of bytes or of
fields, and is kept as the bytes stand (PORT_MASK by Table 10-5; SEGMENT by `Cmd.segBytes`). -/
def Cmd.parse (src : Source) (e : Entry) (params : List PField) (dma : Option (List Byte)) : Cmd where
  src := src
  entry := e
  opcode := e.opcode
  flags := e.field 2 2
  tag := BitVec.ofNat 32 (e.field 4 4)
  handle := e.field 8 4
  timeout := e.field 12 2
  params := List.zipWith (fun o f => if f.bytes ≤ 8 then e.field (16 + o) f.bytes else leAt e.bytes (16 + o) f.bytes)
    (packOffsets (params.map (·.bytes))) params
  dma := dma

/-- Whether every byte that no field occupies is zero, and no reserved flag is set (R231, R232). -/
def Cmd.reservedOk (c : Cmd) (spec : CmdSpec) : Bool :=
  let ofs := packOffsets (spec.params.map (·.bytes))
  let used := List.zipWith (fun (o : Nat) (f : PField) => (o, f.bytes)) ofs spec.params
  let free := (List.range 48).all fun i =>
    (used.any fun u => decide (u.1 ≤ i) && decide (i < u.1 + u.2)) || decide (c.entry.bytes.getD (16 + i) 0 = 0)
  free && decide (leAt c.entry.bytes 14 2 = 0) && decide (c.flags / 1024 = 0) &&
    decide (c.flags % 256 &&& spec.flagMask = c.flags % 256) && (spec.ty != 0 || decide (c.handle = 0))

/-- The values that break a rule common to all commands: too wide (R232), HOST_ADDR misaligned (R234), or a transfer asked for in-band (R222). -/
def Cmd.valuesBad (c : Cmd) (spec : CmdSpec) : Bool :=
  (List.zipWith (fun (f : PField) v => !f.fits v) spec.params c.params).any id ||
  (match spec.hostAddr with
   | none => false
   | some i => decide (c.p i % 8 ≠ 0) || (decide (c.src = .inband) && decide (c.p i ≠ 0))) ||
  (spec.dmaBit && decide (c.src = .inband) && c.flag 0)

/-- The first status of R241 among those whose condition holds. -/
def firstOf (order : List Status) (cs : List (Status × Bool)) : Option Status :=
  order.find? fun st => cs.any fun c => c.2 && decide (c.1 = st)

/-- A place in the table of commands in progress: 256, of which 32 are for ring 0 alone, so that the other sources share 224
(R238; DEDUCED, log 12). -/
def Dev.hasPlace (d : Dev) (src : Source) : Bool :=
  decide (d.cmd.inProgress.length < 256) &&
    (decide (src = .ring 0) || decide ((d.cmd.inProgress.filter fun t => decide (t.src ≠ .ring 0)).length < 224))

/-- The first failing check of a command, in the order of R241. -/
def Dev.reject (d : Dev) (spec : CmdSpec) (c : Cmd) : Option Status :=
  if !c.reservedOk spec then some .range
  else match (if spec.ty = 0 then none else d.checkHandle c.handle spec.ty spec.isFree .badHandle) with
  | some st => some st
  | none =>
  match d.checkHandles c spec.handles with
  | some st => some st
  | none =>
  if !spec.modes (c.mode d) then some .mode
  else
    firstOf [.state, .range, .busy, .noResource, .deadline] (spec.checks c d ++ [(.range, c.valuesBad spec)])

/-- A command executes: its checks, its effect, and its completion or its wait (R236, R238, R241). (DESIGN CHOICE, log 150) -/
def Dev.execute (d : Dev) (spec : CmdSpec) (c : Cmd) : Dev :=
  match d.reject spec c with
  | some st => d.post c.src c.entry c.tag c.entry.notify st 0 0
  | none =>
    if spec.waits c d && !d.hasPlace c.src then
      (d.count R.CMD_BUSY_COUNT 1).post c.src c.entry c.tag c.entry.notify .busy 0 0
    else
      let cid := d.cmd.nextCid
      let d0 := { d with cmd := { d.cmd with nextCid := cid + 1 } }
      let (d1, res) := spec.run c cid d0
      match res with
      | .done st result detail specific =>
        (d1.post c.src c.entry c.tag c.entry.notify st result detail).internalReport c.tag c.opcode st specific
      | .wait w result detail =>
        { d1 with cmd := { d1.cmd with inProgress := d1.cmd.inProgress ++
          [⟨cid, c.src, c.entry, c.tag, c.entry.notify, c.opcode, c.handle, w, result, detail, false⟩] } }

/-- The command counters (R326): one more command executed, and its execution latency. -/
def Dev.countCommand (d : Dev) (e : Entry) : Dev :=
  let lat := (d.now - e.seen) / usec
  let d1 := d.setWord R.MGMT_CMD_COUNT (d.word R.MGMT_CMD_COUNT + 1)
  let d2 := d1.setWord R.MGMT_CMD_LAT_SUM (d1.word R.MGMT_CMD_LAT_SUM + BitVec.ofNat 32 lat)
  if (d2.word R.MGMT_CMD_LAT_MAX).toNat < lat then d2.setWord R.MGMT_CMD_LAT_MAX (BitVec.ofNat 32 (min 0xFFFFFFFF lat)) else d2

/-- Entries that the start-up list accepts (R345). -/
def listAccepts (op : Nat) : Bool :=
  decide (0x0100 ≤ op ∧ op < 0x0500) || decide (0x0700 ≤ op ∧ op < 0x0800) || decide (0x0A00 ≤ op ∧ op < 0x0B00) || decide (op = 0x0021)

/-- A command row: the next command of `src`, if it is that source's turn and the entry is of this row. A command whose time limit has
passed completes with TIMEOUT instead of executing (R239); an opcode that no row has completes with BAD_OPCODE, whichever command row meets it (R244, DESIGN CHOICE, log 13). An entry that the
start-up list does not accept is skipped (R345). -/
def Dev.command (d : Dev) (spec : CmdSpec) (src : Source) (dma : Option (List Byte)) : Dev :=
  if d.turn ≠ some src then d
  else match d.frontOf src with
  | none => d
  | some e =>
    let c := Cmd.parse src e spec.params dma
    let skipped : Bool := decide (src = .list) && !listAccepts e.opcode
    if opcodes.contains e.opcode ∧ !skipped ∧ e.opcode ≠ spec.opcode then d
    else if c.timeout ≠ 0 ∧ e.seen + c.timeout * msec < d.now then
      ((d.popCmd src).count R.CMD_TIMEOUT_COUNT 1).post src e c.tag e.notify .timeout 0 0
    else if !opcodes.contains e.opcode then
      (if skipped then d.popCmd src else (d.popCmd src).countCommand e).post src e c.tag e.notify .badOpcode 0 0
    else if skipped then (d.popCmd src).post src e c.tag e.notify .mode 0 0
    else ((d.popCmd src).countCommand e).execute spec c

/-- The command of a source that was executing as its core or a word it read failed ends with INTERNAL and without effect; a message of the failure has
been sent (R241, R273, R322; DESIGN CHOICE, log 60). -/
def Dev.execCaught (d : Dev) (src? : Option Source) : Dev :=
  match src? with
  | none => d
  | some src => match d.frontOf src with
    | none => d
    | some e =>
      let tag := BitVec.ofNat 32 (e.field 4 4)
      (((d.popCmd src).countCommand e).post src e tag e.notify .internal 0 0).internalReport tag e.opcode .internal true

/-! ### What command effects share -/

/-- A block or data written to HOST_ADDR where it is not 0; a failed transfer ends the command with INTERNAL (R234). -/
def Dev.toHost (d : Dev) (c : Cmd) (addr : Nat) (bytes : List Byte) (ok : Res) : Dev × Res :=
  if addr = 0 then (d, ok)
  else if c.dma.isNone then (d.sendFault 0x004 0x02 .c addr, .done .internal 0 0 true)
  else (d.emit (.hostWrite addr bytes), ok)

/-- The operand of a status command as the data of its transfer: present where the transfer succeeded. -/
def dmaOf (ok : Bool) : Option (List Byte) := if ok then some [] else none

/-- A schedule point: its offset after T0 in 2^-16 ns, `x` in per mille of the period (R129). -/
def Dev.schedOff (d : Dev) (x : Nat) : Nat :=
  d.tick.num * x / (1000 * d.tick.den)

/-- The feedback cutoff, compute-start and publish offsets in 2^-16 ns (R129). -/
def Dev.fbCutOff (d : Dev) : Nat := d.schedOff (d.get F.TICK_SCHED0.FB_CUT)
def Dev.csOff (d : Dev) : Nat := d.schedOff (d.get F.TICK_SCHED0.CS)
def Dev.pubOff (d : Dev) : Nat := d.schedOff (d.get F.TICK_SCHED1.PUB)

/-- A tick whose work is done and checked: it runs and is not transitional (R115, R131). -/
def Dev.tickLive (d : Dev) : Bool := d.tick.running && !d.tick.transitional

/-- Changes that one arrival brings (R135): for the coming boundary, or for the one after it inside the apply window. -/
def Dev.arrive (d : Dev) (cs : List Buffered) : Dev :=
  if d.tick.running ∧ d.tick.phase = 4 then
    ({ d with pendLate := d.pendLate ++ cs }).count R.TICK_APPLY_DEFER_COUNT 1
  else { d with pendNow := d.pendNow ++ cs }

/-- The changes of one command, the last of which completes it (R136). -/
def bufferedList (cs : List Change) (cid : Nat) : List Buffered :=
  match cs with
  | [] => [⟨.done, some cid⟩]
  | [c] => [⟨c, some cid⟩]
  | c :: r => ⟨c, none⟩ :: bufferedList r cid

/-- A buffered change of a command, which completes when it is live (R136, R255). -/
def Dev.buffered (d : Dev) (cs : List Change) (cid : Nat) : Dev × Res := (d.arrive (bufferedList cs cid), .wait .live 0 0)

/-- Bits of a register as a change. -/
def chg (f : Fld) (v : Nat) : Change :=
  .word f.off f.mask ((BitVec.ofNat 32 v <<< f.lo) &&& f.mask)

/-- A whole LO/HI pair as a change. -/
def chg64 (lo v : Nat) : List Change :=
  [.word lo (BitVec.allOnes 32) (BitVec.ofNat 32 v), .word (lo + 4) (BitVec.allOnes 32) (BitVec.ofNat 32 (v / 2 ^ 32))]

/-- The pending copy follows a command's write of RWP fields (R136: a read returns the pending value). -/
def Dev.pendChange (d : Dev) (c : Change) : Dev :=
  match c with
  | .word off mask val => { d with pend := Tbl.put d.pend off ((d.pendWord off &&& ~~~mask) ||| val) }
  | _ => d

/-- A buffered change of RWP registers by a command. -/
def Dev.bufferedRegs (d : Dev) (cs : List Change) (cid : Nat) : Dev × Res :=
  (cs.foldl Dev.pendChange d).buffered cs cid

/-- The boundary that K = 0 names: the next one outside the apply window (R53, R247). -/
def Dev.nextOpen (d : Dev) : Nat :=
  if d.tick.phase = 4 then d.tick.nextK + 1 else d.tick.nextK

/-- The boundary a command names. -/
def Dev.bndOf (d : Dev) (k : Nat) : Nat :=
  if k = 0 then d.nextOpen else k

/-- Whether a named boundary is too near or passed (R140). -/
def Dev.tooNear (d : Dev) (k : Nat) : Bool :=
  decide (k < d.tick.index + 2)

/-- An operation armed for a boundary (R137). -/
def Dev.arm (d : Dev) (k : Nat) (op : ArmOp) (cid : Option Nat) : Dev :=
  { d with armed := d.armed ++ [⟨k, op, cid⟩] }

end Sys2Proof.Machine
end

