-- ==== Sys2Proof/Machine/Mgmt.lean ====
section
/-! DEFINITION. The Newt cluster (R320 to R330): heartbeats, exceptions, the counters of the cores, step samples, and the load figures. -/

namespace Sys2Proof.Machine

/-- SOURCE of NEWT. -/
def srcNewt : Nat := 0x066

/-- Whether core `c` is online (R322). -/
def Dev.coreOn (d : Dev) (c : Nat) : Bool := decide (c < 4) && (d.get F.MGMT_STATUS.ONLINE).testBit c

/-- One period of the Newt clock: the core clock divided by 2 (R323). -/
def Dev.newtPeriod (d : Dev) : Nat := 2 * d.corePeriod

/-- Counter `i` of core `c`, in the order of MGMT_Cc. -/
def Dev.coreCnt (d : Dev) (c i : Nat) : Nat := Tbl.getD d.mgmt.cnt (8 * c + i) 0

/-- The `i`-th of the free values from here on, up to `m`. -/
def Dev.freeAt (d : Dev) (i m : Nat) : Nat := ({ d with free := d.free + i }).freeTo m

/-- How `n` cycles of a core divide (R327), in the order of its counters: all of them in CYCLES, each idle or with one of four causes, and a busy one of level 3, of level 4 or of
neither. The division is free (DESIGN CHOICE, log 2). -/
def Dev.coreSplit (d : Dev) (n : Nat) : List Nat :=
  let idle := d.freeAt 0 n
  let busy := n - idle
  let run := d.freeAt 1 busy
  let arb := d.freeAt 2 (busy - run)
  let dma := d.freeAt 3 (busy - run - arb)
  let l3 := d.freeAt 4 busy
  [n, idle, run, arb, dma, busy - run - arb - dma, l3, d.freeAt 5 (busy - l3)]

/-- Whether the counters count (R328). -/
def Dev.cntRuns (d : Dev) : Bool := d.bit F.MGMT_CTRL.CNT_EN && !d.bit F.MGMT_CTRL.CNT_FREEZE

/-- MGMT_SAMP_PERIOD: values below 1,000 are taken as 1,000. -/
def Dev.sampPeriod (d : Dev) : Nat := max 1000 (d.get F.MGMT_SAMP_PERIOD.PERIOD)

/-- The counters of core `c` after cycles that divide as `l` says, modulo 2^48 (R328). -/
def Dev.coreAdd (d : Dev) (c : Nat) (l : List Nat) : Tbl Nat :=
  l.zipIdx.foldl (fun t x => Tbl.put t (8 * c + x.2) ((Tbl.getD t (8 * c + x.2) 0 + x.1) % 2 ^ 48)) d.mgmt.cnt

/-- The cycles of the cause that SAMP_CAUSE selects, counted on for core `c` (R329). -/
def Dev.sampSum (d : Dev) (c : Nat) (l : List Nat) : Nat := Tbl.getD d.mgmt.sampCnt c 0 + l.getD (2 + d.get F.MGMT_CTRL.SAMP_CAUSE) 0

/-- `n` more cycles of core `c`, divided as `l` says: in its counters while they count (R328), in its use since MGMT_LOAD was last computed, and while sampling runs in the count of
the selected cause: each time that reaches the period the core marks its step, and the count restarts (R329). -/
def MgmtState.after (d : Dev) (c : Nat) (l : List Nat) : MgmtState :=
  let m := d.mgmt
  let u := Tbl.getD m.used c (0, 0)
  let m1 := { m with cnt := if d.cntRuns then d.coreAdd c l else m.cnt, used := Tbl.put m.used c (u.1 + l.getD 1 0, u.2 + l.getD 0 0) }
  let k := d.sampSum c l
  if d.bit F.MGMT_CTRL.SAMP_EN then
    { m1 with sampCnt := Tbl.put m.sampCnt c (k % d.sampPeriod), marks := Tbl.put m.marks c (Tbl.getD m.marks c 0 + k / d.sampPeriod) }
  else m1

/-- `n` cycles of core `c`, where it is online (R327 to R329). -/
def Dev.coreCycles (n : Nat) (d : Dev) (c : Nat) : Dev :=
  if d.coreOn c then { d with free := d.free + 6, mgmt := MgmtState.after d c (d.coreSplit n) } else d

/-- Counters, use and marks brought up to the present (R328): all counters start and stop in the same cycle. (DEDUCED, log 101) -/
def Dev.mgmtCount (d : Dev) : Dev :=
  let n := (d.now - d.mgmt.cntAt) / d.newtPeriod
  if d.glb.mode = .halt ∨ d.mgmt.started.isNone then { d with mgmt := { d.mgmt with cntAt := d.now } }
  else if n = 0 then d
  else [0, 1, 2, 3].foldl (Dev.coreCycles n) { d with mgmt := { d.mgmt with cntAt := d.mgmt.cntAt + n * d.newtPeriod } }

/-- CNT_CLEAR (R328). -/
def Dev.cntClearGo (d : Dev) : Dev := { d with mgmt := { d.mgmt with cnt := [] } }

/-- Sampling starts anew (R329): no sample written, no cycle counted, no step marked. -/
def Dev.sampRestart (d : Dev) : Dev := { d with mgmt := { d.mgmt with sampCnt := [], marks := [] } }.setWord R.MGMT_SAMP_WR 0

/-- MGMT_CTRL with new values of its fields but CNT_CLEAR; SAMP_EN written as 1 while sampling is stopped restarts it (R328, R329). -/
def Dev.mgmtCtrl (d : Dev) (w : Word) : Dev :=
  let d1 := d.mgmtCount
  let was := d1.bit F.MGMT_CTRL.SAMP_EN
  let d2 := d1.setWord R.MGMT_CTRL (w &&& 0x7B#32)
  if !was ∧ d2.bit F.MGMT_CTRL.SAMP_EN then d2.sampRestart else d2

/-! ### Heartbeat (R321) -/

/-- Whether firmware runs that can write a heartbeat: a core is online, and the cores have not stopped (R321, R322; in HALT they stop, R282). -/
def Dev.beats (d : Dev) : Bool :=
  d.mgmt.started.isSome && decide (d.get F.MGMT_STATUS.ONLINE ≠ 0) && decide (d.glb.mode ≠ .halt)

/-- FIRMWARE_HEARTBEAT: 1 ms after the last one. The row comes only where every online core has passed through its scheduler within the last 2 ms: which
cores have, firmware alone knows (R321). A heartbeat after more than 10 ms without one leaves condition 2 of R284 unmet for the
half-period in progress. -/
def firmwareHeartbeat (d : Dev) : Dev :=
  if !d.beats then d
  else
    let d1 := d.after d.mgmt.beat msec
    let late := !(d1.mgmt.beat.any fun t => decide (d1.now ≤ t + 10 * msec))
    let bad := if late then d1.flt.croakBad ||| 2 else d1.flt.croakBad
    { d1 with mgmt := { d1.mgmt with beat := some d1.now, beatLost := false }, flt := { d1.flt with croakBad := bad } }.setLive srcNewt false

/-- HEARTBEAT: 10 ms without a heartbeat, counted from the latest, or from the start of the cores (R321). (DEDUCED, log 100) -/
def heartbeat (d : Dev) : Dev :=
  if d.mgmt.started.isNone ∨ d.mgmt.beatLost then d
  else
    let d1 := d.after (some (d.mgmt.beat.getD (d.mgmt.started.getD 0))) (10 * msec)
    ({ d1 with mgmt := { d1.mgmt with beatLost := true } }.setLive srcNewt true).sendFault srcNewt 0x01 .u 0

/-- EXCEPTION: a core goes offline, and the command that it was executing ends with INTERNAL (R322). Whether the core was executing the command whose turn it
is, is open (DESIGN CHOICE, log 60). -/
def newtException (core : Nat) (addr : Word) (d : Dev) : Dev :=
  if d.coreOn core ∧ d.glb.mode ≠ .halt then
    let d1 := d.mgmtCount
    let d2 := d1.set F.MGMT_STATUS.ONLINE (d1.get F.MGMT_STATUS.ONLINE - 2 ^ core)
    let d3 := (d2.raise F.MGMT_EVENT.CORE_OFFLINE).sendFault srcNewt 0x02 .u (core * 2 ^ 38 + addr.toNat)
    d3.fresh.execCaught (if d3.freeVal 1 = 1 then d.turn else none)
  else d

/-! ### Samples and load -/

/-- The five words of a sample, with its number (MGMT_SAMP_E; DEDUCED, log 61). -/
def Dev.sampleWords (d : Dev) (s : StepSample) : List Word :=
  [s.addr, BitVec.ofNat 32 (min 0xFFFFFFFF s.length), s.tag,
   BitVec.ofNat 32 (s.core % 4 + 4 * d.get F.MGMT_CTRL.SAMP_CAUSE + 16 * (s.level % 16) + 256 * ((d.word R.MGMT_SAMP_WR).toNat % 2 ^ 24)),
   BitVec.ofNat 32 (min 0xFFFFFFFF s.causeCycles)]

/-- How many marks of core `c` have no sample yet. -/
def Dev.marked (d : Dev) (c : Nat) : Nat := Tbl.getD d.mgmt.marks c 0

/-- A marked step of core `c` has its sample. A step may have been marked more than once; how often is free (R329; DESIGN CHOICE, log 2). -/
def Dev.unmark (d : Dev) (c : Nat) : Dev :=
  { d.fresh with mgmt := { d.mgmt with marks := Tbl.put d.mgmt.marks c (d.freeTo (d.marked c - 1)) } }

/-- A sample takes the next of 4,096 entries; a stopping buffer that is full ends sampling (R329). -/
def Dev.sampleWrite (d : Dev) (s : StepSample) : Dev :=
  let wr := (d.word R.MGMT_SAMP_WR).toNat
  let d1 := { d with mgmt := { d.mgmt with samples := Tbl.put d.mgmt.samples (wr % 4096) (d.sampleWords s) } }
  let d2 := d1.setWord R.MGMT_SAMP_WR (d.word R.MGMT_SAMP_WR + 1)
  if d2.bit F.MGMT_CTRL.SAMP_FULL ∧ 4095 ≤ wr then (d2.set F.MGMT_CTRL.SAMP_EN 0).raise F.MGMT_EVENT.SAMP_FULL else d2

/-- Whether a step of core `c` is marked while sampling runs. -/
def Dev.sampleDue (d : Dev) (c : Nat) : Bool :=
  d.bit F.MGMT_CTRL.SAMP_EN && d.coreOn c && decide (d.glb.mode ≠ .halt) && decide (0 < d.marked c)

/-- STEP_SAMPLE: a marked step of a core ends, and its sample is written (R329). -/
def stepSample (s : StepSample) (d : Dev) : Dev :=
  if d.mgmtCount.sampleDue s.core then (d.mgmtCount.unmark s.core).sampleWrite s else d.mgmtCount

/-- A line of a symbol file (R330): start address, size and name. -/
structure Symbol where
  start : Nat
  size  : Nat
  name  : String
  deriving DecidableEq, Repr

/-- The symbol that a sample address belongs to in the symbol file of a build; none where the file's BUILD_ID is not that of the running firmware (R330). -/
def Dev.symbolOf (d : Dev) (build : Nat) (file : List Symbol) (addr : Nat) : Option Symbol :=
  if build = d.get64 R.MGMT_FW_BUILD_LO then file.find? fun x => decide (x.start ≤ addr ∧ addr < x.start + x.size) else none

/-- Word `i` of the sample that MGMT_SAMP_SEL selects. -/
def Dev.sampleWord (d : Dev) (i : Nat) : Word :=
  (Tbl.getD d.mgmt.samples (d.get F.MGMT_SAMP_SEL.ENTRY) []).getD i 0

/-- LOAD_HIGH where the mean exceeds a threshold that is not 0. -/
def Dev.loadHigh (d : Dev) : Dev :=
  if 0 < d.get F.MGMT_LOAD_THRESH.THRESH ∧ d.get F.MGMT_LOAD_THRESH.THRESH < d.get F.MGMT_LOAD.MEAN then d.raise F.MGMT_EVENT.LOAD_HIGH else d

/-- Idle cycles and all cycles of the online cores since MGMT_LOAD was last computed. -/
def Dev.coreUse (d : Dev) : List (Nat × Nat) := ([0, 1, 2, 3].filter d.coreOn).map fun c => Tbl.getD d.mgmt.used c (0, 0)

/-- `a / b` as a whole percentage, rounded up or down. -/
def percent (a b : Nat) (up : Bool) : Nat := if b = 0 then 0 else min 100 ((100 * a + if up then b - 1 else 0) / b)

/-- MGMT_LOAD: utilisation over the last 100 ms, 1 - IDLE / CYCLES (R326): its mean over the online cores, whose cycles are as many, and its highest, and LOAD_HIGH above the
threshold. The operands tell which way firmware rounds them (DESIGN CHOICE, log 204). -/
def mgmtLoad (meanUp maxUp : Bool) (d : Dev) : Dev :=
  if d.mgmt.started.isNone ∨ !d.firmwareRuns then d
  else
    let d1 := (d.till (d.mgmt.loadAt + 100 * msec)).mgmtCount
    let u := d1.coreUse
    let busy := u.map fun x => x.2 - x.1
    let mean := percent busy.sum (u.map (·.2)).sum meanUp
    let most := percent (busy.foldl max 0) ((u.map (·.2)).foldl max 0) maxUp
    let d2 := { d1 with mgmt := { d1.mgmt with loadAt := d1.now, used := [] } }
    ((d2.set F.MGMT_LOAD.MEAN mean).set F.MGMT_LOAD.MAX most).loadHigh

/-- The cores are started (R321, R324): all four online. -/
def Dev.coresStart (d : Dev) : Dev :=
  ({ d with mgmt := { d.mgmt with started := some d.now, beat := none, beatLost := false, cntAt := d.now, used := [], loadAt := d.now } }).set
    F.MGMT_STATUS.ONLINE 15

end Sys2Proof.Machine
end

