-- ==== Sys2Proof/Machine/Outputs.lean ====
section
/-! DEFINITION. Frequency words, band selection and outputs: what chapters 2 and 3 share (R27 to R32, R37, R58 to R76). -/

namespace Sys2Proof.Machine

/-! ### Masters: words and bands -/

/-- MSn beside its registers. -/
def Dev.msOf (d : Dev) (n : Nat) : Ms := Tbl.getD d.ms n Ms.reset

/-- MSn replaced. -/
def Dev.setMs (d : Dev) (n : Nat) (m : Ms) : Dev := { d with ms := Tbl.put d.ms n m }

/-- A power domain is on (R331). (DEDUCED, log 139) -/
def Dev.domainOn (d : Dev) (n : Nat) : Bool := (d.word R.PWR_DOMAIN_STATUS).getLsbD n

/-- N_MOD of a pair: 0 means 2^48 (R28). -/
def modOf (v : Nat) : Nat := if v = 0 then 2 ^ 48 else v

/-- k_pre as a fraction (R27). -/
def preOf (v : Nat) : Nat × Nat :=
  match v with
  | 0 => (1, 1) | 1 => (2, 1) | 2 => (1, 2) | _ => (1, 4)

/-- The frequency word of an MS: what R27 takes besides f_OSCIN. -/
structure MsWord where
  pre  : Nat
  nInt : Nat
  frac : Nat
  mod  : Nat
  deriving DecidableEq, Repr

/-- The word that MSn holds. -/
def Dev.msWord (d : Dev) (n : Nat) : MsWord :=
  ⟨d.get (F.MSn_CTRL.OSC_PRE n), d.get (F.MSn_NINT.N_INT n), d.get64 (R.MSn_NFRAC_LO n), modOf (d.get64 (R.MSn_NMOD_LO n))⟩

/-- f_OSCIN in Hz (REF_OSC_NOM). -/
def Dev.fOsc (d : Dev) : Nat := d.get F.REF_OSC_NOM.OSC_NOM

/-- f_PFD in Hz as a fraction (R27). -/
def MsWord.pfd (w : MsWord) (fOsc : Nat) : Nat × Nat :=
  (fOsc * (preOf w.pre).1, (preOf w.pre).2)

/-- The nominal f_VCO in Hz as a fraction (R27 with STEER = 0). -/
def MsWord.vco (w : MsWord) (fOsc : Nat) : Nat × Nat :=
  (fOsc * (preOf w.pre).1 * (w.nInt * w.mod + w.frac), (preOf w.pre).2 * w.mod)

/-- f_VCO in Hz as a fraction, steering included (R27). -/
def MsWord.steered (w : MsWord) (fOsc : Nat) (steer : Int) : Nat × Nat :=
  ((w.vco fOsc).1 * (2 ^ 48 + steer).toNat, (w.vco fOsc).2 * 2 ^ 48)

/-- Whether a word is accepted (R28). -/
def MsWord.ok (w : MsWord) (fOsc : Nat) : Bool :=
  let p := w.pfd fOsc
  let f := w.vco fOsc
  decide (2500000 * p.2 ≤ p.1) && decide (p.1 ≤ 250000000 * p.2) && decide (8 ≤ w.nInt) && decide (w.nInt ≤ 8191) &&
    decide (w.frac < w.mod) && decide (11000000000 * f.2 ≤ f.1) && decide (f.1 ≤ 13800000000 * f.2)

/-- Device time of `n` PFD periods. -/
def MsWord.pfdTime (w : MsWord) (fOsc n : Nat) : Nat :=
  let p := w.pfd fOsc
  if p.1 = 0 then 0 else n * p.2 * 1000000000 * perNs / p.1

/-- The signed offset of segment `i` in profile mode (R55): 61 bits, in 2^-48 of the nominal frequency. (DESIGN CHOICE, log 154) -/
def Dev.segOffset (d : Dev) (n i : Nat) : Int :=
  signedN 61 (d.get64 (R.MSn_SEG_TARGET_LO n i))

/-- The segments of the loaded profile, up to the one marked LAST, else all 16 (R52). (DESIGN CHOICE, log 155) -/
def Dev.segCount (d : Dev) (n : Nat) : Nat :=
  match (List.range 16).find? fun i => d.bit (F.MSn_SEG_DWELL.LAST n i) with
  | some i => i + 1
  | none => 16

/-- The swept range in Hz: lowest and highest over one denominator (R31, R55). -/
def Dev.swept (d : Dev) (n : Nat) (w : MsWord) : Int × Int × Nat :=
  let f := w.vco d.fOsc
  let dep := d.get (F.MSn_SSC_CFG.SSC_DEPTH n)
  match d.get (F.MSn_SSC_CFG.SSC_MODE n) with
  | 0 => (f.1, f.1, f.2)
  | 1 => ((f.1 : Int) * (100000 - dep), (f.1 : Int) * 100000, f.2 * 100000)
  | 2 => ((f.1 : Int) * (100000 - dep), (f.1 : Int) * (100000 + dep), f.2 * 100000)
  | _ =>
    let offs := (List.range (d.segCount n)).map (d.segOffset n)
    let lo := offs.foldl min 0
    let hi := offs.foldl max 0
    ((f.1 : Int) * (2 ^ 48 + lo), (f.1 : Int) * (2 ^ 48 + hi), f.2 * 2 ^ 48)

/-! ### The word in force -/

/-- A word as the integer `N_INT × N_MOD + N_FRAC`. -/
def MsWord.num (w : MsWord) : Nat := w.nInt * w.mod + w.frac

/-- Rounding to nearest, halves up. -/
def roundDiv (a : Int) (b : Nat) : Int := (2 * a + b).fdiv (2 * b)

/-- A value moved by `step` toward a goal that it does not pass. -/
def toward (a goal : Int) (step : Nat) : Int := if a ≤ goal then min goal (a + step) else max goal (a - step)

/-- Distance of two numbers. -/
def natDist (a b : Nat) : Nat := max a b - min a b

/-- The target of segment `i` over the current modulus (R52). -/
def Dev.segTarget (d : Dev) (n i : Nat) : MsWord :=
  let t := d.get64 (R.MSn_SEG_TARGET_LO n i)
  { d.msWord n with nInt := bitsOf t 48 13, frac := bitsOf t 0 48 }

/-- SLOPE of a segment in 2^-48 per µs (R52). -/
def Dev.segSlope (d : Dev) (n i : Nat) : Nat := (d.word (R.MSn_SEG_SLOPE n i)).toNat

/-- The parts of one N_FRAC, or of 2^-48, in which a segment moves: at exactly SLOPE, one part for each unit of `Dev.now` (R52). -/
def rampUnit : Nat := 2 ^ 48 * usec

/-- What the slope of a segment is relative to: where it starts, or in a profile the nominal word (R52, R55). (DEDUCED, log 112) -/
def Ramp.whole (r : Ramp) : Nat := if r.profile then 2 ^ 48 else r.start

/-- Where a segment starts, and where it leads: words, or offsets in a profile (R52, R55). -/
def Ramp.start' (r : Ramp) : Int := if r.profile then signedN 61 r.start else r.start
def Dev.segGoal (d : Dev) (n : Nat) (r : Ramp) : Int := if r.profile then d.segOffset n r.seg else (d.segTarget n r.seg).num

/-- What the segment in progress has reached, over `rampUnit`: it moves at exactly SLOPE and holds its target (R52, R55). -/
def Dev.segNow (d : Dev) (n : Nat) (r : Ramp) : Int :=
  toward (r.start' * rampUnit) (d.segGoal n r * rampUnit) (r.whole * d.segSlope n r.seg * (d.now - r.since))

/-- The word that a ramp has reached, rounded to the nearest N_FRAC, as it is reported (R54). -/
def Dev.rampWord (d : Dev) (n : Nat) (r : Ramp) : Nat := (roundDiv (d.segNow n r) rampUnit).toNat

/-- The offset that a profile spread has reached, to the nearest 2^-48 (R55; DESIGN CHOICE, log 156). -/
def Dev.profileOffset (d : Dev) (n : Nat) (r : Ramp) : Int := roundDiv (d.segNow n r) rampUnit

/-- The word in force in whole N_FRAC: the one held, or the one that a ramp has reached. -/
def Dev.wordNow (d : Dev) (n : Nat) : MsWord :=
  let w := d.msWord n
  match (d.msOf n).ramp with
  | some r => if r.profile then w else { w with nInt := d.rampWord n r / w.mod, frac := d.rampWord n r % w.mod }
  | none => w

/-- The word without its ramp: the one that the ramp in progress started from, else the one held (R46). -/
def Dev.steadyWord (d : Dev) (n : Nat) : MsWord :=
  let w := d.msWord n
  match (d.msOf n).ramp with
  | some r => if r.profile then w else { w with nInt := r.base / w.mod, frac := r.base % w.mod }
  | none => w

/-- STEER (R27). -/
def Dev.steer (d : Dev) (n : Nat) : Int := signedN 40 (d.get64 (R.MSn_STEER_LO n))

/-- f_VCO of MSn in Hz as a fraction by its word and STEER (R27), a ramp at what it has reached (R52): f_MS of the outputs (R58). -/
def Dev.fMs (d : Dev) (n : Nat) : Nat × Nat :=
  let w := d.msWord n
  match (d.msOf n).ramp with
  | some r =>
    if r.profile then w.steered d.fOsc (d.steer n)
    else (d.fOsc * (preOf w.pre).1 * (d.segNow n r).toNat * (2 ^ 48 + d.steer n).toNat, (preOf w.pre).2 * w.mod * rampUnit * 2 ^ 48)
  | none => w.steered d.fOsc (d.steer n)

/-! ### Spread spectrum -/

/-- The period of the triangular modulation (R55); a rate outside its range that a register write has set is used as it stands (DESIGN CHOICE, log 186). -/
def Dev.sscPeriod (d : Dev) (n : Nat) : Nat := 1000000000 * perNs / max 1 (d.get (F.MSn_SSC_CFG.SSC_RATE n))

/-- SSC_DEPTH in 2^-48. -/
def Dev.sscDepth (d : Dev) (n : Nat) : Nat := d.get (F.MSn_SSC_CFG.SSC_DEPTH n) * 2 ^ 48 / 100000

/-- The triangular excursion at this instant, in 2^-48 of the nominal frequency (R55): down-spread moves between 0 and -depth, centre-spread between
-depth and +depth; the phase in which it starts is open (DESIGN CHOICE, log 156). -/
def Dev.triangle (d : Dev) (n : Nat) : Int :=
  let p := d.sscPeriod n
  let y := (d.now + (d.msOf n).sscPhase) % p
  let u : Int := (natDist (2 * y) p * d.sscDepth n / p : Nat)
  match d.get (F.MSn_SSC_CFG.SSC_MODE n) with
  | 1 => u - d.sscDepth n
  | 2 => (d.sscDepth n : Int) - 2 * u
  | _ => 0

/-- The excursion that spread gives f_VCO now, in 2^-48 of the nominal frequency (R55). -/
def Dev.spreadNow (d : Dev) (n : Nat) : Int :=
  if !d.bit (F.MSn_STATUS.ENABLED n) then 0
  else match (d.msOf n).ramp with
  | some r => if r.profile then d.profileOffset n r else d.triangle n
  | none => d.triangle n

/-- The integral of the centred triangle of amplitude 1 from the start of its period `p` to `y`. -/
def triArea (p y : Nat) : Int :=
  if 2 * y < p then (2 * y * y / max 1 p : Nat) - (y : Int) else 3 * (y : Int) - (2 * y * y / max 1 p : Nat) - p

/-- The phase that triangular spread has added up since a fixed instant, in 2^-48 of the unit of `Dev.now` (R46, R55). -/
def Dev.trianglePhase (d : Dev) (n : Nat) : Int :=
  let p := d.sscPeriod n
  let t := d.now + (d.msOf n).sscPhase
  let a : Int := d.sscDepth n
  match d.get (F.MSn_SSC_CFG.SSC_MODE n) with
  | 1 => (-(a * t) - a * triArea p (t % p)) / 2
  | 2 => a * triArea p (t % p)
  | _ => 0

/-- The phase that the segment in progress has added up against the word the ramp started from, in 2^-48 of the unit of `Dev.now`: its offsets at its start and now
lie on a straight line while it moves, then it holds its target (R52, R55). -/
def Dev.segPhase (d : Dev) (n : Nat) (r : Ramp) : Int :=
  let zero : Int := if r.profile then 0 else r.base * rampUnit
  let a := r.start' * rampUnit - zero
  let e := d.segNow n r - zero
  let t := d.now - r.since
  let move := min t ((d.segGoal n r - r.start').natAbs * rampUnit / max 1 (r.whole * d.segSlope n r.seg))
  let area := (a + e) * move + 2 * e * (t - move : Nat)
  if r.profile then area / (2 * rampUnit) else area * 2 ^ 48 / (2 * rampUnit * max 1 r.base : Nat)

/-- The phase that spread and the segment in progress have added up. -/
def Dev.excNow (d : Dev) (n : Nat) : Int :=
  (match (d.msOf n).ramp with
    | some r => d.segPhase n r
    | none => 0) + d.trianglePhase n

/-- The phase by which ramps and spread have moved the MS against its frequency word, in 2^-16 ns: what is removed from the compared phase (R46). Of a ramp that has ended its phase
stays, since the cycles expected are then those of its last word. -/
def Dev.excursion (d : Dev) (n : Nat) : Int := ((d.msOf n).exc + d.excNow n) / 2 ^ 80

/-- f_VCO of MSn in Hz as a fraction with the spread that is in force (R27, R52, R55). -/
def Dev.fVco (d : Dev) (n : Nat) : Nat × Nat :=
  ((d.fMs n).1 * (2 ^ 48 + d.spreadNow n).toNat, (d.fMs n).2 * 2 ^ 48)

/-- The time that MSn has run at the frequency of its word, moved by ramp and spread, in 2^-48 of the unit of `Dev.now`. -/
def Dev.vcoTime (d : Dev) (n : Nat) : Int := (d.now : Int) * 2 ^ 48 + d.excNow n

/-- The phase of the VCO of MSn in 2^-64 of a cycle: that at `phaseAt`, and the cycles since at the word, STEER, ramp and spread in force since then (R27, R52, R55;
DESIGN CHOICE, log 187). -/
def Dev.vcoPhase (d : Dev) (n : Nat) : Int :=
  let m := d.msOf n
  let f := (d.steadyWord n).steered d.fOsc (d.steer n)
  m.phase + ((d.vcoTime n - ({ d with now := m.phaseAt }).vcoTime n) * f.1 * 2 ^ 64).fdiv (f.2 * 2 ^ 48 * 1000000000 * perNs : Nat)

/-! ### Band selection -/

/-- Whether SSC_DEPTH lies in its range (MSn_SSC_CFG). -/
def Dev.sscOk (d : Dev) (n : Nat) : Bool :=
  match d.get (F.MSn_SSC_CFG.SSC_MODE n) with
  | 1 => decide (d.get (F.MSn_SSC_CFG.SSC_DEPTH n) ≤ 1000)
  | 2 => decide (d.get (F.MSn_SSC_CFG.SSC_DEPTH n) ≤ 500)
  | _ => true

/-- Whether band `b` of MSn is VALID and holds a range within its guard (R31, step 1). -/
def Dev.bandHolds (d : Dev) (n b : Nat) (r : Int × Int × Nat) : Bool :=
  let g := d.get (F.MSn_BAND_GUARD.BAND_GUARD n)
  let lo := (d.word (R.BAND_F_LO n b)).toNat
  let hi := (d.word (R.BAND_F_HI n b)).toNat
  d.bit (F.BAND_CAP.VALID n b) && decide (((lo + g) * 1000 * r.2.2 : Nat) ≤ r.1) &&
    decide (r.2.1 ≤ ((hi : Int) - g) * 1000 * r.2.2)

/-- Twice the distance from a band's centre to the midpoint of a range (R31, step 2), over the range's denominator. -/
def Dev.bandDist (d : Dev) (n b : Nat) (r : Int × Int × Nat) : Nat :=
  let lo := (d.word (R.BAND_F_LO n b)).toNat
  let hi := (d.word (R.BAND_F_HI n b)).toNat
  (((lo + hi) * 1000 * r.2.2 : Nat) - (r.1 + r.2.1) : Int).natAbs

/-- The band selected for MSn, if there is one (R31). -/
def Dev.selectBand (d : Dev) (n : Nat) : Option Nat :=
  let w := d.msWord n
  let r := d.swept n w
  let order0 := decide (d.get (F.MSn_CTRL.MOD_ORDER n) = 0)
  if !w.ok d.fOsc || (order0 && decide (w.frac ≠ 0)) || !d.sscOk n then none
  else if d.bit (F.MSn_CTRL.BAND_FORCE_EN n) then
    let b := d.get (F.MSn_CTRL.BAND_FORCE n)
    if d.bandHolds n b r then some b else none
  else
    ((List.range 64).filter fun b => d.bandHolds n b r).foldl (fun best b =>
      match best with
      | none => some b
      | some a => if d.bandDist n b r < d.bandDist n a r then some b else some a) none

/-! ### Outputs -/

/-- Output `o` beside its registers. -/
def Dev.outOf (d : Dev) (o : Nat) : OutCh := Tbl.getD d.outs o OutCh.reset

/-- Output `o` replaced. -/
def Dev.setOut (d : Dev) (o : Nat) (x : OutCh) : Dev := { d with outs := Tbl.put d.outs o x }

/-- The code of a sub-state (OUT_STATE). -/
def OutSub.code : OutSub → Nat
  | .highZ => 0 | .idle => 1 | .armed => 2 | .active => 3 | .bypass => 4 | .parked => 5

/-- RUNNING or STOPPING (R65, R70). -/
def ObjState.moving : ObjState → Bool
  | .running => true | .stopping => true
  | .free => false | .created => false | .configured => false | .stopped => false

/-- The channel state replaced; OUTn_CTRL.EN reads 1 while RUNNING or STOPPING. -/
def Dev.setCh (d : Dev) (o : Nat) (x : OutCh) : Dev :=
  (d.setOut o x).set (F.OUTn_CTRL.EN o) (b2n x.st.moving)

/-- The source MS of an output. -/
def Dev.srcMs (d : Dev) (o : Nat) : Nat := d.get (F.OUTn_CTRL.SRC_MS o)

/-- The outputs whose channel is fed by MSn and RUNNING or STOPPING (R56). -/
def Dev.fedBy (d : Dev) (n : Nat) : List Nat :=
  (List.range 32).filter fun o => (d.outOf o).st.moving && decide (d.srcMs o = n)

/-- PH_SLEW, with the values outside its range taken as R63 and OUTn_PH_SLEW say. -/
def Dev.phSlew (d : Dev) (o : Nat) : Nat := min 4000 (max 1 (d.get (F.OUTn_PH_SLEW.PH_SLEW o)))

/-- The live phase target, signed 48 bits (R63). -/
def Dev.phTarget (d : Dev) (o : Nat) : Int := signedN 48 (d.get64 (R.OUTn_PHASE_LO o))

/-- The phase applied now: while the channel runs it has moved toward the target at PH_SLEW per µs since `slewAt` (R63, R64); before its first edge and
after its stop the last one stays. (DESIGN CHOICE, log 157) -/
def Dev.phaseNow (d : Dev) (o : Nat) : Int :=
  let x := d.outOf o
  if x.st.moving ∧ x.sub ≠ .armed then toward x.applied (d.phTarget o) ((d.now - x.slewAt) * d.phSlew o / usec) else x.applied

/-- The slew's base moved to this instant, before its target or its rate changes (R64). -/
def Dev.phaseRebase (d : Dev) (o : Nat) : Dev :=
  d.setOut o { d.outOf o with applied := d.phaseNow o, slewAt := d.now }

/-- DIV or the FOD word of an output as a ratio (R58). -/
def Dev.outRatio (d : Dev) (o : Nat) : Nat × Nat :=
  if d.bit (F.OUTn_CTRL.PATH o) then
    let m := modOf (d.get64 (R.OUTn_FOD_MOD_LO o))
    (d.get (F.OUTn_FOD_INT.D_INT o) * m + d.get64 (R.OUTn_FOD_FRAC_LO o), m)
  else (d.get (F.OUTn_DIV.DIV o), 1)

/-- Units of 250 fs as VCO cycles of MSn at the frequency now in force, in 2^-64 of a cycle (R63). -/
def Dev.unitsToCycles (d : Dev) (n : Nat) (u : Int) : Int :=
  (u * (d.fVco n).1 * 2 ^ 64).fdiv ((d.fVco n).2 * 4000000000000 : Nat)

/-- The delay that phase adjustment has put into the divider and the DTC of an output, in 2^-64 of a VCO cycle: what it was as it was last noted, and what the slew has
added since (R63, R64). -/
def Dev.shiftNow (d : Dev) (o : Nat) : Int :=
  (d.outOf o).shift + d.unitsToCycles (d.srcMs o) (d.phaseNow o - (d.outOf o).shiftTo)

/-- That delay noted, before the frequency it is reckoned with changes. -/
def Dev.shiftMark (d : Dev) (o : Nat) : Dev := d.setOut o { d.outOf o with shift := d.shiftNow o, shiftTo := d.phaseNow o }

/-- The phase of MSn and the delays of its outputs are noted, before its word, STEER, ramp or spread changes. -/
def Dev.vcoMark (d : Dev) (n : Nat) : Dev :=
  let p := d.vcoPhase n
  let d1 := (d.outs.keys.filter fun o => (d.outOf o).st.moving && decide (d.srcMs o = n)).foldl Dev.shiftMark d
  d1.setMs n { d1.msOf n with phase := p, phaseAt := d.now }

/-- The maximum of a format in Hz at a supply reading, or none where format, level or supply are not allowed (R61, Table 3-2); FORMAT Off takes
every LEVEL. (DESIGN CHOICE, log 158) -/
def formatMax (format level vddo : Nat) : Option Nat :=
  match format with
  | 0 => some 13800000000
  | 1 => if level ≤ 2 ∧ 1 ≤ vddo then some 1600000000 else none
  | 2 => if level = 0 ∧ 1 ≤ vddo then some 400000000 else none
  | 3 => if level ≤ 2 ∧ 1 ≤ vddo then some 3450000000 else none
  | 4 => if level = 0 ∧ 2 ≤ vddo then some 1600000000 else none
  | 5 => if level ≤ 2 ∧ 1 ≤ vddo then some (if vddo = 1 then 200000000 else 250000000) else none
  | _ => none

/-- Whether an output meets every limit of R58 and R61 for a VCO frequency `num / den`. -/
def Dev.outLimits (d : Dev) (o : Nat) (f : Nat × Nat) : Bool :=
  let r := d.outRatio o
  let num := f.1 * r.2
  let den := f.2 * r.1
  let fod := d.bit (F.OUTn_CTRL.PATH o)
  let ranges :=
    if fod then
      decide (8 ≤ d.get (F.OUTn_FOD_INT.D_INT o)) && decide (d.get64 (R.OUTn_FOD_FRAC_LO o) < modOf (d.get64 (R.OUTn_FOD_MOD_LO o)))
    else decide (4 ≤ d.get (F.OUTn_DIV.DIV o))
  match formatMax (d.get (F.OUTn_FMT.FORMAT o)) (d.get (F.OUTn_FMT.LEVEL o)) (d.get (F.OUT_BANKb_STATUS.VDDO_LEVEL (o / 8))) with
  | none => false
  | some mx =>
    ranges && decide (num ≤ mx * den) &&
      (if fod then decide (1000 * den ≤ num) && decide (num ≤ 1250000000 * den) else decide (num ≤ 3450000000 * den))

/-- The limits against f_MS of the word in force, steering included (R27, R58). -/
def Dev.outLimitsNow (d : Dev) (o : Nat) : Bool := d.outLimits o (d.fMs (d.srcMs o))

/-- Whether an output's bypass source is good (R37, R71). -/
def Dev.bypassGood (d : Dev) (o : Nat) : Bool :=
  if d.bit (F.OUTn_BYPASS.BYP_TYPE o) then
    let r := d.get (F.OUTn_BYPASS.BYP_REF o)
    decide (d.get (F.REFn_STATUS.STATE r) = 3)
  else d.bit F.REF_OSC_STATUS.OSC_ACTIVE

/-- The nominal frequency of an output from its MS, in Hz as a fraction (R58 with STEER = 0). -/
def Dev.outNominal (d : Dev) (o : Nat) : Nat × Nat :=
  let f := (d.msWord (d.srcMs o)).vco d.fOsc
  (f.1 * (d.outRatio o).2, f.2 * (d.outRatio o).1)

end Sys2Proof.Machine
end

