-- ==== Sys2Proof/Machine/Edges.lean ====
section
/-! DEFINITION. Dividers, edges, levels and clocks of the outputs: the modulator of an MS (R29), the FOD with its falling edges and the DTC (R59, R60, R64),
the levels of the two pins (R61, R62), the nominal clocks of a switch (R71, R72) and the overshoot guard (R74, R75). -/

namespace Sys2Proof.Machine

/-! ### The modulator of an MS (R29) -/

/-- The accumulators of a MASH modulator and the carries its differences need. -/
structure Mash where
  a1  : Nat
  a2  : Nat
  a3  : Nat
  c2  : Nat
  c3  : Nat
  c3' : Nat
  deriving DecidableEq, Repr

/-- The order that MOD_ORDER selects: 0 none, 2 second, 3 third; 0b11 is taken as 0b10. -/
def mashOrder (code : Nat) : Nat :=
  match code with
  | 0 => 0 | 1 => 2 | _ => 3

/-- One PFD cycle of the modulator: the first stage adds N_FRAC and the dither, each further stage the accumulator before it, and the carries are combined so that
their noise is shaped (second order `c1 + c2 - c2'`, third `c1 + (c2 - c2') + (c3 - 2 c3' + c3'')`; PRESUMED, log 184). The first part is what is added to N_INT. -/
def Mash.next (order frac mod : Nat) (dither : Int) (m : Mash) : Int × Mash :=
  let s1 : Int := m.a1 + frac + dither
  let c1 := s1.fdiv mod
  let a1 := (s1.fmod mod).toNat
  let s2 := m.a2 + a1
  let c2 := s2 / mod
  let s3 := m.a3 + s2 % mod
  let c3 := s3 / mod
  let second : Int := (c2 : Int) - m.c2
  let third : Int := (c3 : Int) - 2 * m.c3 + m.c3'
  (match order with
    | 0 => 0
    | 2 => c1 + second
    | _ => c1 + second + third,
   ⟨a1, s2 % mod, s3 % mod, c2, c3, m.c3⟩)

/-- The dither of PFD cycle `k`: one LSB up and down in turn, so that every two consecutive cycles give 0; the sign it begins with is open
(DEDUCED, log 160). -/
def Dev.dither (d : Dev) (n k : Nat) : Int :=
  if !d.bit (F.MSn_CTRL.DITHER n) then 0 else if decide (k % 2 = 0) == (d.msOf n).ditherUp then 1 else -1

/-- The modulator of MSn after `k` PFD cycles of a constant word. -/
def Dev.mashAt (d : Dev) (n : Nat) : Nat → Mash
  | 0 => ⟨0, 0, 0, 0, 0, 0⟩
  | k + 1 => ((d.mashAt n k).next (mashOrder (d.get (F.MSn_CTRL.MOD_ORDER n))) (d.wordNow n).frac (d.wordNow n).mod (d.dither n k)).2

/-- The divide ratio of PFD cycle `k` (R29). -/
def Dev.divideRatio (d : Dev) (n k : Nat) : Int :=
  (d.wordNow n).nInt +
    ((d.mashAt n k).next (mashOrder (d.get (F.MSn_CTRL.MOD_ORDER n))) (d.wordNow n).frac (d.wordNow n).mod (d.dither n k)).1

/-! ### Edges of an output on its MS (R59, R60, R63, R64) -/

/-- One period of the FOD: the VCO cycles it counts, and its accumulator after it (R59). -/
def fodPeriod (int frac mod acc : Nat) : Nat × Nat :=
  if mod ≤ acc + frac then (int + 1, acc + frac - mod) else (int, acc + frac)

/-- VCO cycles counted in `k` periods from the first edge, and the accumulator after them (R59). -/
def fodAfter (int frac mod : Nat) : Nat → Nat × Nat
  | 0 => (0, 0)
  | k + 1 => let r := fodAfter int frac mod k
             let s := fodPeriod int frac mod r.2
             (r.1 + s.1, s.2)

/-- Half-period edge `h` after the first rising edge at PHASE = 0, in VCO periods over one denominator: rising edges where `h` is even, falling ones where it is odd, from
the half ratio over twice the modulus (R60); the delay of the applied phase is added to every one of them (R63, R64). -/
def Dev.edgePos (d : Dev) (o h : Nat) : Int × Nat :=
  let r := d.outRatio o
  ((h * r.1 * 2 ^ 64 : Nat) + d.shiftNow o * (2 * r.2 : Nat), 2 * r.2 * 2 ^ 64)

/-- Whole VCO cycles that are counted to an edge. When the phase carries the DTC past one VCO period, this number steps by one: one output period is a cycle
longer or shorter while the DTC wraps (R64). -/
def Dev.edgeCycles (d : Dev) (o h : Nat) : Int := (d.edgePos o h).1.fdiv (d.edgePos o h).2

/-- The DTC delay of an edge as a fraction of a VCO period, numerator over the denominator of `Dev.edgePos` (R59, R64). -/
def Dev.dtcDelay (d : Dev) (o h : Nat) : Int := (d.edgePos o h).1.fmod (d.edgePos o h).2

/-- Device time of half a period of a frequency in Hz: the nominal high time (R60). -/
def halfTime (f : Nat × Nat) : Nat := if f.1 = 0 then 0 else f.2 * 1000000000 * perNs / (2 * f.1)

/-- f_OUT in Hz as a fraction, with ramp and spread of its MS (R58, R52, R55). -/
def Dev.fOut (d : Dev) (o : Nat) : Nat × Nat :=
  let f := d.fVco (d.srcMs o)
  (f.1 * (d.outRatio o).2, f.2 * (d.outRatio o).1)

/-- VCO cycles since the first rising edge as it is delayed now, in 2^-64 of a cycle: every cycle counts as the VCO gave it, whatever its frequency is now (R59, R64, R74). -/
def Dev.outCycles (d : Dev) (o : Nat) : Int := d.vcoPhase (d.srcMs o) - (d.outOf o).edge0 - d.shiftNow o

/-- Half periods since the first rising edge: even while the clock is high, odd while it is low (R60). -/
def Dev.outHalves (d : Dev) (o : Nat) : Int :=
  let r := d.outRatio o
  (2 * d.outCycles o * r.2).fdiv (max 1 r.1 * 2 ^ 64 : Nat)

/-- Whether the clock of an ACTIVE output is high now. -/
def Dev.clockHigh (d : Dev) (o : Nat) : Bool := decide (0 ≤ d.outHalves o) && decide (d.outHalves o % 2 = 0)

/-- The instant of half-period edge `h`, as the frequency at `t` puts it. -/
def Dev.edgeFrom (d : Dev) (o : Nat) (h : Int) (t : Nat) : Nat :=
  let e := { d with now := t }
  let f := e.fVco (d.srcMs o)
  let r := d.outRatio o
  let left : Int := h * r.1 * 2 ^ 64 - 2 * e.outCycles o * r.2
  (t + -((-(left * f.2 * 1000000000 * perNs)).fdiv (2 * r.2 * 2 ^ 64 * max 1 f.1 : Nat))).toNat

/-- The instant of half-period edge `h`: what is left to it is divided by the frequency reached, so often that a ramp or spread no longer moves it
(DESIGN CHOICE, log 187). -/
def Dev.edgeTime (d : Dev) (o : Nat) (h : Int) : Nat := (List.range 4).foldl (fun t _ => d.edgeFrom o h t) d.now

/-- The last rising edge of the clock from the MS. -/
def Dev.lastRise (d : Dev) (o : Nat) : Nat := if d.outHalves o < 0 then d.now else d.edgeTime o (d.outHalves o - d.outHalves o % 2)

/-- The number of the next falling edge of the clock from the MS. -/
def Dev.nextFall (d : Dev) (o : Nat) : Int := let h := max (-1) (d.outHalves o); if h % 2 = 0 then h + 1 else h + 2

/-! ### Levels of the pins (R61, R62, Table 3-2) -/

/-- The level of a pin. -/
inductive Pin where
  | low | high | highZ
  deriving DecidableEq, Repr

/-- A level as a pin. -/
def Pin.of (b : Bool) : Pin := if b then .high else .low

/-- The N pin of LVCMOS for a level of P; 0b11 is taken as 0b10. -/
def lvcmosN (code : Nat) (p : Bool) : Pin :=
  match code with
  | 0 => .of !p | 1 => .of p | _ => .highZ

/-- P and N of a format with the clock high or low; a low clock is the idle state. None for a reserved format, which never starts. -/
def formatPins (format n : Nat) (p : Bool) : Option (Pin × Pin) :=
  match format with
  | 0 => some (.highZ, .highZ)
  | 1 => some (.of p, .of !p) | 2 => some (.of p, .of !p) | 3 => some (.of p, .of !p) | 4 => some (.of p, .of !p)
  | 5 => some (.of p, lvcmosN n p)
  | _ => none

/-- The two pins of an output: high impedance without a channel or with one only CREATED, idle while CONFIGURED, STOPPED, ARMED, PARKED or held in a switch,
else its clock, `byp` being the level of its bypass source; a level that the output stage holds comes before it (R72, R75). -/
def Dev.pins (d : Dev) (o : Nat) (byp : Bool) : Option (Pin × Pin) :=
  let x := d.outOf o
  let at' := formatPins (d.get (F.OUTn_FMT.FORMAT o)) (d.get (F.OUTn_FMT.LVCMOS_N o))
  let run (level : Bool) : Option (Pin × Pin) := match x.guard with
    | some g => if d.now < g.2 then at' g.1 else at' level
    | none => at' level
  if x.held then at' false
  else match x.sub with
  | .highZ => some (.highZ, .highZ)
  | .idle => at' false | .armed => at' false | .parked => run false
  | .active => run (d.clockHigh o)
  | .bypass => run byp

/-! ### Clocks of a switch and the guard (R71, R72, R74, R75) -/

/-- The nominal frequency of REFINr in Hz (R41; a denominator of 0 is taken as 1). -/
def Dev.refNom (d : Dev) (r : Nat) : Nat × Nat :=
  (d.get64 (R.REFn_NOM_LO r), max 1 (d.get (F.REFn_NOM_DEN.REF_NOM_DEN r)))

/-- The nominal frequency of an output's bypass source (R71): OSCIN over BYP_DIV, 0 meaning 1,024, or the REFIN. -/
def Dev.bypassNominal (d : Dev) (o : Nat) : Nat × Nat :=
  if d.bit (F.OUTn_BYPASS.BYP_TYPE o) then d.refNom (d.get (F.OUTn_BYPASS.BYP_REF o))
  else
    let v := d.get (F.OUTn_BYPASS.BYP_DIV o)
    (d.fOsc, if v = 0 then 1024 else v)

/-- The nominal clock that drives an output in a sub-state; none while it is idle. -/
def Dev.clockOf (d : Dev) (o : Nat) (s : OutSub) : Nat × Nat :=
  match s with
  | .active => d.outNominal o
  | .bypass => d.bypassNominal o
  | .highZ => (0, 1) | .idle => (0, 1) | .armed => (0, 1) | .parked => (0, 1)

/-- The longest a switch may take: T_old / 2 + 1.5 T_new (R72). -/
def Dev.switchBound (d : Dev) (o : Nat) (goal : OutSub) : Nat :=
  halfTime (d.clockOf o (d.outOf o).sub) + 3 * halfTime (d.clockOf o goal)

/-- The instant at which a clock without a falling edge is left: its nominal high time has passed since its last rising edge (R68, R72). -/
def Dev.highLimit (d : Dev) (o : Nat) : Nat :=
  let x := d.outOf o
  if x.held then x.heldAt + halfTime (d.clockOf o (x.goal.getD x.sub)) else x.riseAt + halfTime (d.clockOf o x.sub)

/-- The higher of two frequencies. -/
def freqMax (a b : Nat × Nat) : Nat × Nat := if a.1 * b.2 < b.1 * a.2 then b else a

/-- The nominal frequency of an output from its MS with its spread-spectrum peak (R75); during a ramp the higher of the frequencies at the start and the target
of the segment in progress. -/
def Dev.peakNominal (d : Dev) (o : Nat) : Nat × Nat :=
  let n := d.srcMs o
  let r := d.outRatio o
  let via (f : Nat × Nat) : Nat × Nat := (f.1 * r.2, f.2 * r.1)
  match (d.msOf n).ramp with
  | some p =>
    if p.profile then via ((d.swept n (d.msWord n)).2.1.toNat, (d.swept n (d.msWord n)).2.2)
    else
      let w := d.msWord n
      freqMax (via (({ w with nInt := p.start / w.mod, frac := p.start % w.mod } : MsWord).vco d.fOsc)) (via ((d.segTarget n p.seg).vco d.fOsc))
  | none => via ((d.swept n (d.msWord n)).2.1.toNat, (d.swept n (d.msWord n)).2.2)

/-- F_G of an output (R75): in a switch the higher of the two nominal frequencies, in the first period after a relock that of before as well. -/
def Dev.guardFreq (d : Dev) (o : Nat) : Nat × Nat :=
  let x := d.outOf o
  let of (s : OutSub) : Nat × Nat := if s = .active then d.peakNominal o else d.clockOf o s
  match x.goal with
  | some g => freqMax (of x.sub) (of g)
  | none => if d.now < x.edgeAt + 2 * halfTime (d.outNominal o) then freqMax x.before (of x.sub) else of x.sub

/-- Whether a half period in fs falls short of the minimum 1 / (2 × 1.005 × F_G) (R74, R75). -/
def Dev.guardShort (d : Dev) (o half : Nat) : Bool :=
  let g := d.guardFreq o
  decide (half * 2010 * g.1 < 1000 * 1000000000000000 * g.2)

end Sys2Proof.Machine
end

