-- ==== Sys2Proof/Machine/Switching.lean ====
section
/-! DEFINITION. How an output starts, stops and changes its clock (R37, R38, R58, R63, R66 to R68, R72, R73): every start, stop and switch falls on edges of the clocks. -/

namespace Sys2Proof.Machine

/-- BYPASS_ACTIVE of MSn: any of its outputs on bypass (R37). -/
def Dev.bypassFlag (d : Dev) (n : Nat) : Dev :=
  d.set (F.MSn_STATUS.BYPASS_ACTIVE n)
    (b2n ((d.fedBy n).any fun o => decide ((d.outOf o).sub = .bypass) || decide ((d.outOf o).goal = some .bypass)))

/-! ### Waiting for an edge -/

/-- A free duration from 0 to `m`. -/
def Dev.freeTime (d : Dev) (m : Nat) : Nat := d.freeVal 96 % (m + 1)

/-- The falling edge of the clock in use is waited for (R68, R72): of an MS it is known, the phase of a bypass source is free (DESIGN CHOICE, log 2). A clock that is low
is left at once where `atOnce` says so, else it is left at its next falling edge (DEDUCED, log 188). -/
def Dev.fallWait (d : Dev) (o : Nat) (atOnce : Bool) : Dev :=
  let x := d.outOf o
  match x.sub with
  | .active => d.setOut o { x with waitH := some (if atOnce && !d.clockHigh o then d.outHalves o else d.nextFall o), waitAt := none, riseAt := d.lastRise o }
  | .bypass =>
    let half := halfTime (d.clockOf o .bypass)
    let since := d.freeTime (2 * half - 1)
    let fall := if since < half then d.now - since + half else if atOnce then d.now else d.now - since + 3 * half
    d.fresh.setOut o { x with waitH := none, waitAt := some fall, riseAt := d.now - since }
  | .highZ | .idle | .armed | .parked => d.setOut o { x with waitH := none, waitAt := some d.now, riseAt := d.now }

/-- The output is held at idle, and waits for the first high pulse of the new clock after a falling edge of it (R72, steps 2 and 3). -/
def Dev.hold (d : Dev) (o : Nat) : Dev :=
  let x := { d.outOf o with held := true, heldAt := d.now }
  if x.goal = some .active then d.setOut o { x with waitH := some (d.nextFall o + 1), waitAt := none }
  else
    let half := halfTime (d.clockOf o (x.goal.getD .idle))
    d.fresh.setOut o { x with waitH := none, waitAt := some (d.now + d.freeTime (2 * half - 1) + half) }

/-- Whether the edge waited for has come. -/
def Dev.waited (d : Dev) (o : Nat) : Bool :=
  match (d.outOf o).waitH, (d.outOf o).waitAt with
  | some h, _ => decide (h ≤ d.outHalves o)
  | none, some t => decide (t ≤ d.now)
  | none, none => false

/-- Device time passes until that edge. -/
def Dev.toWait (d : Dev) (o : Nat) : Dev :=
  match (d.outOf o).waitH, (d.outOf o).waitAt with
  | some h, _ => d.till (d.edgeTime o h)
  | none, some t => d.till t
  | none, none => d

/-! ### Switches -/

/-- A glitch-free switch begins (R72). An output without a clock is at idle already. -/
def Dev.switchTo (d : Dev) (o : Nat) (goal : OutSub) : Dev :=
  let x := d.outOf o
  let d1 := d.setOut o { x with goal := some goal, switchAt := d.now }
  (if x.held || !(decide (x.sub = .active) || decide (x.sub = .bypass)) then d1.hold o else d1.fallWait o true).bypassFlag (d.srcMs o)

/-- An output leaves PARKED: its live condition ends (R280). -/
def Dev.unparkLive (d : Dev) (o : Nat) : Dev :=
  if (d.outOf o).sub = .parked then d.setLive (0x020 + o) false else d

/-- The switch in progress ends at a full high pulse of the new clock (R72, R73); a stop that has arrived meanwhile waits for the falling edge of the new clock (R68). -/
def Dev.switchOver (d : Dev) (o : Nat) : Dev :=
  let x := d.outOf o
  match x.goal with
  | none => d
  | some g =>
    let d1 := ((d.unparkLive o).setOut o { x with sub := g, goal := none, held := false, waitH := none, waitAt := none }).bypassFlag (d.srcMs o)
    let d2 := if g = .bypass ∧ x.sub ≠ .bypass then d1.raise (F.OUTn_EVENT2.BYPASS_ENTER o)
      else if g ≠ .bypass ∧ x.sub = .bypass then d1.raise (F.OUTn_EVENT2.BYPASS_EXIT o)
      else d1
    if x.st = .stopping then d2.fallWait o false else d2

/-- How long an output that parks keeps a high pulse in progress: to the falling edge of its clock, none where the clock is low (R72). -/
def Dev.parkTail (d : Dev) (o : Nat) : Option (Bool × Nat) :=
  let x := d.outOf o
  if x.held then none
  else match x.sub with
  | .active => if d.clockHigh o then some (true, min (d.edgeTime o (d.nextFall o)) (d.lastRise o + halfTime (d.clockOf o .active))) else none
  | .bypass =>
    let half := halfTime (d.clockOf o .bypass)
    let since := d.freeTime (2 * half - 1)
    if since < half then some (true, d.now - since + half) else none
  | .highZ | .idle | .armed | .parked => none

/-- An output parks (R37, R73); from BYPASS it leaves that sub-state. (DEDUCED, log 113) One that is PARKED already stays so, and only its switch ends. -/
def Dev.park (d : Dev) (o : Nat) : Dev :=
  let x := d.outOf o
  if x.sub = .parked then (d.setOut o { x with goal := none, held := false, waitH := none, waitAt := none }).bypassFlag (d.srcMs o)
  else
    let d0 := if x.sub = .bypass then d.fresh.raise (F.OUTn_EVENT2.BYPASS_EXIT o) else d
    let d1 := d0.setOut o { x with sub := .parked, goal := none, held := false, waitH := none, waitAt := none, guard := d.parkTail o }
    (((d1.raise (F.OUTn_EVENT2.PARKED o)).sendFault (0x020 + o) 0x01 .u 0).setLive (0x020 + o) true).bypassFlag (d.srcMs o)

/-- Loss of its MS: an ACTIVE output switches to its bypass source or parks; an ARMED one stays ARMED, and where its first edge was still to come it waits for the MS anew
(R37, R73; DEDUCED, log 189). -/
def Dev.outLoseMs (d : Dev) (o : Nat) : Dev :=
  let x := d.outOf o
  if x.st ≠ .running then d
  else if x.sub = .armed then (if x.first.isSome then d.setOut o { x with first := none, due := true, armAt := d.now } else d)
  else if x.sub = .active ∨ x.goal = some .active then
    if d.bypassGood o then d.switchTo o .bypass else d.park o
  else d

/-- A change of the bypass sources: an output on a source that failed parks, unless it is on its way back to its MS (R38); a parked one moves to a
source that is good (R37, R73). -/
def Dev.outSources (d : Dev) : Dev :=
  (List.range 32).foldl (fun d o =>
    let x := d.outOf o
    if x.st = .running ∧ ((x.sub = .bypass ∧ x.goal ≠ some .active) ∨ x.goal = some .bypass) ∧ !d.bypassGood o then d.park o
    else if x.st = .running ∧ x.sub = .parked ∧ x.goal = none ∧ d.bypassGood o then d.switchTo o .bypass
    else d) d

/-- Return of its MS, held for MS_SETTLE (R38, R73); a parked output begins with a full high pulse too. -/
def Dev.outReturn (d : Dev) (o : Nat) : Dev :=
  let x := d.outOf o
  if x.st ≠ .running ∨ !d.bit (F.OUTn_BYPASS.RETURN_AUTO o) then d
  else if x.sub = .parked ∨ x.sub = .bypass ∨ x.goal = some .bypass then d.switchTo o .active
  else d

/-! ### Starts -/

/-- The source MS is LOCKED, on, and has been for CH_SETTLE µs (R67). -/
def Dev.msReady (d : Dev) (o : Nat) : Bool :=
  let n := d.srcMs o
  d.bit (F.MSn_STATUS.LOCKED n) && d.passed? (d.msOf n).lockAt (d.get (F.OUTn_SETTLE.CH_SETTLE o) * usec)

/-- Device time passes until the source MS has been LOCKED for CH_SETTLE µs (R67). -/
def Dev.afterSettle (d : Dev) (o : Nat) : Dev :=
  if d.bit (F.MSn_STATUS.LOCKED (d.srcMs o)) then
    d.after (d.msOf (d.srcMs o)).lockAt (d.get (F.OUTn_SETTLE.CH_SETTLE o) * usec)
  else d

/-- The free values of the starts of MSn at this instant are set aside, once for all its channels (R67). -/
def Dev.startMark (d : Dev) (n : Nat) : Dev :=
  if (d.msOf n).startAt.any fun p => decide (p.1 = d.now) then d
  else { d.setMs n { d.msOf n with startAt := some (d.now, d.free) } with free := d.free + 37 }

/-- The start latency of Table 3-8, boundary K to the first rising edge at PHASE = 0, from 39.5 to 40.5 ns: one free value for an MS and a boundary, and within the skew of
80 ps a part for the bank and, of 30 ps, one for the output (DESIGN CHOICE, log 2). -/
def Dev.startLatency (d : Dev) (n o : Nat) : Nat :=
  let c := (((d.msOf n).startAt).map fun p => p.2).getD 0
  let part (i most : Nat) : Nat := (Config.freeBits 64 (c + i)).toNat % (most + 1)
  79 * perNs / 2 + part 0 (perNs - 80 * perNs / 1000) + part (1 + o / 8 % 4) (50 * perNs / 1000) + part (5 + o % 32) (30 * perNs / 1000)

/-- An ARMED channel is let start, at its boundary or with its MS ready: its first edge is placed, after a boundary by the start latency, and delayed by the live PHASE (R63, R67). Of a
PHASE that would place it in the past the first edge still ahead is taken (DEDUCED, log 190). -/
def Dev.chFirstEdge (d0 : Dev) (o : Nat) (late : Bool) (k : Nat) : Dev :=
  let n := d0.srcMs o
  let x := d0.outOf o
  let d := if x.armK.isSome then d0.startMark n else d0
  let base := d.now + if x.armK.isSome then d.startLatency n o else 0
  let t : Int := base + (d.phTarget o * perNs).fdiv 4000
  let period := max 1 (2 * halfTime (d.fOut o))
  let at' := if d.now ≤ t then t.toNat else (t + -((-(d.now - t : Int)).fdiv period) * period).toNat
  d.setOut o { x with first := some ⟨at', late, k⟩, applied := d.phTarget o, due := false }

/-- The first edge of a channel (R58, R63, R66, R67): it leaves ARMED for ACTIVE and its start completes; where the limits are broken it returns to CONFIGURED. -/
def Dev.chEmit (d : Dev) (o : Nat) : Dev :=
  let x := d.outOf o
  match x.first with
  | none => d
  | some z =>
    let e := { d with now := z.at' }
    let n := d.srcMs o
    let shift := e.unitsToCycles n x.applied
    if d.outLimitsNow o then
      let d1 := d.setCh o { x with sub := .active, slewAt := z.at', armK := none, due := false, first := none, edgeAt := z.at',
                                   edge0 := e.vcoPhase n - shift, shift := shift, shiftTo := x.applied, guard := none }
      let d2 := d1.raise (F.OUTn_EVENT.STARTED o)
      let d3 := if z.late then d2.raise (F.OUTn_EVENT.START_LATE o) else d2
      d3.finishWait (.chStart o) .ok (z.k % 2 ^ 32) (b2n z.late)
    else
      (d.setCh o { x with st := .configured, sub := .idle, armK := none, due := false, first := none }).finishWait (.chStart o) .range (z.k % 2 ^ 32) 0

/-- The first edge, once its instant has come. -/
def Dev.toFirst (d : Dev) (o : Nat) : Dev :=
  match (d.outOf o).first with
  | some z => (d.till z.at').chEmit o
  | none => d

/-- A channel is ARMED (R66, R67). -/
def Dev.chArm (d : Dev) (o : Nat) (k : Option Nat) : Dev :=
  d.setCh o { d.outOf o with st := .running, sub := .armed, armK := k, armAt := d.now, due := decide (k = none), first := none }

/-! ### Stops -/

/-- A command that ends an armed stop: whatever CH_STOP still names the channel has its stop (R68). -/
def Dev.dropStops (d : Dev) (o : Nat) : Dev := { d with armed := d.armed.filter fun a => a.op != .chStop o }

/-- The channel is STOPPED (R68): at its falling edge, or at once from ARMED and PARKED, then at boundary `k` where it is one (R233). Every CH_STOP of it that waits has what it asks for
(DESIGN CHOICE, log 159). -/
def Dev.chStoppedAt (d : Dev) (o k : Nat) : Dev :=
  let x := d.outOf o
  let armed := decide (x.sub = .armed)
  let d0 := (d.unparkLive o).setCh o
    { x with st := .stopped, sub := .idle, goal := none, held := false, stopReq := false, armK := none, due := false, first := none,
             waitH := none, waitAt := none, applied := d.phaseNow o, before := d.outNominal o }
  let d1 := (d0.raise (F.OUTn_EVENT.STOPPED o)).bypassFlag (d.srcMs o)
  let d2 := if x.sub = .bypass then d1.raise (F.OUTn_EVENT2.BYPASS_EXIT o) else d1
  let d3 := if armed then d2.finishWait (.chStart o) .state (k % 2 ^ 32) 0 else d2
  (d3.dropStops o).finishOwn (.chStop o) .ok

/-- The same at no boundary. -/
def Dev.chStopped (d : Dev) (o : Nat) : Dev := d.chStoppedAt o 0

/-- CH_STOP takes effect, at boundary `k` where it is one (R68): at once from ARMED and PARKED, else at the next falling edge of the clock in use, after a switch in progress of the new one. -/
def Dev.chStopK (d : Dev) (o k : Nat) : Dev :=
  let x := d.outOf o
  if x.st ≠ .running then d
  else if x.sub = .armed ∨ x.sub = .parked then d.chStoppedAt o k
  else
    let d1 := d.setCh o { x with st := .stopping, stopReq := true, switchAt := if x.goal.isSome then x.switchAt else d.now }
    if x.goal.isSome then d1 else d1.fallWait o false

/-- The same at no boundary. -/
def Dev.chStop (d : Dev) (o : Nat) : Dev := d.chStopK o 0

/-- A CH_STOP at its boundary (R68); where the channel runs no longer, it completes with STATE, as it would at execution (DESIGN CHOICE, log 159). -/
def Dev.chStopAt (d : Dev) (o k : Nat) : Dev :=
  let st := (d.outOf o).st
  if st = .running ∨ st = .stopping then d.chStopK o k
  else (d.cmd.inProgress.filter fun t => decide (t.wait = .chStop o) && decide (t.detail = k)).foldl (fun d t => d.finish t .state 0 k) d

/-! ### What the clocks bring with them -/

/-- What the edges that have passed have brought to an output: its first edge, its stop, or the next stage of its switch. -/
def Dev.outEdge (d : Dev) (o : Nat) : Dev :=
  let x := d.outOf o
  if x.first.any fun z => decide (z.at' ≤ d.now) then d.chEmit o
  else if x.goal.isSome then (if d.waited o then (if x.held then d.switchOver o else d.hold o) else d)
  else if decide (x.st = .stopping) && d.waited o then d.chStopped o
  else d

/-- The same of every output, a switch with both of its stages. -/
def Dev.outWatch (d : Dev) : Dev :=
  d.outs.keys.foldl (fun d o => ((d.outEdge o).outEdge o).outEdge o) d

end Sys2Proof.Machine
end

