-- ==== Sys2Proof/Machine/Channels.lean ====
section
/-! DEFINITION. Synthesis channels: the commands of Table 3-7 and what the outputs do by themselves (R58 to R76). -/

namespace Sys2Proof.Machine

/-- OUTn_STATUS. -/
def Dev.outStatus (d : Dev) (o : Nat) : Nat :=
  let x := d.outOf o
  x.st.code + x.sub.code * 16 + b2n (decide (d.phaseNow o ≠ d.phTarget o)) * 128 + b2n (x.goal.isSome) * 256 +
    d.gen 1 o * 65536

/-- A word of block OUTn at relative offset `rel`, as a 32-bit read returns it (R63, R246). -/
def Dev.outWord (d : Dev) (o rel : Nat) : Word :=
  if rel = 0x40 then BitVec.ofNat 32 (d.outStatus o)
  else if rel = 0x48 then BitVec.ofNat 32 (wrapN 48 (d.phaseNow o))
  else if rel = 0x4C then BitVec.ofNat 32 (wrapN 48 (d.phaseNow o) / 2 ^ 32)
  else d.pendWord (0x20000 + o * 0x400 + rel)

/-- The channel of an output is FREE. -/
def Dev.chFree (d : Dev) (o : Nat) : Bool := decide ((d.outOf o).st = .free)

/-- The lowest index below `n` that is free (R243). -/
def lowestFree (n : Nat) (free : Nat → Bool) : Option Nat := (List.range n).find? free

/-- CH_CREATE (R65, R69, R243). -/
def chCreateSpec : CmdSpec where
  opcode := 0x0100
  params := [pu 1 8]
  checks := fun c d => [(.range, decide (32 ≤ c.p 0 ∧ c.p 0 ≠ 0xFF)),
    (.noResource, if c.p 0 = 0xFF then (lowestFree 32 d.chFree).isNone else !d.chFree (c.p 0))]
  run := fun c _ d =>
    let o := if c.p 0 = 0xFF then (lowestFree 32 d.chFree).getD 0 else c.p 0
    (d.setCh o { OutCh.reset with st := .created }, .ok (d.handle 1 o) 0)

/-- CH_DESTROY (R69): a stop that is still armed for the channel goes with it. -/
def chDestroySpec : CmdSpec where
  opcode := 0x0101
  ty := 1
  isFree := Dev.chFree
  checks := fun c d => [(.state, (d.outOf c.idx).st.moving)]
  run := fun c _ d => ((((d.setCh c.idx OutCh.reset).dropStops c.idx).bumpGen 1 c.idx).endStale c.handle, .ok 0 0)

/-- The settings of CH_CONFIG, parameters in the order of Table 10-5: PHASE, PH_SLEW and CH_SETTLE are buffered single changes, the others act at once
(R70, Table 3-3); the command waits for none of them (DESIGN CHOICE, log 161). -/
def Dev.chSettings (d : Dev) (o : Nat) (c : Cmd) : Dev :=
  let d := d.set (F.OUTn_CTRL.SRC_MS o) (c.p 0)
  let d := d.set (F.OUTn_CTRL.PATH o) (c.p 1)
  let d := d.set (F.OUTn_FMT.FORMAT o) (c.p 2)
  let d := d.set (F.OUTn_FMT.LEVEL o) (c.p 3)
  let d := d.set (F.OUTn_FMT.LVCMOS_N o) (c.p 4)
  let d := d.set (F.OUTn_BYPASS.BYP_TYPE o) (c.p 5)
  let d := d.set (F.OUTn_BYPASS.BYP_REF o) (c.p 6)
  let d := d.set (F.OUTn_BYPASS.RETURN_AUTO o) (c.p 7)
  let d := d.set (F.OUTn_DIV.DIV o) (c.p 8)
  let d := d.set (F.OUTn_BYPASS.BYP_DIV o) (c.p 9)
  let d := d.set (F.OUTn_FOD_INT.D_INT o) (c.p 12)
  let d := d.set64 (R.OUTn_FOD_FRAC_LO o) (c.p 13)
  let d := d.set64 (R.OUTn_FOD_MOD_LO o) (c.p 14)
  let settle := chg (F.OUTn_SETTLE.CH_SETTLE o) (c.p 11)
  let late := chg64 (R.OUTn_PHASE_LO o) (c.p 15 % 2 ^ 48) ++ [chg (F.OUTn_PH_SLEW.PH_SLEW o) (c.p 10), settle]
  (late.foldl Dev.pendChange d).arrive [⟨.phase o (c.p 15 % 2 ^ 48) (some (c.p 10)) none, none⟩, ⟨settle, none⟩]

/-- CH_CONFIG (R58, R65, R70). (DEDUCED, log 113) -/
def chConfigSpec : CmdSpec where
  opcode := 0x0102
  ty := 1
  isFree := Dev.chFree
  params := [pu 1 2, pu 1 1, pu 1 3, pu 1 2, pu 1 2, pu 1 1, pu 1 3, pu 1 1, pu 2 16, pu 2 10, pu 2 12, pu 2 16, pu 4 24, pu 8 48, pu 8 48, ps 8 48]
  checks := fun c d => [(.state, (d.outOf c.idx).st.moving),
    (.range, decide (c.p 8 < 4) || decide (c.p 12 < 8) || decide (modOf (c.p 14) ≤ c.p 13))]
  run := fun c _ d =>
    let o := c.idx
    let d1 := d.chSettings o c
    (d1.setCh o { d1.outOf o with st := .configured, sub := .idle }, .ok 0 0)

/-- The checks of a start (R58, R61, R65, R67, R369). -/
def Dev.chStartChecks (d : Dev) (o k : Nat) : List (Status × Bool) :=
  let st := (d.outOf o).st
  [(.state, !(decide (st = .configured) || decide (st = .stopped)) || !d.domainOn (14 + o / 8) || (decide (k ≠ 0) && !d.tick.running)),
   (.range, !d.outLimitsNow o),
   (.deadline, decide (k ≠ 0) && d.tooNear k)]

/-- A start accepted: the channel is ARMED, for boundary `k` where that is not 0 (R67). -/
def Dev.chStartGo (d : Dev) (o k : Nat) : Dev :=
  if k = 0 then d.chArm o none else (d.chArm o (some k)).arm k (.chStart o) none

/-- CH_START (R67). -/
def chStartSpec : CmdSpec where
  opcode := 0x0103
  ty := 1
  isFree := Dev.chFree
  params := [pu 8 64]
  checks := fun c d => d.chStartChecks c.idx (c.p 0)
  waits := fun _ _ => true
  run := fun c _ d => (d.chStartGo c.idx (c.p 0), .wait (.chStart c.idx) 0 0)

/-- CH_STOP (R68). -/
def chStopSpec : CmdSpec where
  opcode := 0x0104
  ty := 1
  isFree := Dev.chFree
  params := [pu 8 64]
  checks := fun c d => [(.state, decide ((d.outOf c.idx).st ≠ .running) || (decide (c.p 0 ≠ 0) && !d.tick.running)),
    (.deadline, decide (c.p 0 ≠ 0) && d.tooNear (c.p 0))]
  waits := fun c d => decide (c.p 0 ≠ 0) || !(decide ((d.outOf c.idx).sub = .armed) || decide ((d.outOf c.idx).sub = .parked))
  run := fun c _ d =>
    let o := c.idx
    if c.p 0 ≠ 0 then (d.arm (c.p 0) (.chStop o) none, .wait (.chStop o) 0 (c.p 0))
    else if (d.outOf o).sub = .armed ∨ (d.outOf o).sub = .parked then (d.chStop o, .ok 0 0)
    else (d.chStop o, .wait (.chStop o) 0 0)

/-- The target that CH_PHASE names: absolute, or relative to the last target written (R63). -/
def Dev.phaseGoal (d : Dev) (c : Cmd) : Int :=
  if c.flag 0 then
    signedN 48 ((d.pendWord (R.OUTn_PHASE_LO c.idx)).toNat + 2 ^ 32 * (d.pendWord (R.OUTn_PHASE_HI c.idx)).toNat) + c.sp 0 64
  else c.sp 0 64

/-- CH_PHASE (R63, R64): an absolute PHASE and a relative one are both a value of the field's 48 bits (R232). -/
def chPhaseSpec : CmdSpec where
  opcode := 0x0105
  flagMask := 3
  ty := 1
  isFree := Dev.chFree
  params := [ps 8 48, pu 2 12]
  checks := fun c d =>
    let st := (d.outOf c.idx).st
    let g := d.phaseGoal c
    [(.state, !(decide (st = .configured) || decide (st = .stopped) || decide (st = .running))),
     (.range, decide (g < -(2 ^ 47)) || decide (2 ^ 47 ≤ g))]
  waits := fun _ d => d.tick.running
  run := fun c cid d =>
    let o := c.idx
    let g := wrapN 48 (d.phaseGoal c)
    let p1 := (chg64 (R.OUTn_PHASE_LO o) g).foldl Dev.pendChange d
    let p2 := if c.flag 1 then p1.pendChange (chg (F.OUTn_PH_SLEW.PH_SLEW o) (c.p 1)) else p1
    (p2.arrive [⟨.phase o g (if c.flag 1 then some (c.p 1) else none) (some cid), none⟩], .wait .live 0 0)

/-- CH_STATUS (R246, Table 10-6). -/
def chStatusSpec : CmdSpec where
  opcode := 0x0106
  ty := 1
  isFree := Dev.chFree
  params := [pu 8 64]
  hostAddr := some 0
  run := fun c _ d =>
    let o := c.idx
    d.toHost c (c.p 0) ((List.range 22).flatMap fun i => leBytes 4 (d.outWord o (4 * i)).toNat)
      (.ok (d.outStatus o) (wrapN 48 (d.phaseNow o)))

/-- CH_QUERY (R65). -/
def chQuerySpec : CmdSpec where
  opcode := 0x0107
  params := [pu 1 8]
  checks := fun c _ => [(.range, decide (32 ≤ c.p 0))]
  run := fun c _ d => (d, .ok (if d.chFree (c.p 0) then 0 else d.handle 1 (c.p 0)) 0)

def chCreate (src : Source) (d : Dev) : Dev := d.command chCreateSpec src none
def chDestroy (src : Source) (d : Dev) : Dev := d.command chDestroySpec src none
def chConfig (src : Source) (d : Dev) : Dev := d.command chConfigSpec src none
def chStart (src : Source) (d : Dev) : Dev := d.command chStartSpec src none
def chStop (src : Source) (d : Dev) : Dev := d.command chStopSpec src none
def chPhase (src : Source) (d : Dev) : Dev := d.command chPhaseSpec src none
def chStatus (src : Source) (dmaOk : Bool) (d : Dev) : Dev := d.command chStatusSpec src (dmaOf dmaOk)
def chQuery (src : Source) (d : Dev) : Dev := d.command chQuerySpec src none

/-! ### What the outputs do by themselves -/

/-- BYPASS_SWITCH_DONE: a switch completes at the new clock's edges: the falling edge of the old clock, then a falling edge of the new one and its next rising edge (R72, R73). -/
def bypassSwitchDone (o : Nat) (d : Dev) : Dev :=
  let x := d.outOf o
  if x.goal = none then d
  else
    let d1 := if x.held then d else (d.toWait o).hold o
    (d1.toWait o).switchOver o

/-- HIGH_TIME_LIMIT: a clock shows no falling edge within its nominal high time, and the output is taken to idle (R72): the old clock of a switch, or the
clock that drives a stopping output, after a switch the new one (R68). -/
def highTimeLimit (o : Nat) (d : Dev) : Dev :=
  let x := d.outOf o
  if x.goal.isSome ∧ !x.held then (d.till (d.highLimit o)).hold o
  else if x.st = .stopping then (d.till (d.highLimit o)).chStopped o
  else d

/-- The minimum of a half period in fs, 1 / (2 × 1.005 × F_G), rounded up (R75). -/
def Dev.guardMin (d : Dev) (o : Nat) : Nat :=
  let g := d.guardFreq o
  (1000 * 1000000000000000 * g.2 + 2010 * g.1 - 1) / max 1 (2010 * g.1)

/-- GUARD: an edge that would end a half period of `half` fs earlier than the minimum is delayed to the minimum, counted and reported (R75): until then the output keeps the level that it has,
of a bypass source a free one. The pulses of a REFIN that is passed through are left alone but for the switch itself. -/
def outGuard (o half : Nat) (d : Dev) : Dev :=
  let x := d.outOf o
  let passing : Bool := decide (x.sub = .bypass) && d.bit (F.OUTn_BYPASS.BYP_TYPE o) && x.goal.isNone
  if x.st.moving ∧ (x.sub = .active ∨ x.sub = .bypass ∨ x.goal.isSome) ∧ !passing ∧ d.guardShort o half then
    let level : Bool := match x.sub with
      | .active => d.clockHigh o
      | .bypass => decide (d.freeVal 1 = 1)
      | .highZ | .idle | .armed | .parked => false
    let d1 := d.fresh.setOut o { x with guard := some (level, d.now + (d.guardMin o - half) * perNs / 1000000) }
    ((d1.count (R.OUTn_GUARD_COUNT o) 1).raise (F.OUTn_EVENT.GUARD o)).sendFault (0x020 + o) 0x02 .c 0
  else d

/-- CHANNEL_START: a channel armed with K = 0 starts once its MS is ready, with its first edge at PHASE (R63, R67); one that has been let start already gives its first edge. -/
def channelStart (o : Nat) (d : Dev) : Dev :=
  let x := d.outOf o
  let t := d.afterSettle o
  if x.st = .running ∧ x.sub = .armed then
    if x.first.isSome then d.toFirst o
    else if x.armK = none ∧ t.msReady o then (t.chFirstEdge o false 0).toFirst o else d
  else d

/-- CH_START_TIMEOUT: the MS is not ready within 10 ms of boundary K, or of execution with K = 0 (R67). -/
def chStartTimeout (o : Nat) (d : Dev) : Dev :=
  let x := d.outOf o
  let t := d.till (x.armAt + 10 * msec)
  if x.st = .running ∧ x.sub = .armed ∧ x.due ∧ !t.msReady o then
    (t.setCh o { x with st := .configured, sub := .idle, armK := none, due := false }).finishWait (.chStart o) .timeout 0 0
  else d

/-- CHANNEL_STOPPED: the stopping output reaches its falling edge, on the new clock after a switch in progress (R68). -/
def channelStopped (o : Nat) (d : Dev) : Dev :=
  let x := d.outOf o
  if x.st = .stopping ∧ x.goal = none then (d.toWait o).chStopped o else d

/-- PHASE_SLEW_DONE: the applied phase reaches its target exactly and stays there (R63). -/
def phaseSlewDone (o : Nat) (d : Dev) : Dev :=
  let x := d.outOf o
  let left := (d.phTarget o - x.applied).natAbs
  if x.st.moving ∧ x.sub ≠ .armed then (d.till (x.slewAt + (left * usec + d.phSlew o - 1) / d.phSlew o)).phaseRebase o else d

/-- An armed start at its boundary (R67, R137): with the MS ready the channel starts; else it waits, late from then on. -/
def Dev.chStartAt (d : Dev) (o k : Nat) : Dev :=
  let x := d.outOf o
  if x.st = .running ∧ x.sub = .armed ∧ x.armK = some k then
    if d.msReady o then d.chFirstEdge o false k else d.setOut o { x with due := true, armAt := d.now }
  else d

/-- The late starts of a boundary: channels whose boundary has passed and whose MS has become ready (R67). -/
def Dev.chLateStarts (d : Dev) (k : Nat) : Dev :=
  (List.range 32).foldl (fun d o =>
    let x := d.outOf o
    match x.armK with
    | some a => if x.st = .running ∧ x.sub = .armed ∧ x.first = none ∧ a < k ∧ d.msReady o then d.chFirstEdge o true k else d
    | none => d) d

end Sys2Proof.Machine
end

