-- ==== Sys2Proof/Machine/Calibration.lean ====
section
/-! DEFINITION. Calibration (R78 to R98): runs and their stages, triggers and preconditions, the quality figure, the save slots. -/

namespace Sys2Proof.Machine

/-- The calibration engine of MSn beside its registers. -/
def Dev.calOf (d : Dev) (n : Nat) : CalMs := Tbl.getD d.cal.ms n CalMs.reset

/-- That engine replaced. -/
def Dev.setCal (d : Dev) (n : Nat) (c : CalMs) : Dev := { d with cal := { d.cal with ms := Tbl.put d.cal.ms n c } }

/-- A run on MSn is in progress. -/
def Dev.calRunning (d : Dev) (n : Nat) : Bool := d.bit (F.CALn_STATUS.RUNNING n)

/-- The first precondition of a run: MSn is LOCKED (R86). -/
def Dev.calLock (d : Dev) (n : Nat) : Bool := d.bit (F.MSn_STATUS.LOCKED n)

/-- The second: its DPLL is disabled, or has a reference and is not in HOLDOVER (R86). -/
def Dev.calRef (d : Dev) (n : Nat) : Bool :=
  !d.bit (F.MSn_DPLL_CTRL.DPLL_EN n) || (d.bit (F.MSn_DPLL_STATUS.CUR_REF_VALID n) && decide (d.get (F.MSn_DPLL_STATUS.STATE n) ≠ 3))

/-- The preconditions of a run (R86). -/
def Dev.calPre (d : Dev) (n : Nat) : Bool := d.calLock n && d.calRef n

/-- The first boundary at which a run may start: the next one outside the apply window (R87); where no tick runs, the first of all. -/
def Dev.calFrom (d : Dev) : Nat := if d.tick.running then d.nextOpen else 0

/-- The CAL record (Table 13-2). -/
def Dev.calEvent (d : Dev) (n kind stage : Nat) : Dev :=
  d.eventLimited 0x040 [(1, n), (1, kind), (1, stage), (1, 0), (4, (d.word (R.CALn_QUALITY n)).toNat)]

/-- TRIGGER and DEFERRED as shown. -/
def Dev.calShow (d : Dev) (n trigger deferred : Nat) : Dev :=
  (d.set (F.CALn_STATUS.TRIGGER n) trigger).set (F.CALn_STATUS.DEFERRED n) deferred

/-- An automatic trigger (R84, R85, R87): discarded while a run is in progress or pending, deferred while the preconditions are unmet. -/
def Dev.calTrigger (d : Dev) (n trigger : Nat) : Dev :=
  if d.calRunning n || (d.calOf n).pending.isSome then d
  else if d.calPre n then
    (d.setCal n { d.calOf n with pending := some ⟨trigger, 15, some d.calFrom⟩ }).calShow n trigger 0
  else
    let d1 := (d.setCal n { d.calOf n with pending := some ⟨trigger, 15, none⟩ }).calShow n trigger 1
    ((d1.count (R.CALn_DEFER_COUNT n) 1).raise (F.CALn_EVENT.DEFERRED n)).calEvent n 0 0

/-- Updates of a stage (Table 4-3). -/
def stageUpdates (s : Nat) : Nat :=
  match s with
  | 1 => 64 | 2 => 96 | 3 => 128 | _ => 112

/-- Output `o` is ACTIVE (R83). -/
def Dev.chActive (d : Dev) (o : Nat) : Bool := decide ((d.outOf o).sub = .active) && decide ((d.outOf o).st = .running)

/-- The outputs that take part in the DTC stage: fed by MSn and ACTIVE (R83). -/
def Dev.calParts (d : Dev) (n : Nat) : List Nat :=
  (d.fedBy n).filter d.chActive

/-- The first stage from `s` on that a run executes (R82, R83). -/
def Dev.stageFrom (d : Dev) (n mask s : Nat) : Option Nat :=
  [1, 2, 3, 4].find? fun x => decide (s ≤ x) && mask.testBit (x - 1) &&
    !(decide (x = 3) && decide (d.get (F.MSn_CTRL.MOD_ORDER n) = 0)) && !(decide (x = 4) && (d.calParts n).isEmpty)

/-- A free reading of `w` bits put into a field (DESIGN CHOICE, log 2). -/
def Dev.measure (d : Dev) (f : Fld) : Dev := (d.set f (d.freeVal f.len)).fresh

/-- The end of a run (R88 to R91): result, quality, counters, event, and the CAL_RUN that waits. RESID, SPUR and DTC_RESID are measured: free
values; SPUR is 0 on an integer word and only there. Of a run that began with its preconditions unmet and was then aborted the status is PARTIAL (DESIGN CHOICE, log 196). -/
def Dev.calEnd (d : Dev) (n : Nat) (aborted : Bool) : Dev :=
  let c := d.calOf n
  let stage := d.get (F.CALn_STATUS.STAGE n)
  let d1 := d.measure (F.CALn_QUALITY.RESID n)
  let d2 := if d.get64 (R.MSn_NFRAC_LO n) = 0 then d1.set (F.CALn_QUALITY.SPUR n) 0 else (d1.set (F.CALn_QUALITY.SPUR n) (1 + d1.freeVal 8 % 255)).fresh
  let d3 := c.took.foldl (fun d o => d.measure (F.CAL_DTCm_RESID.DTC_RESID o)) d2
  let d4 := d3.set (F.CALn_RESULT.CAL_PRECOND_UNMET n) (b2n c.unmet)
  let d5 := d4.set (F.CALn_RESULT.PRECOND_LOST n) (b2n c.lost)
  let d6 := d5.set (F.CALn_RESULT.ABORTED n) (b2n aborted)
  let d7 := d6.set (F.CALn_RESULT.TRIGGER n) (d.get (F.CALn_STATUS.TRIGGER n))
  let d8 := d7.set (F.CALn_RESULT.STAGES_RUN n) c.stages
  let d9 := (d8.setWord (R.CALn_STATUS n) 0).count (R.CALn_RUN_COUNT n) 1
  let d10 := d9.setCal n { c with parts := [], took := [], staged := none, late := none, samples := 0, sums := [], skip := false, abortK := none, done := 0 }
  let d11 := if aborted then d10.raise (F.CALn_EVENT.RUN_ABORTED n) else d10.raise (F.CALn_EVENT.RUN_DONE n)
  let st : Status := if aborted then .partialDone else if c.unmet then .precond else .ok
  (d11.calEvent n (if aborted then 4 else 3) stage).finishWait (.cal n) st (d11.word (R.CALn_QUALITY n)).toNat 0

/-- A pending run is cancelled (R87); a HOST run that had not started ends its CAL_RUN as an aborted one. -/
def Dev.calCancel (d : Dev) (n : Nat) : Dev :=
  if (d.calOf n).pending.isSome then
    (((d.setCal n { d.calOf n with pending := none }).calShow n 0 0).calEvent n 4 0).finishWait (.cal n) .partialDone
      (d.word (R.CALn_QUALITY n)).toNat 0
  else d

/-- MS_STOP of its MS: a run ends at once, a pending one is cancelled (R87, R90). A start that times out does neither, and a HOST run goes on. -/
def Dev.calMsStopped (d : Dev) (n : Nat) : Dev :=
  if d.calRunning n then d.calEnd n true else d.calCancel n

/-- A stage begins, or the run ends where no stage is left (R82, R83). -/
def Dev.calStage (d : Dev) (n s : Nat) : Dev :=
  let c := d.calOf n
  let dtc (x : Nat) := if x = 4 then d.calParts n else []
  match d.stageFrom n c.mask s with
  | some x =>
    (d.set (F.CALn_STATUS.STAGE n) x).setCal n
      { c with done := 0, samples := 0, sums := [], skip := false, staged := none, late := none, stages := c.stages ||| 2 ^ (x - 1), parts := dtc x, took := dtc x }
  | none => d.calEnd n false

/-- A run starts at a boundary (R84, R86 to R88). An automatic run has passed its check; preconditions that have failed since are lost in it (DEDUCED, log 147). -/
def Dev.calStart (d : Dev) (n : Nat) (p : CalPend) : Dev :=
  let auto : Bool := decide (p.trigger ≠ 3)
  let pre := d.calPre n || auto
  let c := { d.calOf n with pending := none, mask := p.mask, done := 0, samples := 0, sums := [], skip := false, staged := none, late := none, parts := [], took := [], since := d.now,
                            unmet := !pre, lockOk := d.calLock n || auto, refOk := d.calRef n || auto, lost := false, stages := 0, abortK := none, ranOnce := true }
  let d1 := ((d.setCal n c).calShow n p.trigger 0).set (F.CALn_STATUS.RUNNING n) 1
  let d2 := d1.set (F.CALn_LAST_TEMP.LAST_TEMP n) (d.get (F.TEMPn.TEMP n))
  let d3 := if pre then d2 else (d2.raise (F.CALn_EVENT.PRECOND_UNMET n)).calEvent n 1 0
  d3.calStage n 1

/-! ### What the coefficients do (R78) -/

/-- The coefficients that the loop of an MS works with at this instant: TDC gain, KDCO in 1/256 Hz per fine-code LSB, two-point gain. -/
structure LoopCoeffs where
  tdc      : Nat
  kdco     : Nat
  twoPoint : Nat
  deriving DecidableEq, Repr

/-- KDCO of the band in use: the CAL entry if it is VALID, else the estimate of the band table (R78). -/
def Dev.kdcoUsed (d : Dev) (n : Nat) : Nat :=
  let b := d.get (F.MSn_STATUS.BAND n)
  if d.bit (F.CALn_KDCO.VALID n b) then d.get (F.CALn_KDCO.KDCO_CAL n b) else 256 * d.get (F.BAND_KDCO.KDCO n b)

/-- Those coefficients (R78, Table 4-1). -/
def Dev.loopCoeffs (d : Dev) (n : Nat) : LoopCoeffs :=
  ⟨d.get (F.CALn_TDC_GAIN.TDC_GAIN n), d.kdcoUsed n, d.get (F.CALn_TWOPT.TWOPT n)⟩

/-- The phase error that the loop takes from a TDC reading: the reading times the TDC gain (R78); rounded down (DESIGN CHOICE, log 197). -/
def Dev.tdcError (d : Dev) (n : Nat) (reading : Int) : Int := (reading * (d.loopCoeffs n).tdc).fdiv (2 ^ 22)

/-- The step of the fine code that changes f_VCO by `hz`, and the part of it that the direct path of the two-point modulation injects (R78); rounded down (DESIGN CHOICE, log 197). -/
def Dev.fineStep (d : Dev) (n : Nat) (hz : Int) : Int := (hz * 256).fdiv (max 1 (d.loopCoeffs n).kdco : Nat)
def Dev.directStep (d : Dev) (n : Nat) (hz : Int) : Int := (d.fineStep n hz * (d.loopCoeffs n).twoPoint).fdiv (2 ^ 22)

/-- A coefficient after one update: changed as the update asks, by at most 2^-8 of its value (R79). -/
def Dev.calStep (d : Dev) (f : Fld) (step : Int) : Dev :=
  let v := d.get f
  let most : Int := (v / 256 : Nat)
  d.set f (min (2 ^ f.len - 1) (v + max (-most) (min most step)).toNat)

/-- The coefficients of a stage updated by the steps of an update (Table 4-3, R81, R83). The first update of a KDCO entry starts from the band table (Table 4-1). -/
def Dev.calApply (d : Dev) (n s : Nat) (steps : List (Nat × Int)) : Dev :=
  let one := Tbl.getD steps 0 0
  match s with
  | 1 => d.calStep (F.CALn_TDC_GAIN.TDC_GAIN n) one
  | 2 =>
    let b := d.get (F.MSn_STATUS.BAND n)
    let d1 := d.set (F.CALn_KDCO.KDCO_CAL n b) (min (2 ^ 24 - 1) (d.kdcoUsed n))
    (d1.calStep (F.CALn_KDCO.KDCO_CAL n b) one).set (F.CALn_KDCO.VALID n b) 1
  | 3 => d.calStep (F.CALn_TWOPT.TWOPT n) one
  | _ => (d.calOf n).parts.foldl (fun d o => d.calStep (F.CAL_DTCm_GAIN.DTC_GAIN o) (Tbl.getD steps o 0)) d

/-- The rate of samples of the stage in progress in Hz as a fraction (R79): PFD comparisons, or in the DTC stage the rising edges of the slowest output that takes part
(DESIGN CHOICE, log 168). -/
def Dev.sampleRate (d : Dev) (n : Nat) : Nat × Nat :=
  if d.get (F.CALn_STATUS.STAGE n) = 4 then
    match (d.calOf n).parts with
    | [] => (0, 1)
    | o :: r => r.foldl (fun m o => let f := d.fOut o; if f.1 * m.2 < m.1 * f.2 then f else m) (d.fOut o)
  else (d.msWord n).pfd d.fOsc

/-- The samples of a duration in 2^-16 ns (R79). -/
def Dev.samplesIn (d : Dev) (n dur : Nat) : Nat := let r := d.sampleRate n; dur * r.1 / (65536 * 1000000000 * max 1 r.2)

/-- A calibration window closes after `win` 2^-16 ns: its samples are counted (R79, R80), unless an update that was late discards them (R80). -/
def Dev.calWindow (d : Dev) (win : Nat) : Dev :=
  [0, 1, 2, 3].foldl (fun d n =>
    if d.calRunning n && !(d.calOf n).skip then d.setCal n { d.calOf n with samples := (d.calOf n).samples + d.samplesIn n win } else d) d

/-! ### The probe (R82) -/

/-- A calibration window opens: the signs of the probes in it are free (R82; DESIGN CHOICE, log 2). -/
def Dev.calOpen (d : Dev) : Dev :=
  [0, 1, 2, 3].foldl (fun d n => if d.calRunning n then d.fresh.setCal n { d.calOf n with probe := d.free } else d) d

/-- One value of a probe of `m` values whose first `i` sum to `s`: one LSB up or down as a free sign says, but back toward zero once that is needed for the sum of all to be zero; of an
odd number the last value is 0 (DESIGN CHOICE, log 198). -/
def probeStep (signs m i : Nat) (s : Int) : Int :=
  let left := m - m % 2 - i
  if left = 0 then 0 else if s.natAbs = left then (if 0 < s then -1 else 1) else if signs.testBit i then 1 else -1

/-- The sum of the first `i` values. -/
def probeSum (signs m : Nat) : Nat → Int
  | 0 => 0
  | i + 1 => probeSum signs m i + probeStep signs m i (probeSum signs m i)

/-- The number of samples in the window of this tick, and of those so far (R79). -/
def Dev.windowAll (d : Dev) (n : Nat) : Nat := d.samplesIn n (d.tick.num / d.tick.den - 250 * 65536 - d.pubOff)
def Dev.windowSoFar (d : Dev) (n : Nat) : Nat := d.samplesIn n (d.tod16 - (d.tick.bound + d.pubOff))

/-- The probe at this instant: pseudo-random, ±1 LSB, only in the calibration window (R82). -/
def Dev.probeNow (d : Dev) (n : Nat) : Int :=
  if d.calRunning n && d.tickLive && decide (d.tick.phase = 3) then
    let m := d.windowAll n
    let i := d.windowSoFar n
    let signs := (Config.freeBits (m + 1) (d.calOf n).probe).toNat
    probeStep signs m i (probeSum signs m i)
  else 0

/-- What the probe adds to the fine code of MSn: in integer mode, in the TDC gain and the KDCO stage (R82, Table 4-1). -/
def Dev.fineProbe (d : Dev) (n : Nat) : Int :=
  let s := d.get (F.CALn_STATUS.STAGE n)
  if d.get (F.MSn_CTRL.MOD_ORDER n) = 0 ∧ (s = 1 ∨ s = 2) then d.probeNow n else 0

/-- What it adds to the DTC code of an output: on the integer path, in the DTC stage (R82, Table 4-1). -/
def Dev.dtcProbe (d : Dev) (o : Nat) : Int :=
  let n := d.srcMs o
  if d.get (F.CALn_STATUS.STAGE n) = 4 ∧ (d.calOf n).parts.contains o ∧ !d.bit (F.OUTn_CTRL.PATH o) then d.probeNow n else 0

/-- The DTC code of an edge: its delay in steps of 250 fs times the DTC gain of the output (R59, R63, R78), with the probe; rounded to nearest (DESIGN CHOICE, log 197). -/
def Dev.dtcCode (d : Dev) (o h : Nat) : Int :=
  let f := d.fVco (d.srcMs o)
  roundDiv (d.dtcDelay o h * (f.2 * 4000000000000 * d.get (F.CAL_DTCm_GAIN.DTC_GAIN o) : Nat)) ((d.edgePos o h).2 * max 1 f.1 * 2 ^ 22) + d.dtcProbe o

/-! ### Boundaries -/

/-- Calibration of MSn at boundary `k`: a DTC stage in which no output takes part any more ends (R83; DEDUCED, log 147); an abort, the computed update made live, the next stage, the end, or a start (R79, R82, R87, R90). -/
def Dev.calBoundary (d : Dev) (k n : Nat) : Dev :=
  let c := d.calOf n
  if d.calRunning n then
    if c.abortK.any (fun a => decide (a ≤ k)) then d.calEnd n true
    else if d.get (F.CALn_STATUS.STAGE n) = 4 ∧ c.parts = [] then d.calStage n 5
    else match c.staged with
    | some steps =>
      let s := d.get (F.CALn_STATUS.STAGE n)
      let d2 := (d.calApply n s steps).set (F.CALn_STATUS.UPDATES n) (min 65535 (d.get (F.CALn_STATUS.UPDATES n) + 1))
      if stageUpdates s ≤ c.done + 1 then d2.calStage n (s + 1)
      else d2.setCal n { d2.calOf n with done := c.done + 1, staged := c.late, late := none, skip := false }
    | none => d.setCal n { c with staged := c.late, late := none }
  else match c.pending with
    | some p => if p.ready.any (fun a => decide (a ≤ k)) then d.calStart n p else d
    | none => d

/-- After a GAP miss nothing becomes live: an update that was computed in the apply window waits, like the others, for the coming boundary (Table 6-3, R135). -/
def Dev.calPass (d : Dev) (n : Nat) : Dev :=
  let c := d.calOf n
  if c.staged.isNone && c.late.isSome then d.setCal n { c with staged := c.late, late := none } else d

/-- Outputs that have left ACTIVE no longer take part in a DTC stage (R83). -/
def Dev.calDropParts (d : Dev) (n : Nat) : Dev :=
  let c := d.calOf n
  if d.calRunning n && !c.parts.all d.chActive then d.setCal n { c with parts := c.parts.filter d.chActive } else d

/-- A precondition, either of the two, fails while a run is in progress (R89). -/
def Dev.calWatchPre (d : Dev) (n : Nat) : Dev :=
  let c := d.calOf n
  if d.calRunning n ∧ (c.lockOk ≠ d.calLock n ∨ c.refOk ≠ d.calRef n) then
    let lost := (c.lockOk && !d.calLock n) || (c.refOk && !d.calRef n)
    let d1 := d.setCal n { c with lockOk := d.calLock n, refOk := d.calRef n, lost := c.lost || lost }
    if lost ∧ !c.lost then d1.calEvent n 2 (d.get (F.CALn_STATUS.STAGE n)) else d1
  else d

/-- What a run in progress on MSn watches (R83, R89). -/
def Dev.calWatch (d : Dev) (n : Nat) : Dev := (d.calDropParts n).calWatchPre n

/-- HALT ends a run without a result (R90). -/
def Dev.calHalt (d : Dev) : Dev :=
  [0, 1, 2, 3].foldl (fun d n => (d.setWord (R.CALn_STATUS n) 0).setCal n { d.calOf n with pending := none, samples := 0, sums := [], skip := false, staged := none, late := none, parts := [], took := [] }) d

/-! ### Rows -/

/-- Sums of e × q by coefficient, with more of them added (R79). -/
def addSums (a b : List (Nat × Int)) : List (Nat × Int) := b.foldl (fun t x => Tbl.put t x.1 (Tbl.getD t x.1 0 + x.2)) a

/-- The steps of an update, - μ × Σ(e × q) / count for each coefficient, rounded down (R79; DESIGN CHOICE, log 185). -/
def lmsSteps (sums : List (Nat × Int)) (count : Nat) : List (Nat × Int) :=
  sums.map fun x => (x.1, -(((Config.calMu.toNat : Int) * x.2).fdiv (2 ^ 32 * max 1 count : Nat)))

/-- CAL_UPDATE: what the correlators give for the windows that have closed is accumulated, and with 1,024 samples firmware computes an LMS update after the window has closed and
writes it to the pending copy (R79, R80). Inside the apply window it is deferred like any change (R136). In the next tick it is late: the window before the boundary at which it becomes live is
discarded (R80; DEDUCED, log 169). The products of the analogue error signal with the residue are an operand (DESIGN CHOICE, log 185). -/
def calUpdate (n : Nat) (sums : List (Nat × Int)) (d : Dev) : Dev :=
  let c := d.calOf n
  if d.firmwareRuns ∧ d.calRunning n ∧ d.tickLive ∧ d.tick.phase ≠ 3 then
    let all := addSums c.sums sums
    if c.samples < 1024 ∨ (if d.tick.phase = 4 then c.late.isSome else c.staged.isSome) then d.setCal n { c with sums := all }
    else
      let steps := lmsSteps all c.samples
      if d.tick.phase = 4 then (d.setCal n { c with late := some steps, samples := 0, sums := [] }).count R.TICK_APPLY_DEFER_COUNT 1
      else d.setCal n { c with staged := some steps, samples := 0, sums := [], skip := true }
  else d

/-- TEMP_TRIGGER: the 1 ms comparison of the sensor of MSn with CALn_LAST_TEMP (R84). -/
def tempTrigger (n : Nat) (d : Dev) : Dev :=
  let t := signedN 16 (d.get (F.TEMPn.TEMP n))
  let l := signedN 16 (d.get (F.CALn_LAST_TEMP.LAST_TEMP n))
  let dl := min 320 (max 8 (d.get F.CAL_TEMP_DELTA.TEMP_DELTA))
  if d.firmwareRuns ∧ (d.get F.CAL_CTRL.AUTO_TEMP_EN).testBit n ∧ d.bit (F.TEMPn.VALID n) ∧ (d.calOf n).ranOnce ∧ dl < (t - l).natAbs then d.calTrigger n 2
  else d

/-- PRECOND_CHECK: the 1 ms re-check of a deferred run (R87). -/
def precondCheck (n : Nat) (d : Dev) : Dev :=
  match (d.calOf n).pending with
  | some p =>
    if d.firmwareRuns ∧ p.ready.isNone ∧ d.calPre n then (d.setCal n { d.calOf n with pending := some { p with ready := some d.calFrom } }) else d
  | none => d

/-- CAL_RUN_TIMEOUT: a run still in progress 4.0 s after its start (R90). -/
def calRunTimeout (n : Nat) (d : Dev) : Dev :=
  if d.calRunning n then (d.till ((d.calOf n).since + 4000 * msec)).calEnd n true else d

/-! ### Save slots -/

/-- The offsets of the words a slot holds, in the order of Table 4-5: band tables, KDCO, per MS, per output. -/
def slotBand (n : Nat) : List Nat := (List.range 64).flatMap fun i => (List.range 4).map fun j => R.BAND_CAP n i + 4 * j
def slotKdco : List Nat := [0, 1, 2, 3].flatMap fun n => (List.range 64).map fun b => R.CALn_KDCO n b
def slotGains (n : Nat) : List Nat := [R.CALn_TDC_GAIN n, R.CALn_TWOPT n]
def slotDtc : List Nat := (List.range 32).map fun m => R.CAL_DTCm_GAIN m

/-- The words of the DTC of every output, with their residuals. -/
def slotDtcAll : List Nat := (List.range 32).flatMap fun m => [R.CAL_DTCm_GAIN m, R.CAL_DTCm_RESID m]

/-- What start-up loads: band tables, coefficients, CALn_LAST_TEMP, and the residuals, whose reset value firmware gives (R96, R11). -/
def slotBoot : List Nat :=
  ([0, 1, 2, 3].flatMap slotBand) ++ slotKdco ++ ([0, 1, 2, 3].flatMap fun n => slotGains n ++ [R.CALn_LAST_TEMP n]) ++ slotDtcAll

/-- Every offset a slot saves. -/
def slotAll : List Nat :=
  ([0, 1, 2, 3].flatMap slotBand) ++ slotKdco ++
    ([0, 1, 2, 3].flatMap fun n => slotGains n ++ [R.CALn_QUALITY n, R.CALn_LAST_TEMP n]) ++
    slotDtcAll

/-- The bytes 0x0000 to 0x155F of a slot (Table 4-5), little-endian (R9). -/
def CalSlot.body (s : CalSlot) : List Byte :=
  let w (off : Nat) := leBytes 4 (Tbl.getD s.words off 0).toNat
  let h (off : Nat) := leBytes 2 (Tbl.getD s.words off 0).toNat ++ leBytes 2 0
  let head := [0x54, 0x55, 0x43, 0x53] ++ leBytes 4 s.format ++ leBytes 4 s.gen ++ leBytes 4 s.pcc ++ leBytes 8 s.optime ++ leBytes 8 0
  head ++ (([0, 1, 2, 3].flatMap slotBand).flatMap w) ++ (slotKdco.flatMap w) ++
    ([0, 1, 2, 3].flatMap fun n => w (R.CALn_TDC_GAIN n) ++ w (R.CALn_TWOPT n) ++ w (R.CALn_QUALITY n) ++ h (R.CALn_LAST_TEMP n)) ++
    ((List.range 32).flatMap fun m => w (R.CAL_DTCm_GAIN m) ++ h (R.CAL_DTCm_RESID m))

/-- The image of a slot: body, CRC, MARK (Table 4-5). -/
def CalSlot.image (s : CalSlot) : List Byte := s.body ++ leBytes 4 s.crc ++ [s.mark]

/-- Whether a slot is valid: MARK reads 0x5A, FORMAT is 1 and CRC matches (R93). -/
def CalSlot.valid (s : CalSlot) : Bool := decide (s.mark = 0x5A) && decide (s.format = 1) && decide (s.crc = crc32 s.body)

/-- A slot that is valid (R93). -/
def Dev.validSlot (d : Dev) (i : Nat) : Option CalSlot := (Tbl.get? d.cal.slots i).filter CalSlot.valid

/-- The validity and generation bits of the slots (CAL_SAVE_STATUS, CAL_SLOT_A_GEN, CAL_SLOT_B_GEN). -/
def Dev.slotShow (d : Dev) : Dev :=
  let a := d.validSlot 0
  let b := d.validSlot 1
  let ga : Nat := (a.map fun s => s.gen).getD 0
  let gb : Nat := (b.map fun s => s.gen).getD 0
  let d := d.set F.CAL_SAVE_STATUS.SLOT_A_VALID (b2n a.isSome)
  let d := d.set F.CAL_SAVE_STATUS.SLOT_B_VALID (b2n b.isSome)
  let d := d.set F.CAL_SAVE_STATUS.NEWEST (b2n (b.isSome && decide (ga < gb)))
  (d.setWord R.CAL_SLOT_A_GEN (BitVec.ofNat 32 ga)).setWord R.CAL_SLOT_B_GEN (BitVec.ofNat 32 gb)

/-- The newest valid slot (R93). -/
def Dev.newestSlot (d : Dev) : Option Nat :=
  match d.validSlot 0, d.validSlot 1 with
  | some a, some b => if a.gen < b.gen then some 1 else some 0
  | some _, none => some 0
  | none, some _ => some 1
  | none, none => none

/-- A snapshot of the values of Table 4-5 (R94), with MARK as erased. -/
def Dev.slotSnap (d : Dev) (gen : Nat) : CalSlot :=
  let s : CalSlot := ⟨1, gen, d.evt.pcc, d.optime, (slotAll.foldl (fun t off => Tbl.put t off (d.word off)) ([] : Tbl Word)), 0, 0xFF⟩
  { s with crc := crc32 s.body }

/-- The save takes its snapshot, erases its target slot and programs all of it but MARK (R94, steps 1 to 3). -/
def Dev.saveSnap (d : Dev) : Dev :=
  match d.cal.save with
  | some s =>
    if s.snap.isNone then
      let x := d.slotSnap s.gen
      let d1 := ((d.flashErase (flashSave s.slot)).flashErase (flashSave s.slot + 0x1000)).flashProgram (flashSave s.slot) (x.image.take 0x1564)
      { d1 with cal := { d.cal with save := some { s with snap := some x }, slots := Tbl.put d.cal.slots s.slot x } }.slotShow
    else d
  | none => d

/-- A save ends in failure: the target slot stays invalid (R94). -/
def Dev.saveFail (d : Dev) : Dev :=
  match d.cal.save with
  | some s =>
    let d1 := ({ d with cal := { d.cal with save := none } }.set F.CAL_SAVE_STATUS.SAVE_BUSY 0).sendFault 0x005 0x01 .c (s.slot + 1)
    d1.finishWait .save .internal 0 0
  | none => d

/-- CAL_SAVE_COMPLETE: the read-back matches, MARK is programmed and the slot is valid; or step 4 fails (R94). -/
def calSaveComplete (readBackOk : Bool) (d : Dev) : Dev :=
  match d.cal.save with
  | some s =>
    match s.snap with
    | some x =>
      if readBackOk then
        let d0 := (d.flashRead (flashSave s.slot) 0x1564).flashProgram (flashSave s.slot + 0x1564) [0x5A]
        let d1 := { d0 with cal := { d.cal with save := none, slots := Tbl.put d.cal.slots s.slot { x with mark := 0x5A } } }.slotShow
        (d1.set F.CAL_SAVE_STATUS.SAVE_BUSY 0).finishWait .save .ok s.gen 0
      else d.saveFail
    | none => d
  | none => d

/-- FLASH_TIMEOUT: an erase or program operation exceeds twice its maximum time (R94). -/
def flashTimeout (d : Dev) : Dev :=
  match d.cal.save with
  | some s => if s.snap.isSome then d.saveFail else d
  | none => d

/-- A reset during a save ends it: the target stays without MARK, so it is not valid (R95). -/
def Dev.saveLost (d : Dev) : Dev := { d with cal := { d.cal with save := none } }.set F.CAL_SAVE_STATUS.SAVE_BUSY 0

/-! ### Commands -/

/-- Whether a run is in progress on any MS. -/
def Dev.calAny (d : Dev) : Bool := [0, 1, 2, 3].any d.calRunning

/-- CAL_RUN (R84 to R90). While a HOST run waits to start, another answers BUSY (DESIGN CHOICE, log 195). -/
def calRunSpec : CmdSpec where
  opcode := 0x0700
  params := [pu 1 8, pu 1 4]
  checks := fun c d =>
    let n := c.p 0
    let hostPending := (d.calOf n).pending.any fun p => decide (p.trigger = 3)
    [(.range, decide (4 ≤ n)), (.state, decide (n < 4) && !d.bit (F.MSn_CTRL.EN n)),
     (.busy, decide (n < 4) && (d.calRunning n || hostPending))]
  waits := fun _ _ => true
  run := fun c _ d =>
    let n := c.p 0
    let mask := if c.p 1 = 0 then 15 else c.p 1
    ((d.setCal n { d.calOf n with pending := some ⟨3, mask, some d.calFrom⟩ }).calShow n 3 0, .wait (.cal n) 0 0)

/-- CAL_ABORT (R87, R90). -/
def calAbortSpec : CmdSpec where
  opcode := 0x0701
  params := [pu 1 8]
  checks := fun c d => [(.range, decide (4 ≤ c.p 0)),
    (.state, decide (c.p 0 < 4) && !d.calRunning (c.p 0) && (d.calOf (c.p 0)).pending.isNone)]
  run := fun c _ d =>
    let n := c.p 0
    if d.calRunning n then
      if d.tick.running then (d.setCal n { d.calOf n with abortK := some d.nextOpen }, .ok 0 0) else (d.calEnd n true, .ok 0 0)
    else (d.calCancel n, .ok 0 0)

/-- CAL_STATUS (R98). -/
def calStatusSpec : CmdSpec where
  opcode := 0x0702
  params := [pu 1 8]
  checks := fun c _ => [(.range, decide (4 ≤ c.p 0))]
  run := fun c _ d =>
    let n := c.p 0
    (d, .ok (d.word (R.CALn_STATUS n)).toNat ((d.word (R.CALn_RESULT n)).toNat + 2 ^ 32 * (d.word (R.CALn_QUALITY n)).toNat))

/-- CAL_SAVE (R94). -/
def calSaveSpec : CmdSpec where
  opcode := 0x0710
  checks := fun _ d => [(.busy, d.calAny || d.cal.save.isSome)]
  waits := fun _ _ => true
  run := fun _ _ d =>
    let slot := match d.newestSlot with | some s => 1 - s | none => 0
    let top := max (((d.validSlot 0).map (·.gen)).getD 0) (((d.validSlot 1).map (·.gen)).getD 0)
    let d1 := { d with cal := { d.cal with save := some ⟨slot, top + 1, none⟩ } }.set F.CAL_SAVE_STATUS.SAVE_BUSY 1
    (if d.tick.running then d1 else d1.saveSnap, .wait .save 0 0)

/-- The slot that CAL_RESTORE names. -/
def Dev.restoreSlot (d : Dev) (s : Nat) : Option CalSlot :=
  match s with
  | 0 => d.newestSlot.bind d.validSlot
  | n + 1 => d.validSlot n

/-- Words of a slot written at once. -/
def Dev.slotWrite (d : Dev) (s : CalSlot) (offs : List Nat) : Dev :=
  offs.foldl (fun d off => d.setWord off (Tbl.getD s.words off 0)) d

/-- The coefficient words that a restore makes live at a boundary (R92, R97). -/
def restoreOffs : List Nat :=
  slotKdco ++ ([0, 1, 2, 3].flatMap fun n => slotGains n ++ [R.CALn_LAST_TEMP n]) ++ slotDtc

/-- CAL_RESTORE (R97). -/
def calRestoreSpec : CmdSpec where
  opcode := 0x0711
  params := [pu 1 8]
  checks := fun c d => [(.range, decide (2 < c.p 0)), (.busy, d.calAny || d.cal.save.isSome)]
  run := fun c _ d =>
    match d.restoreSlot (c.p 0) with
    | none => (d, .done .precond 0 0 false)
    | some s =>
      let on := [0, 1, 2, 3].filter fun n => d.bit (F.MSn_CTRL.EN n)
      let off := [0, 1, 2, 3].filter fun n => !d.bit (F.MSn_CTRL.EN n)
      let d1 := d.slotWrite s (off.flatMap slotBand)
      let d2 := d1.arrive (restoreOffs.map fun o => ⟨.word o (BitVec.allOnes 32) (Tbl.getD s.words o 0), none⟩)
      let mask := on.foldl (fun m n => m + 2 ^ n) 0
      (d2, if mask = 0 then .ok s.gen 0 else .done .partialDone s.gen mask false)

/-- CAL_SLOT_INFO (R98). -/
def calSlotInfoSpec : CmdSpec where
  opcode := 0x0712
  params := [pu 1 8]
  checks := fun c _ => [(.range, decide (c.p 0 = 0) || decide (2 < c.p 0))]
  run := fun c _ d =>
    match d.validSlot (c.p 0 - 1) with
    | none => (d, .done .precond 0 0 false)
    | some s => (d, .ok s.gen (s.optime % 2 ^ 44 + s.pcc % 2 ^ 20 * 2 ^ 44))

def calRun (src : Source) (d : Dev) : Dev := d.command calRunSpec src none
def calAbort (src : Source) (d : Dev) : Dev := d.command calAbortSpec src none
def calStatus (src : Source) (d : Dev) : Dev := d.command calStatusSpec src none
def calSave (src : Source) (d : Dev) : Dev := d.command calSaveSpec src none
def calRestore (src : Source) (d : Dev) : Dev := d.command calRestoreSpec src none
def calSlotInfo (src : Source) (d : Dev) : Dev := d.command calSlotInfoSpec src none

/-- Coefficients loaded during BOOT from the newest valid slot, or nominal (R96). -/
def Dev.calBoot (d : Dev) : Dev :=
  let d0 := ((d.flashRead (flashSave 0) 0x1565).flashRead (flashSave 1) 0x1565).slotShow
  match d.newestSlot with
  | some x =>
    match d.validSlot x with
    | some s => (d0.slotWrite s slotBoot).set F.CAL_SAVE_STATUS.LOADED (x + 1)
    | none => d0
  | none =>
    let one : Word := 0x400000#32
    let d1 := [0, 1, 2, 3].foldl (fun d n =>
      ((((List.range 64).foldl (fun d i => (d.set (F.BAND_CAP.VALID n i) 0).set (F.CALn_KDCO.VALID n i) 0) d).setWord (R.CALn_TDC_GAIN n) one).setWord
        (R.CALn_TWOPT n) one)) d0
    (List.range 32).foldl (fun d m => d.setWord (R.CAL_DTCm_GAIN m) one) (d1.set F.CAL_SAVE_STATUS.LOADED 0)

end Sys2Proof.Machine
end

