-- ==== Sys2Proof/Machine/MasterSynth.lean ====
section
/-! DEFINITION. Master synthesisers: lock, loss and return of an MS, band surveys, the ramp generator and the commands of Table 2-6a
that act on an MS (R27 to R40, R52 to R56). -/

namespace Sys2Proof.Machine

/-- The source number of MSn (Table 12-2). -/
def msSource (n : Nat) : Nat := 0x010 + n

/-- The band in use (MSn_STATUS.BAND). -/
def Dev.band (d : Dev) (n : Nat) : Nat := d.get (F.MSn_STATUS.BAND n)

/-- The live bit of MSn: its lock is lost, or its steering is limited (R280). -/
def Dev.msLive (d : Dev) (n : Nat) : Dev :=
  d.setLive (msSource n) ((d.msOf n).lost || d.bit (F.MSn_DPLL_STATUS.STEER_LIMITED n))

/-! ### The reference DPLL -/

/-- Whether REFINr is VALID (R42). -/
def Dev.refValid (d : Dev) (r : Nat) : Bool := decide (d.get (F.REFn_STATUS.STATE r) = 3)

/-- The monitor of REFINr beside its registers. -/
def Dev.refOf (d : Dev) (r : Nat) : RefMon := Tbl.getD d.refs r RefMon.reset

/-- That monitor replaced. -/
def Dev.setRef (d : Dev) (r : Nat) (m : RefMon) : Dev := { d with refs := Tbl.put d.refs r m }

/-- PRIO_r of MSn (R43). -/
def Dev.refPrio (d : Dev) (n r : Nat) : Nat := bitsOf (d.word (R.MSn_DPLL_PRIO n)).toNat (4 * r) 4

/-- The VALID input of highest priority that passes a test, lowest number first (R43). -/
def Dev.bestRef (d : Dev) (n : Nat) (p : Nat → Bool) : Option Nat :=
  ((List.range 8).filter fun r => d.refValid r && decide (d.refPrio n r ≠ 0) && p r).foldl (fun best r =>
    match best with
    | none => some r
    | some a => if d.refPrio n r < d.refPrio n a then some r else some a) none

/-- The current reference of a DPLL. -/
def Dev.curRef (d : Dev) (n : Nat) : Option Nat :=
  if d.bit (F.MSn_DPLL_STATUS.CUR_REF_VALID n) then some (d.get (F.MSn_DPLL_STATUS.CUR_REF n)) else none

/-- The reference that selection gives (R43, R44); a current one whose priority has become 0 is excluded like any other. -/
def Dev.chooseRef (d : Dev) (n : Nat) : Option Nat :=
  match d.get (F.MSn_DPLL_CTRL.SEL_MODE n) with
  | 0 =>
    let r := d.get (F.MSn_DPLL_CTRL.MANUAL_REF n)
    if d.refValid r then some r else none
  | m =>
    match d.curRef n with
    | some r =>
      if d.refValid r ∧ d.refPrio n r ≠ 0 then
        if m = 2 then
          let hold := d.get (F.MSn_DPLL_LIMITS.REVERT_HOLD n) * 1000 * msec
          match d.bestRef n fun x => decide (d.refPrio n x < d.refPrio n r) && d.passed (d.refOf x).validAt hold with
          | some b => some b
          | none => some r
        else some r
      else d.bestRef n fun _ => true
    | none => d.bestRef n fun _ => true

/-- The comparison divisor: the smallest integer that brings the rate to 1 MHz or below (R46). -/
def cmpDivisor (nom : Nat × Nat) : Nat :=
  max 1 ((nom.1 + nom.2 * 1000000 - 1) / (nom.2 * 1000000))

/-- Device time of `c` comparisons with reference `r` (R46). -/
def Dev.cmpTime (d : Dev) (r c : Nat) : Nat :=
  let f := d.refNom r
  if f.1 = 0 then 0 else c * cmpDivisor f * f.2 * 1000000000 * perNs / f.1

/-- The expected number of VCO cycles per comparison with reference `r`, as an exact fraction, from the frequency word without a ramp in progress, which is removed from the
compared phase (R46). -/
def Dev.cmpCycles (d : Dev) (n r : Nat) : Nat × Nat :=
  let f := (d.steadyWord n).vco d.fOsc
  let g := d.refNom r
  (f.1 * cmpDivisor g * g.2, f.2 * g.1)

/-- The phase error of a comparison, in 2^-16 ns: what is measured against the cycles expected up to it, without the known excursions of ramps and spread (R46). -/
def Dev.dpllError (d : Dev) (n : Nat) (measured : Int) : Int := measured - d.excursion n

/-- Whether a bandwidth in mHz exceeds a tenth of the comparison rate (R47). -/
def Dev.bwAbove (d : Dev) (r bw : Nat) : Bool :=
  let f := d.refNom r
  decide (f.1 * 1000 < bw * 10 * cmpDivisor f * f.2)

/-- STEER_LIMIT in units of STEER, 2^-48, up to 195,312 × 0.01 ppm (R48); a larger setting is taken as that (DESIGN CHOICE, log 162). -/
def Dev.steerMax (d : Dev) (n : Nat) : Nat := min 195312 (d.get (F.MSn_DPLL_LIMITS.STEER_LIMIT n)) * 2 ^ 48 / 100000000

/-- A value held within a symmetric limit. -/
def clampTo (m : Nat) (v : Int) : Int := max (-(m : Int)) (min m v)

/-- AVG_TIME in device time (R50). -/
def Dev.avgTime (d : Dev) (n : Nat) : Nat := d.get (F.MSn_HOLD_CFG.AVG_TIME n) * 1000 * msec

/-- The entries of a steering log, newest first, up to the one in force at `since`. -/
def steersFrom (since : Nat) (l : List (Nat × Int)) : List (Nat × Int) :=
  match l with
  | [] => []
  | x :: r => if x.1 ≤ since then [x] else x :: steersFrom since r

/-- STEER written, within its limit, and noted with its instant (R27, R48, R50). -/
def Dev.setSteer (d : Dev) (n : Nat) (v : Int) : Dev :=
  let c := clampTo (d.steerMax n) v
  let d := d.vcoMark n
  let m := d.msOf n
  (d.setMs n { m with steers := steersFrom (d.now - 65535 * 1000 * msec) ((d.now, c) :: m.steers) }).set64 (R.MSn_STEER_LO n) (wrapN 40 c)

/-- The sum of STEER times its duration from `since` to `till`; before the oldest entry STEER was 0 (R11, R27). -/
def steerSum (since : Nat) (till : Nat) (l : List (Nat × Int)) : Int :=
  match l with
  | [] => 0
  | x :: r => if x.1 ≤ since then x.2 * (till - since : Nat) else x.2 * (till - x.1 : Nat) + steerSum since (min till x.1) r

/-- The mean STEER over the last AVG_TIME seconds (R50); over no time it is the present one. -/
def Dev.steerMean (d : Dev) (n : Nat) : Int :=
  let since := d.now - d.avgTime n
  if d.now = since then d.steer n else roundDiv (steerSum since d.now (d.msOf n).steers) (d.now - since)

/-- A steering word that the loop computes from analogue phase: a free value within the limit (DESIGN CHOICE, log 2). -/
def Dev.steerFree (d : Dev) (n : Nat) : Dev :=
  (d.setSteer n (signedN 40 (d.freeVal 40))).fresh

/-- The temperature of the holdover model in 1/16 °C: the die sensor next to OSCIN, or the board temperature (R49, R336). -/
def Dev.holdTemp (d : Dev) (n : Nat) : Int :=
  if d.bit (F.MSn_HOLD_TEMP.EXT_EN n) && !(d.msOf n).extOld then signedN 16 (d.get (F.MSn_HOLD_EXT_TEMP.EXT_TEMP n))
  else signedN 16 (d.get (F.TEMPn.TEMP 4))

/-- The prediction y(T, t) in 2^-48 (R49, R50), over the common denominator 2^24 days; the quadratic term is held at the nearest edge of the
learned span beyond 2.0 °C outside it. -/
def Dev.predict (d : Dev) (n : Nat) : Int :=
  let m := d.msOf n
  let t := d.holdTemp n
  let ref := signedN 16 (d.get (F.MSn_HOLD_TEMP.T_REF n))
  let tq := if t < m.tempLo - 32 then m.tempLo else if m.tempHi + 32 < t then m.tempHi else t
  let a0 := signedN 48 (d.get64 (R.MSn_HOLD_A0_LO n))
  let a1 := signedN 48 (d.get64 (R.MSn_HOLD_A1_LO n))
  let a2 := signedN 48 (d.get64 (R.MSn_HOLD_A2_LO n))
  let dd := signedN 48 (d.get64 (R.MSn_HOLD_D_LO n))
  let day : Nat := 86400 * 1000 * msec
  let age : Int := (d.now - m.learnAt : Nat)
  roundDiv ((a0 * 2 ^ 20 + a1 * (t - ref) * 2 ^ 8 + a2 * (tq - ref) * (tq - ref)) * day + dd * age * 2 ^ 8) (2 ^ 20 * day)

/-- Whether the temperature lies more than 2.0 °C outside the span learned (R50). -/
def Dev.extrapolates (d : Dev) (n : Nat) : Bool :=
  let m := d.msOf n
  let t := d.holdTemp n
  decide (t < m.tempLo - 32) || decide (m.tempHi + 32 < t)

/-- A correction is set, held at the limit where it needs more: that sets STEER_LIMITED, and is an event and a fault (R48). `again` tells that it is
reported even where STEER is held there already. -/
def Dev.steerTo (d : Dev) (n : Nat) (v : Int) (again : Bool) : Dev :=
  let beyond : Bool := decide (d.steerMax n < v.natAbs)
  let was := d.bit (F.MSn_DPLL_STATUS.STEER_LIMITED n)
  let d1 := (d.setSteer n v).set (F.MSn_DPLL_STATUS.STEER_LIMITED n) (b2n beyond)
  let d2 := if beyond ∧ (again ∨ !was) then (d1.raise (F.MSn_EVENT.STEER_LIMIT n)).sendFault (msSource n) 0x02 .c (d.band n) else d1
  d2.msLive n

/-- STEER in holdover with a model: what cancels the prediction, limited by R48 (R50). -/
def Dev.holdSteer (d : Dev) (n : Nat) : Dev :=
  if d.bit (F.MSn_DPLL_STATUS.MODEL_VALID n) then
    (d.steerTo n (-(d.predict n)) false).set (F.MSn_DPLL_STATUS.EXTRAP n) (b2n ((d.msOf n).extOld || d.extrapolates n))
  else d

/-- State of a DPLL, coded as MSn_DPLL_STATUS.STATE (R47). -/
def Dev.dpllState (d : Dev) (n : Nat) : Nat := d.get (F.MSn_DPLL_STATUS.STATE n)

/-- The minutes of LOCKED since the model was cleared or restored (R49), in ms. -/
def Dev.learnedMs (d : Dev) (n : Nat) : Nat :=
  let m := d.msOf n
  m.lockedMs + (match m.lockedAt with | some t => (d.now - t) / msec | none => 0)

/-- Learning stops: the time LOCKED is added up (R49, R50). -/
def Dev.learnStop (d : Dev) (n : Nat) : Dev :=
  d.setMs n { d.msOf n with lockedMs := d.learnedMs n, lockedAt := none }

/-- The HOLDOVER record (Table 13-2). -/
def Dev.holdEvent (d : Dev) (n enter : Nat) : Dev :=
  d.eventLimited 0x032 [(1, n), (1, enter), (1, d.get (F.MSn_DPLL_STATUS.MODEL_VALID n))]

/-- A change of the current reference: event bit and record (R45; 0xFF for none). (DEDUCED, log 85) -/
def Dev.refChange (d : Dev) (n : Nat) (new : Option Nat) : Dev :=
  let old := d.curRef n
  if old = new then d
  else
    let d1 := (d.raise (F.MSn_DPLL_EVENT.REF_SWITCH n)).eventLimited 0x031
      [(1, n), (1, old.getD 0xFF), (1, new.getD 0xFF), (1, d.get (F.MSn_DPLL_CTRL.PBO n))]
    match new with
    | some r => (d1.set (F.MSn_DPLL_STATUS.CUR_REF n) r).set (F.MSn_DPLL_STATUS.CUR_REF_VALID n) 1
    | none => d1.set (F.MSn_DPLL_STATUS.CUR_REF_VALID n) 0

/-- Exit from holdover (R51). -/
def Dev.holdExit (d : Dev) (n : Nat) : Dev :=
  if d.dpllState n = 3 then (d.raise (F.MSn_DPLL_EVENT.HOLDOVER_EXIT n)).holdEvent n 0 else d

/-- A DPLL enters holdover, or stays in it (R50, R51): without a model it holds the mean of its past steering, limited by R48 like every correction. -/
def Dev.dpllHold (d : Dev) (n : Nat) : Dev :=
  if d.dpllState n = 3 then d.holdSteer n
  else
    let d1 := ((d.learnStop n).refChange n none).set (F.MSn_DPLL_STATUS.STATE n) 3
    let d2 := (d1.raise (F.MSn_DPLL_EVENT.HOLDOVER_ENTER n)).holdEvent n 1
    if d2.bit (F.MSn_DPLL_STATUS.MODEL_VALID n) then d2.holdSteer n else d2.steerTo n (d2.steerMean n) false

/-- The limit of STEER has been lowered: a word that lies beyond it now is held at it (R48). -/
def Dev.steerRelimit (d : Dev) (n : Nat) : Dev :=
  if d.dpllState n ≠ 0 ∧ d.steerMax n < (d.steer n).natAbs then d.steerTo n (d.steer n) false else d

/-- A DPLL takes a reference: ACQUIRING at the fast bandwidth (R47); a switch while it tracks leaves its state, since it is hitless (R45). EXTRAP stays as the holdover left
it (DESIGN CHOICE, log 192). -/
def Dev.dpllTake (d : Dev) (n r : Nat) : Dev :=
  let d1 := d.holdExit n
  let d2 := d1.refChange n (some r)
  let bw := max (d.get (F.MSn_DPLL_BW.BW n)) (d.get (F.MSn_DPLL_FAST_BW.BW n))
  let d3 := d2.set (F.MSn_DPLL_STATUS.BW_CLAMPED n) (b2n (d.bwAbove r bw))
  if d.dpllState n = 0 ∨ d.dpllState n = 3 then
    ((d3.set (F.MSn_DPLL_STATUS.STATE n) 1).setMs n { d3.msOf n with dpllAt := d.now, narrowed := false }).steerFree n
  else d3

/-- Whether a DPLL is to hold over whatever its references are (R51): it is forced, its MS has lost lock, or it has been LOCKED on an MS that is not LOCKED now. With an MS that
has not locked since its start, an enabled DPLL selects a reference and waits in ACQUIRING (R47). (DEDUCED, log 163) -/
def Dev.mustHold (d : Dev) (n : Nat) : Bool :=
  d.bit (F.MSn_DPLL_CTRL.FORCE_HOLDOVER n) || (d.msOf n).lost ||
    (!d.bit (F.MSn_STATUS.LOCKED n) && decide (2 ≤ d.dpllState n))

/-- Reference selection of one DPLL (R43, R44, R51). A DPLL that is enabled and has not yet had a VALID input stays in FREERUN (DEDUCED, log 20); without power there is no
selection (R331). -/
def Dev.dpllEval (d : Dev) (n : Nat) : Dev :=
  if !d.domainOn 9 then d
  else if !d.bit (F.MSn_DPLL_CTRL.DPLL_EN n) then
    if d.dpllState n = 0 then d
    else
      let d1 := ((d.learnStop n).holdExit n).refChange n none
      ((((d1.set (F.MSn_DPLL_STATUS.STATE n) 0).set (F.MSn_DPLL_STATUS.STEER_LIMITED n) 0).setSteer n 0)).msLive n
  else if d.mustHold n then d.dpllHold n
  else match d.chooseRef n with
    | some r => d.dpllTake n r
    | none =>
      if d.dpllState n = 0 ∧ d.get (F.MSn_DPLL_CTRL.SEL_MODE n) ≠ 0 then d else d.dpllHold n

/-- Selection of all four DPLLs (R43). -/
def Dev.dpllEvalAll (d : Dev) : Dev :=
  [0, 1, 2, 3].foldl Dev.dpllEval { d with selAt := none }

/-- Monitors have changed: changes of one instant are one evaluation, so that a switch at it is direct (R43, R44). -/
def Dev.selMark (d : Dev) : Dev := { d with selAt := some (d.selAt.getD d.now) }

/-- That evaluation, once its instant has passed. -/
def Dev.selWatch (d : Dev) : Dev :=
  match d.selAt with
  | some t => if t < d.now then d.dpllEvalAll else d
  | none => d

/-- A pair of model coefficients learned from analogue phase: a free value (R49, DESIGN CHOICE, log 2). A write that waits for its boundary stays (R252). -/
def Dev.learnFree (d : Dev) (lo : Nat) : Dev := (d.set64 lo (d.freeVal 48)).fresh

/-- One learning update of a LOCKED DPLL (R49): A0 and D, and A1 and A2 once the temperature span is 2.0 °C. -/
def Dev.dpllLearn (d : Dev) (n : Nat) : Dev :=
  if d.dpllState n = 2 then
    let t := d.holdTemp n
    let m := d.msOf n
    let d1 := d.setMs n { m with tempLo := min m.tempLo t, tempHi := max m.tempHi t, learnAt := d.now }
    let d2 := (d1.learnFree (R.MSn_HOLD_A0_LO n)).learnFree (R.MSn_HOLD_D_LO n)
    if 32 ≤ max m.tempHi t - min m.tempLo t then
      (d2.learnFree (R.MSn_HOLD_A1_LO n)).learnFree (R.MSn_HOLD_A2_LO n)
    else d2
  else d

/-- A tracking DPLL steers; its word follows the analogue phase unless it is held at the limit (R46, R48). -/
def Dev.dpllSteer (d : Dev) (n : Nat) : Dev :=
  if (d.dpllState n = 1 ∨ d.dpllState n = 2) ∧ !d.bit (F.MSn_DPLL_STATUS.STEER_LIMITED n) then d.steerFree n else d

/-- REFERENCE_SELECTION: selection, steering and learning, at least once per millisecond (R43, R49, R50); an evaluation that monitors wait for comes first. -/
def referenceSelection (n : Nat) (d : Dev) : Dev :=
  let d := if d.selAt.isSome then d.dpllEvalAll else d
  ((d.dpllEval n).dpllSteer n).dpllLearn n

/-- Whether a DPLL phase error, in 2^-16 ns, lies within DPLL_LOCK_WIN (R47). -/
def Dev.dpllWithin (d : Dev) (n : Nat) (phErr : Int) : Bool :=
  decide (phErr.natAbs ≤ d.get (F.MSn_DPLL_LOCK.DPLL_LOCK_WIN n) * 65536)

/-- Device time passes until `c` comparisons have been made since the instant from which they count. -/
def Dev.compared (d : Dev) (n c : Nat) : Dev :=
  match d.curRef n with
  | some r => d.till ((d.msOf n).dpllAt + d.cmpTime r c)
  | none => d

/-- A comparison that DPLL_NARROW or DPLL_LOCKED ends with, `c` comparisons after the instant from which they count: the device then, and the phase error (R46, R47). -/
def Dev.dpllCompare (d : Dev) (n c : Nat) (measured : Int) : Dev × Int :=
  let t := d.compared n c
  (t, t.dpllError n measured)

/-- DPLL_NARROW: after 16 comparisons within the window the final bandwidth is used (R47). -/
def dpllNarrow (n : Nat) (measured : Int) (d : Dev) : Dev :=
  let (t, phErr) := d.dpllCompare n 16 measured
  if d.dpllState n = 1 ∧ d.bit (F.MSn_STATUS.LOCKED n) ∧ !(d.msOf n).narrowed ∧ d.dpllWithin n phErr then
    let d := t
    (d.setWord (R.MSn_DPLL_PHERR n) (BitVec.ofInt 32 phErr)).setMs n { d.msOf n with narrowed := true, dpllAt := d.now }
  else d

/-- DPLL_LOCKED: DPLL_LOCK_CNT comparisons within the window at the final bandwidth (R47); learning starts or resumes (R49). -/
def dpllLocked (n : Nat) (measured : Int) (d : Dev) : Dev :=
  let (t, phErr) := d.dpllCompare n (d.get (F.MSn_DPLL_LOCK.DPLL_LOCK_CNT n)) measured
  if d.dpllState n = 1 ∧ d.bit (F.MSn_STATUS.LOCKED n) ∧ (d.msOf n).narrowed ∧ d.dpllWithin n phErr then
    let d := t
    let t := d.holdTemp n
    let m := d.msOf n
    let first := decide (m.lockedMs = 0)
    let d1 := (d.setWord (R.MSn_DPLL_PHERR n) (BitVec.ofInt 32 phErr)).setMs n
      { m with lockedAt := some d.now, learnAt := d.now, tempLo := if first then t else m.tempLo, tempHi := if first then t else m.tempHi }
    (((d1.set (F.MSn_DPLL_STATUS.STATE n) 2).set (F.MSn_DPLL_STATUS.STEER_LIMITED n) 0).raise (F.MSn_DPLL_EVENT.DPLL_LOCKED n)).msLive n
  else d

/-- STEER_LIMIT: a correction beyond the limit holds STEER at it (R48); one within it shows that STEER is no longer held there (DEDUCED, log 89). -/
def steerLimit (n : Nat) (correction : Int) (d : Dev) : Dev :=
  if (d.dpllState n ≠ 0 ∧ d.steerMax n < correction.natAbs) ∨ d.bit (F.MSn_DPLL_STATUS.STEER_LIMITED n) then d.steerTo n correction true else d

/-- MODEL_VALID: LOCKED for LEARN_MIN minutes in all (R49). -/
def modelValid (n : Nat) (d : Dev) : Dev :=
  let left := d.get (F.MSn_HOLD_CFG.LEARN_MIN n) * 60000 - d.learnedMs n
  if d.dpllState n = 2 then (d.till (d.now + left * msec)).set (F.MSn_DPLL_STATUS.MODEL_VALID n) 1 else d

/-- EXT_TEMP_TIMEOUT: the board temperature was not refreshed for 5 s (R49). -/
def extTempTimeout (n : Nat) (d : Dev) : Dev :=
  if d.bit (F.MSn_HOLD_TEMP.EXT_EN n) then
    let d := d.till ((d.msOf n).extAt + 5000 * msec)
    (d.setMs n { d.msOf n with extOld := true }).set (F.MSn_DPLL_STATUS.EXTRAP n) 1
  else d

/-- A restored model counts as learned at once (R49, R51). -/
def Dev.modelRestored (d : Dev) (n : Nat) : Dev :=
  let m := d.msOf n
  let t := d.holdTemp n
  (d.setMs n { m with lockedMs := 0, lockedAt := m.lockedAt.map fun _ => d.now, learnAt := d.now, tempLo := t, tempHi := t }).set
    (F.MSn_DPLL_STATUS.MODEL_VALID n) 1

/-! ### Reference monitors -/

/-- The live bit of REF: some monitor was lost and is not VALID again (R280). -/
def Dev.refLive (d : Dev) : Dev :=
  d.setLive 0x008 ((List.range 8).any fun r => (d.refOf r).lost)

/-- A monitor goes to INVALID; from VALID it is lost (R42). -/
def Dev.refInvalid (d : Dev) (r : Nat) : Dev :=
  let was := d.refValid r
  let d1 := (d.selWatch.set (F.REFn_STATUS.STATE r) 1).setRef r { d.refOf r with good := 0, lost := was || (d.refOf r).lost }
  let d2 := if was then ((d1.raise (F.REFn_EVENT.LOST r)).sendFault 0x008 0x01 .c r).refLive else d1
  (d2.selMark).outSources

/-- A monitor is enabled: INVALID until its activity is seen (R42); while PD09 is off it does nothing (R331). -/
def Dev.refEnable (d : Dev) (r : Nat) : Dev :=
  if d.domainOn 9 then (d.set (F.REFn_STATUS.STATE r) 1).setRef r { d.refOf r with good := 0, lost := false, gateAt := d.now } else d

/-- A monitor is disabled: whatever used it treats it as failed (R42, Table 2-6a). -/
def Dev.refDisable (d : Dev) (r : Nat) : Dev :=
  let d1 := ((d.selWatch.set (F.REFn_STATUS.STATE r) 0).set (F.REFn_STATUS.ACTIVE r) 0).set (F.REFn_STATUS.FREQ_OK r) 0
  ((d1.setRef r { d.refOf r with good := 0, lost := false }).refLive.selMark).outSources

/-- ACT_TIMEOUT in half periods (REFn_MON_CFG). -/
def Dev.actTimeout (d : Dev) (r : Nat) : Nat :=
  let v := d.get (F.REFn_MON_CFG.ACT_TIMEOUT r)
  if v = 0 then 32 else max 3 v

/-- ACTIVITY_FAIL: no edge within ACT_TIMEOUT half nominal periods of the last one, which was not before the last activity seen (R42). -/
def activityFail (r : Nat) (d : Dev) : Dev :=
  if d.get (F.REFn_STATUS.STATE r) = 0 then d
  else
    let d := d.till ((d.refOf r).seenAt + d.actTimeout r * halfTime (d.refNom r))
    let d1 := d.set (F.REFn_STATUS.ACTIVE r) 0
    if d.get (F.REFn_STATUS.STATE r) = 1 then d1 else d1.refInvalid r

/-- ACTIVITY_PRESENT: an INVALID monitor with activity enters QUALIFYING (R42). -/
def activityPresent (r : Nat) (d : Dev) : Dev :=
  if d.domainOn 9 ∧ d.get (F.REFn_STATUS.STATE r) = 1 then
    ((d.set (F.REFn_STATUS.ACTIVE r) 1).set (F.REFn_STATUS.STATE r) 2).setRef r { d.refOf r with good := 0, gateAt := d.now, seenAt := d.now }
  else d

/-- The gate in device time: REF_GATE ms, or 16 nominal periods where that is longer (R42). -/
def Dev.gateTime (d : Dev) (r : Nat) : Nat :=
  let f := d.refNom r
  max (d.get (F.REFn_MON_CFG.REF_GATE r) * msec) (if f.1 = 0 then 0 else 16 * f.2 * 1000000000 * perNs / f.1)

/-- FREQUENCY_GATE: a gate ends with its offset in ppb (R42). FREQ_TOL counts 0.01 ppm, which is 10 ppb. An INVALID monitor whose activity is present qualifies from
its next gate on (DEDUCED, log 81). -/
def frequencyGate (r : Nat) (ppb : Int) (d : Dev) : Dev :=
  let st := d.get (F.REFn_STATUS.STATE r)
  let m := d.refOf r
  if st = 0 ∨ !d.domainOn 9 ∨ !d.bit F.REF_OSC_STATUS.OSC_ACTIVE then d
  else
    let d := d.till (m.gateAt + d.gateTime r)
    let tol := 10 * d.get (F.REFn_FREQ_TOL.FREQ_TOL r)
    let d1 := (d.setWord (R.REFn_FOFF r) (BitVec.ofInt 32 ppb)).setRef r { m with gateAt := d.now, seenAt := d.now }
    if tol < ppb.natAbs then
      let d2 := (d1.set (F.REFn_STATUS.FREQ_OK r) 0).raise (F.REFn_EVENT.FREQ_FAIL r)
      if st = 1 then d2 else d2.refInvalid r
    else
      let d2 := d1.set (F.REFn_STATUS.FREQ_OK r) 1
      if st = 2 ∨ (st = 1 ∧ d.bit (F.REFn_STATUS.ACTIVE r)) then
        let good := if 10 * ppb.natAbs ≤ 8 * tol then m.good + 1 else 0
        if max 1 (d.get (F.REFn_MON_CFG.QUAL_GATES r)) ≤ good then
          let d3 := (d2.selWatch.set (F.REFn_STATUS.STATE r) 3).setRef r { d2.refOf r with good := 0, lost := false, validAt := d.now }
          (((d3.raise (F.REFn_EVENT.VALID r)).refLive).selMark).outSources
        else (d2.set (F.REFn_STATUS.STATE r) 2).setRef r { d2.refOf r with good := good }
      else d2

/-! ### Start, stop, lock -/

/-- The ramp generator is disabled while neither a ramp nor a profile spread runs (Table 2-6). -/
def Dev.msStatusSet (d : Dev) (n en acq lock band : Nat) : Dev :=
  let d := d.set (F.MSn_CTRL.EN n) en
  let d := d.set (F.MSn_STATUS.ENABLED n) en
  let d := d.set (F.MSn_STATUS.ACQUIRING n) acq
  let d := d.set (F.MSn_STATUS.LOCKED n) lock
  let d := d.set (F.MSn_STATUS.BAND n) band
  d.set (F.MSn_STATUS.SSC_ACTIVE n) (b2n (decide (en = 1) && decide (d.get (F.MSn_SSC_CFG.SSC_MODE n) ≠ 0)))

/-- Commands that wait for MSn to lock end with a status (R31, R35, R56). -/
def Dev.msEndStart (d : Dev) (n : Nat) (st : Status) (result : Nat) : Dev := d.finishWait (.msLock n) st result 0

/-- An MS is disabled (R56): a start that waits for its lock ends with the status given; unless that start timed out, its calibration ends (R87, R90). -/
def Dev.msDisable (d : Dev) (n : Nat) (st : Status) : Dev :=
  let d1 := (d.msStatusSet n 0 0 0 0).set (F.MSn_STATUS.RAMPING n) 0
  let d2 := d1.setMs n { d.msOf n with acqAt := none, starting := false, second := false, lockAt := none, lost := false, ramp := none }
  let d3 := (d2.msLive n).dpllEval n
  (if st = .timeout then d3 else d3.calMsStopped n).msEndStart n st 0

/-- A start of an MS: band selection and acquisition, or none (R31). Without its power domain the MS does nothing (R331): it is enabled and waits for the domain
until the start times out (R35; DEDUCED, log 139). -/
def Dev.msStartGo (d : Dev) (n : Nat) : Dev × Bool :=
  if !d.domainOn (10 + n) then
    ((d.set (F.MSn_CTRL.EN n) 1).setMs n { d.msOf n with acqAt := some d.now, starting := true, second := false, lockAt := none, lost := false, returned := true, ramp := none }, true)
  else match d.selectBand n with
  | none => ((d.set (F.MSn_STATUS.NO_BAND n) 1).raise (F.MSn_EVENT2.NO_BAND n), false)
  | some b =>
    let ramp : Option Ramp := if d.get (F.MSn_SSC_CFG.SSC_MODE n) = 3 then some ⟨0, 0, d.now, 0, true⟩ else none
    let d1 := (d.msStatusSet n 1 1 0 b).set (F.MSn_STATUS.NO_BAND n) 0
    let m := { d.msOf n with sscPhase := d.freeVal 64, ditherUp := (d.freeVal 64).testBit 0, exc := 0 }
    let e := -((d.setMs n m).trianglePhase n)
    (d1.fresh.setMs n { m with acqAt := some d.now, starting := true, second := false, lockAt := none, lost := false, returned := true, ramp := ramp,
                               exc := e, phaseAt := d.now }, true)

/-- Whether an MS stop is refused: a channel fed by it runs (R56). -/
def Dev.msInUse (d : Dev) (n : Nat) : Bool := !(d.fedBy n).isEmpty

/-- LOCK_CNT with its least value (MSn_LOCK_CFG). -/
def Dev.lockCnt (d : Dev) (n : Nat) : Nat := max 16 (d.get (F.MSn_LOCK_CFG.LOCK_CNT n))

/-- Whether a TDC error in ps lies within LOCK_WIN, in units of 10 ps (R34). -/
def Dev.lockWithin (d : Dev) (n : Nat) (phErr : Int) : Bool :=
  decide (phErr.natAbs ≤ 10 * max 1 (d.get (F.MSn_LOCK_CFG.LOCK_WIN n)))

/-- The MS_LOCK record (Table 13-2). -/
def Dev.lockEvent (d : Dev) (n ev : Nat) : Dev := d.eventLimited 0x030 [(1, n), (1, ev), (1, d.band n)]

/-- LOCK_GAINED: |e| ≤ LOCK_WIN on LOCK_CNT consecutive comparisons of an MS that acquires (R34). The phase of its VCO as it locks is not guaranteed (R73): a free value
(DESIGN CHOICE, log 2). -/
def lockGained (n : Nat) (phErr : Int) (d : Dev) : Dev :=
  let m := d.msOf n
  if d.bit (F.MSn_STATUS.ACQUIRING n) ∧ d.domainOn (10 + n) ∧ d.bit F.REF_OSC_STATUS.OSC_ACTIVE ∧ d.lockWithin n phErr then
    let d := d.after m.acqAt ((d.msWord n).pfdTime d.fOsc (d.lockCnt n))
    let d1 := ((d.set (F.MSn_PHERR.PHERR n) (wrapN 16 phErr)).set (F.MSn_STATUS.ACQUIRING n) 0).set (F.MSn_STATUS.LOCKED n) 1
    let d2 := d1.fresh.setMs n { m with acqAt := none, starting := false, second := false, lockAt := some d.now, lost := false, returned := false,
                                        phase := signedN 96 (d1.freeVal 96), phaseAt := d.now }
    let d3 := ((d2.raise (F.MSn_EVENT.LOCK_GAINED n)).lockEvent n 0).msLive n
    let d4 := (d3.dpllEval n).msEndStart n .ok (d.band n)
    if m.starting ∧ (d.get F.CAL_CTRL.AUTO_START_EN).testBit n then d4.calTrigger n 1 else d4
  else d

/-- An MS loses lock (R34 to R37, R39): event, record, message, reacquisition, its outputs and its DPLL. -/
def Dev.msLose (d : Dev) (n : Nat) (slip : Bool) : Dev :=
  let auto := d.bit (F.MSn_CTRL.AUTO_REACQ n)
  let d1 := (d.set (F.MSn_STATUS.LOCKED n) 0).set (F.MSn_STATUS.ACQUIRING n) (b2n auto)
  let d2 := d1.setMs n { d.msOf n with acqAt := if auto then some d.now else none, second := false, lockAt := none, lost := true, returned := true }
  let d3 := d2.raise (F.MSn_EVENT.LOCK_LOST n)
  let d4 := if slip then (d3.raise (F.MSn_EVENT.SLIP n)).lockEvent n 2 else d3.lockEvent n 1
  let d5 := (d4.sendFault (msSource n) 0x01 .u (d.band n)).msLive n
  (((d.fedBy n).foldl Dev.outLoseMs d5)).dpllEval n

/-- LOCK_LOST: LOCK_CNT comparisons beyond the window, or a slip of more than half a PFD period at once (R34, R35). An error that PHERR does not hold
shows its low 16 bits (DESIGN CHOICE, log 166). -/
def lockLost (n : Nat) (slip : Bool) (phErr : Int) (d : Dev) : Dev :=
  let m := d.msOf n
  let w := d.msWord n
  let cond :=
    if slip then decide (w.pfdTime d.fOsc 1 * 1000 < 2 * phErr.natAbs * perNs)
    else !d.lockWithin n phErr
  let t := if slip then d else d.after m.lockAt (w.pfdTime d.fOsc (d.lockCnt n))
  if d.bit (F.MSn_STATUS.LOCKED n) && cond then (t.set (F.MSn_PHERR.PHERR n) (wrapN 16 phErr)).msLose n slip else d

/-- MS_START_TIMEOUT: no lock within 5 ms of the start (R35); EN returns to 0. -/
def msStartTimeout (n : Nat) (d : Dev) : Dev :=
  let m := d.msOf n
  if m.starting ∧ m.acqAt.isSome then (d.after m.acqAt (5 * msec)).msDisable n .timeout else d

/-- REACQ_TIMEOUT: no lock 5 ms after the loss: band selection is rerun once (R36). After a second failure the MS no longer acquires, and stays enabled
(DESIGN CHOICE, log 167). -/
def reacqTimeout (n : Nat) (d : Dev) : Dev :=
  let m := d.msOf n
  if d.bit (F.MSn_STATUS.ACQUIRING n) ∧ !m.starting ∧ d.bit F.REF_OSC_STATUS.OSC_ACTIVE then
    let d := d.after m.acqAt (5 * msec)
    let stop := (d.set (F.MSn_STATUS.ACQUIRING n) 0).setMs n { m with acqAt := none }
    if m.second then stop
    else match d.selectBand n with
      | some b => (d.set (F.MSn_STATUS.BAND n) b).setMs n { m with acqAt := some d.now, second := true }
      | none => (stop.set (F.MSn_STATUS.NO_BAND n) 1).raise (F.MSn_EVENT2.NO_BAND n)
  else d

/-- MS_SETTLE: LOCKED for MS_SETTLE µs, its automatic outputs return (R38; 0 is taken as 1). -/
def msSettle (n : Nat) (d : Dev) : Dev :=
  let m := d.msOf n
  if d.bit (F.MSn_STATUS.LOCKED n) ∧ !m.returned then
    let d := d.after m.lockAt (max 1 (d.get (F.MSn_BAND_GUARD.MS_SETTLE n)) * usec)
    (d.fedBy n).foldl Dev.outReturn (d.setMs n { m with returned := true })
  else d

/-! ### Band survey -/

/-- A survey begins (R33), or waits for the power domain of its MS (R331; DEDUCED, log 139). -/
def Dev.surveyBegin (d : Dev) (n : Nat) : Dev :=
  (if d.domainOn (10 + n) then d.set (F.MSn_STATUS.SURVEYING n) 1 else d).setMs n { d.msOf n with surveyAt := some d.now }

/-- A survey of MSn runs, or waits to. -/
def Dev.surveying (d : Dev) (n : Nat) : Bool := d.bit (F.MSn_STATUS.SURVEYING n) || (d.msOf n).surveyAt.isSome

/-- SURVEY_TEMP: the sensor next to the MS, else the median of the VALID ones, else 0x8000 (R336; DEDUCED, log 22). -/
def Dev.surveyTemp (d : Dev) (n : Nat) : Nat :=
  if d.bit (F.TEMPn.VALID n) then d.get (F.TEMPn.TEMP n)
  else
    let vs := ((List.range 8).filter fun i => d.bit (F.TEMPn.VALID i)).map fun i => signedN 16 (d.get (F.TEMPn.TEMP i))
    if vs.isEmpty then 0x8000 else wrapN 16 (medianOf vs (d.freeVal 16))

/-- One band written as measured (R33). -/
def Dev.bandWrite (d : Dev) (n i : Nat) (b : BandMeasure) : Dev :=
  let d1 := (d.set (F.BAND_CAP.CAP_CODE n i) (1008 - 16 * i)).set (F.BAND_CAP.SURVEYED n i) 1
  if b.ok then
    let d2 := (d1.setWord (R.BAND_F_LO n i) (BitVec.ofNat 32 b.fLo)).setWord (R.BAND_F_HI n i) (BitVec.ofNat 32 b.fHi)
    let k := ((b.fHi - b.fLo) * 1000 * 2 + 65535) / (2 * 65535)
    ((d2.set (F.BAND_KDCO.KDCO n i) k).set (F.BAND_KDCO.SURVEY_TEMP n i) (d.surveyTemp n)).set (F.BAND_CAP.VALID n i) 1
  else d1.set (F.BAND_CAP.VALID n i) 0

/-- The number of VALID bands. -/
def Dev.bandCount (d : Dev) (n : Nat) : Nat :=
  ((List.range 64).filter fun i => d.bit (F.BAND_CAP.VALID n i)).length

/-- SURVEY_DONE: the survey rewrites the band table (R33) and clears VALID of the KDCO entries (R92). Each band takes two settles of 4 µs and two gates of 10 µs. -/
def surveyDone (n : Nat) (bands : List BandMeasure) (d : Dev) : Dev :=
  let m := d.msOf n
  if d.bit (F.MSn_STATUS.SURVEYING n) ∧ d.domainOn (10 + n) then
    let d := d.after m.surveyAt (64 * 28 * usec)
    let d1 := ((List.range 64).foldl (fun d i => d.bandWrite n i (bands.getD i ⟨false, 0, 0⟩)) d).fresh
    let dk := (List.range 64).foldl (fun d i => d.set (F.CALn_KDCO.VALID n i) 0) d1
    let d2 := (dk.set (F.MSn_STATUS.SURVEYING n) 0).setMs n { m with surveyAt := none }
    (d2.raise (F.MSn_EVENT2.SURVEY_DONE n)).finishWait (.survey n) .ok (d2.bandCount n) 0
  else d

/-! ### The ramp generator -/

/-- The phase of the segment in progress is added to that of the ones before it (R46). -/
def Dev.excFold (d : Dev) (n : Nat) (r : Ramp) : Int := (d.msOf n).exc + d.segPhase n r

/-- Device time of a segment that moves by `delta` from `start`: the slope is relative to where the segment starts (R52), then the dwell. (DEDUCED, log 112) A profile spread is
started whatever its slopes are; with SLOPE 0 the offset stays for the dwell and is then the target (DESIGN CHOICE, log 186). -/
def Dev.segTime (d : Dev) (n i start delta : Nat) : Nat :=
  let s := d.segSlope n i
  (if s = 0 ∨ start = 0 then 0 else delta * 2 ^ 48 * usec / (start * s)) + d.get (F.MSn_SEG_DWELL.DWELL n i) * usec

/-- The segments of the loaded profile. -/
def Dev.segs (d : Dev) (n : Nat) : List Nat := List.range (d.segCount n)

/-- Whether every point of a path keeps the running channels of MSn within their limits (R53, R58). -/
def Dev.pathChannels (d : Dev) (n : Nat) (ws : List MsWord) : Bool :=
  (d.fedBy n).all fun o => ws.all fun w => d.outLimits o (w.steered d.fOsc (d.steer n))

/-- The checks of a ramp start (R28, R53), without those of K. In integer mode a target with an N_FRAC is none of them (DESIGN CHOICE, log 193). -/
def Dev.rampChecks (d : Dev) (n : Nat) : List (Status × Bool) :=
  let ws := d.msWord n :: (d.segs n).map (d.segTarget n)
  let b := d.band n
  let inBand := ws.all fun w =>
    let f := w.vco d.fOsc
    d.bandHolds n b (f.1, f.1, f.2) && w.ok d.fOsc
  [(.state, !d.bit (F.MSn_STATUS.ENABLED n) || (d.msOf n).ramp.isSome || decide (d.get (F.MSn_SSC_CFG.SSC_MODE n) ≠ 0)),
   (.range, !inBand || ((d.segs n).any fun i => decide (d.segSlope n i = 0) || decide (2814749767 < d.segSlope n i)) || !d.pathChannels n ws)]

/-- A ramp starts at its boundary (R53); where the MS has been disabled or its generator taken since, it is refused. Segments and spread settings that have changed since the command was accepted
are not checked again (DESIGN CHOICE, log 194). -/
def Dev.rampStartAt (d : Dev) (n k : Nat) (cid : Option Nat) : Dev :=
  let m := d.msOf n
  if d.bit (F.MSn_STATUS.ENABLED n) ∧ m.ramp.isNone then
    let d := d.vcoMark n
    ((d.set (F.MSn_STATUS.RAMPING n) 1).setMs n { d.msOf n with ramp := some ⟨0, (d.msWord n).num, d.now, (d.msWord n).num, false⟩ }).finishCid cid .ok 0 k
  else (d.raise (F.MSn_EVENT2.RAMP_ABORTED n)).finishCid cid .state 0 k

/-- The word in force shown by MSn_NINT and the MSn_NFRAC registers (R54). -/
def Dev.showWord (d : Dev) (n num mod : Nat) : Dev :=
  (d.set (F.MSn_NINT.N_INT n) (num / mod)).set64 (R.MSn_NFRAC_LO n) (num % mod)

/-- The next segment of a ramp or a profile spread, if the one that ends has one (R52, R55: LAST is the wrap point). -/
def Dev.segNext (d : Dev) (n : Nat) (r : Ramp) : Option Nat :=
  if r.seg + 1 < d.segCount n then some (r.seg + 1) else if r.profile then some 0 else none

/-- The instant at which the segment in progress ends, and where it leaves the word. -/
def Dev.segEnd (d : Dev) (n : Nat) (r : Ramp) : Nat × Nat :=
  if r.profile then
    let t := wrapN 61 (d.segOffset n r.seg)
    let delta := (signedN 61 t - signedN 61 r.start).natAbs
    (r.since + d.segTime n r.seg (2 ^ 48) delta, t)
  else
    let t := (d.segTarget n r.seg).num
    (r.since + d.segTime n r.seg r.start (natDist t r.start), t)

/-- RAMP_SEGMENT_END: the dwell ends and the next segment starts at exactly the target (R52). -/
def rampSegmentEnd (n : Nat) (d : Dev) : Dev :=
  let m := d.msOf n
  match m.ramp with
  | none => d
  | some r =>
    let e := d.segEnd n r
    match d.segNext n r with
    | some i =>
      let t := (d.till e.1).vcoMark n
      let d1 := t.setMs n { t.msOf n with ramp := some { r with seg := i, start := e.2, since := e.1 }, exc := t.excFold n r }
      if r.profile then d1 else d1.showWord n e.2 (d.msWord n).mod
    | none => d

/-- RAMP_DONE: the profile completes; the word is the ramp's target whether or not lock was lost (R40, R54). -/
def rampDone (n : Nat) (d : Dev) : Dev :=
  let m := d.msOf n
  match m.ramp with
  | none => d
  | some r =>
    let e := d.segEnd n r
    if (d.segNext n r).isNone then
      let t := (d.till e.1).vcoMark n
      (((t.showWord n e.2 (d.msWord n).mod).setMs n { t.msOf n with ramp := none, exc := t.excFold n r }).set (F.MSn_STATUS.RAMPING n) 0).raise (F.MSn_EVENT2.RAMP_DONE n)
    else d

/-- A ramp is aborted: the slope stops and the frequency reached is held, rounded to the nearest N_FRAC (R54). -/
def Dev.rampAbortGo (d : Dev) (n : Nat) : Dev :=
  let m := d.msOf n
  match m.ramp with
  | none => d
  | some r =>
    if r.profile then d
    else
      let t := d.vcoMark n
      (((t.showWord n (d.rampWord n r) (d.msWord n).mod).setMs n { t.msOf n with ramp := none, exc := d.excFold n r }).set (F.MSn_STATUS.RAMPING n) 0).raise (F.MSn_EVENT2.RAMP_ABORTED n)

/-- Whether a ramp runs. -/
def Dev.ramping (d : Dev) (n : Nat) : Bool := d.bit (F.MSn_STATUS.RAMPING n)

/-! ### Commands on an MS -/

/-- MS_CONFIG (R28, R29, R55). (DEDUCED, log 112) -/
def msConfigSpec : CmdSpec where
  opcode := 0x0140
  params := [pu 1 8, pu 1 2, pu 1 2, pu 1 1, pu 1 2, pu 2 16, pu 2 16, pu 2 16, pu 8 48, pu 8 48]
  checks := fun c d =>
    let w : MsWord := ⟨c.p 1, c.p 5, c.p 8, modOf (c.p 9)⟩
    [(.range, decide (4 ≤ c.p 0) || !w.ok d.fOsc || decide (1023 < c.p 6) ||
        decide (c.p 7 < 30000) || decide (63000 < c.p 7)),
     (.state, decide (c.p 0 < 4) && (d.bit (F.MSn_CTRL.EN (c.p 0)) || d.surveying (c.p 0)))]
  run := fun c _ d =>
    let n := c.p 0
    let d := d.set (F.MSn_CTRL.OSC_PRE n) (c.p 1)
    let d := d.set (F.MSn_CTRL.MOD_ORDER n) (c.p 2)
    let d := d.set (F.MSn_CTRL.DITHER n) (c.p 3)
    let d := d.set (F.MSn_SSC_CFG.SSC_MODE n) (c.p 4)
    let d := d.set (F.MSn_NINT.N_INT n) (c.p 5)
    let d := d.set (F.MSn_SSC_CFG.SSC_DEPTH n) (c.p 6)
    let d := d.set (F.MSn_SSC_CFG.SSC_RATE n) (c.p 7)
    let d := d.set64 (R.MSn_NFRAC_LO n) (c.p 8)
    (d.set64 (R.MSn_NMOD_LO n) (c.p 9), .ok 0 0)

/-- Whether an MS number is one of the four. -/
def Cmd.msBad (c : Cmd) (i : Nat) : Status × Bool := (.range, decide (4 ≤ c.p i))

/-- MS_START (R31). -/
def msStartSpec : CmdSpec where
  opcode := 0x0141
  params := [pu 1 8]
  checks := fun c d => [c.msBad 0,
    (.state, decide (c.p 0 < 4) && (d.bit (F.MSn_CTRL.EN (c.p 0)) || d.surveying (c.p 0)))]
  waits := fun c d => !d.domainOn (10 + c.p 0) || (d.selectBand (c.p 0)).isSome
  run := fun c _ d =>
    let r := d.msStartGo (c.p 0)
    (r.1, if r.2 then .wait (.msLock (c.p 0)) 0 0 else .done .range 0 0 false)

/-- MS_STOP (R56). -/
def msStopSpec : CmdSpec where
  opcode := 0x0142
  params := [pu 1 8]
  checks := fun c d => [c.msBad 0, (.state, decide (c.p 0 < 4) && d.msInUse (c.p 0))]
  run := fun c _ d => (d.msDisable (c.p 0) .state, .ok 0 0)

/-- BAND_SURVEY (R33). While a survey of the MS runs, this command, MS_START and MS_CONFIG end with STATE (DESIGN CHOICE, log 164). -/
def bandSurveySpec : CmdSpec where
  opcode := 0x0143
  params := [pu 1 8]
  checks := fun c d => [c.msBad 0,
    (.state, decide (c.p 0 < 4) && (d.bit (F.MSn_CTRL.EN (c.p 0)) || d.surveying (c.p 0)))]
  waits := fun _ _ => true
  run := fun c _ d => (d.surveyBegin (c.p 0), .wait (.survey (c.p 0)) 0 0)

/-- A segment written from its 16 bytes, in MSn_SEG layout (R52). -/
def Dev.segWrite (d : Dev) (n i : Nat) (b : List Byte) : Dev :=
  let d := d.set64 (R.MSn_SEG_TARGET_LO n i) (leAt b 0 8 % 2 ^ 61)
  let d := d.setWord (R.MSn_SEG_SLOPE n i) (BitVec.ofNat 32 (leAt b 8 4))
  d.setWord (R.MSn_SEG_DWELL n i) (BitVec.ofNat 32 (leAt b 12 4 % 2 ^ 17))

/-- Whether a TARGET word is one that the device accepts (R28); in profile mode it is an offset and no word (R55). -/
def Dev.targetOk (d : Dev) (n t : Nat) : Bool :=
  decide (d.get (F.MSn_SSC_CFG.SSC_MODE n) = 3) || ({ d.msWord n with nInt := bitsOf t 48 13, frac := bitsOf t 0 48 } : MsWord).ok d.fOsc

/-- Whether a TARGET parameter fits its field of 61 bits: as a word, or in profile mode as an offset that is sign-extended to its container (R55, R232; DEDUCED, log 191). -/
def Dev.targetFits (d : Dev) (n v : Nat) : Bool :=
  decide (v < 2 ^ 61) || (decide (d.get (F.MSn_SSC_CFG.SSC_MODE n) = 3) && decide (2 ^ 64 - 2 ^ 60 ≤ v))

/-- Whether every TARGET that an MS_RAMP_LOAD brings is accepted (R28). -/
def Dev.targetsOk (d : Dev) (c : Cmd) : Bool :=
  if c.flag 0 then
    match c.dma with
    | none => true
    | some b => (List.range (c.p 2)).all fun i => d.targetOk (c.p 0) (leAt b (16 * i) 8 % 2 ^ 61)
  else d.targetFits (c.p 0) (c.p 3) && d.targetOk (c.p 0) (c.p 3)

/-- MS_RAMP_LOAD (R28, R52): one segment from the parameters, or COUNT by DMA. -/
def msRampLoadSpec : CmdSpec where
  opcode := 0x0145
  flagMask := 1
  params := [pu 1 8, pu 1 8, pu 1 8, pu 8 64, pu 4 32, pu 2 16, pu 1 1, pu 8 64]
  hostAddr := some 7
  dmaBit := true
  checks := fun c d =>
    let cnt := if c.flag 0 then c.p 2 else 1
    [(.range, decide (4 ≤ c.p 0) || decide (cnt = 0) || decide (16 < c.p 1 + cnt) || !d.targetsOk c),
     (.state, decide (c.p 0 < 4) && (d.msOf (c.p 0)).ramp.isSome)]
  run := fun c _ d =>
    let n := c.p 0
    if c.flag 0 then
      match c.dma with
      | none => (d.sendFault 0x004 0x02 .c (c.p 7), .done .internal 0 0 true)
      | some b => ((List.range (c.p 2)).foldl (fun d i => d.segWrite n (c.p 1 + i) (slice b (16 * i) 16)) d, .ok 0 0)
    else (d.segWrite n (c.p 1) (leBytes 8 (c.p 3 % 2 ^ 61) ++ leBytes 4 (c.p 4) ++ leBytes 4 (c.p 5 + c.p 6 * 65536)), .ok 0 0)

/-- MS_RAMP_START (R53, R369). A command that is refused has no effect, so it raises no RAMP_ABORTED (DESIGN CHOICE, log 165). -/
def msRampStartSpec : CmdSpec where
  opcode := 0x0146
  params := [pu 1 8, pu 8 64]
  checks := fun c d =>
    (if c.p 0 < 4 then d.rampChecks (c.p 0) else [(.range, true)]) ++
      [(.state, !d.tick.running), (.deadline, decide (c.p 1 ≠ 0) && d.tooNear (c.p 1))]
  waits := fun _ _ => true
  run := fun c cid d => (d.arm (d.bndOf (c.p 1)) (.rampStart (c.p 0)) (some cid), .wait .armed 0 0)

/-- MS_RAMP_ABORT (R54). -/
def msRampAbortSpec : CmdSpec where
  opcode := 0x0147
  params := [pu 1 8]
  checks := fun c d => [c.msBad 0, (.state, decide (c.p 0 < 4) && !d.ramping (c.p 0))]
  run := fun c _ d => (d.rampAbortGo (c.p 0), .ok 0 0)

def msConfig (src : Source) (d : Dev) : Dev := d.command msConfigSpec src none
def msStart (src : Source) (d : Dev) : Dev := d.command msStartSpec src none
def msStop (src : Source) (d : Dev) : Dev := d.command msStopSpec src none
def bandSurvey (src : Source) (d : Dev) : Dev := d.command bandSurveySpec src none
def msRampLoad (src : Source) (dma : Option (List Byte)) (d : Dev) : Dev := d.command msRampLoadSpec src dma
def msRampStart (src : Source) (d : Dev) : Dev := d.command msRampStartSpec src none
def msRampAbort (src : Source) (d : Dev) : Dev := d.command msRampAbortSpec src none

/-! ### Commands on references and DPLLs -/

/-- A monitor is not bound (R42, R243). -/
def Dev.refFree (d : Dev) (r : Nat) : Bool := !(d.refOf r).bound

/-- REF_MON_CREATE (R41, R42); 0xFF takes the lowest monitor that is free (R243). -/
def refMonCreateSpec : CmdSpec where
  opcode := 0x0200
  params := [pu 1 8, pu 1 1, pu 1 1, pu 4 24, pu 8 64]
  checks := fun c d => [
    (.range, decide (8 ≤ c.p 0 ∧ c.p 0 ≠ 0xFF) || decide (c.p 4 = 0) || decide (800000000 * c.p 3 < c.p 4)),
    (.noResource, if c.p 0 = 0xFF then (lowestFree 8 d.refFree).isNone else decide (c.p 0 < 8) && !d.refFree (c.p 0))]
  run := fun c _ d =>
    let r := if c.p 0 = 0xFF then (lowestFree 8 d.refFree).getD 0 else c.p 0
    let d := d.set (F.REFn_CTRL.EN r) 1
    let d := d.set (F.REFn_CTRL.SE r) (c.p 1)
    let d := d.set (F.REFn_CTRL.INVERT r) (c.p 2)
    let d := d.set (F.REFn_NOM_DEN.REF_NOM_DEN r) (c.p 3)
    let d := d.set64 (R.REFn_NOM_LO r) (c.p 4)
    let d := d.setRef r { d.refOf r with bound := true }
    (d.refEnable r, .ok (d.handle 2 r) 0)

/-- Whether a monitor is the manual reference of a DPLL (Table 2-6a). -/
def Dev.isManualRef (d : Dev) (r : Nat) : Bool :=
  [0, 1, 2, 3].any fun n => d.bit (F.MSn_DPLL_CTRL.DPLL_EN n) && decide (d.get (F.MSn_DPLL_CTRL.SEL_MODE n) = 0) &&
    decide (d.get (F.MSn_DPLL_CTRL.MANUAL_REF n) = r)

/-- REF_MON_DESTROY (R42, Table 2-6a). -/
def refMonDestroySpec : CmdSpec where
  opcode := 0x0201
  ty := 2
  isFree := Dev.refFree
  checks := fun c d => [(.state, d.isManualRef c.idx)]
  run := fun c _ d =>
    let r := c.idx
    let d1 := (d.set (F.REFn_CTRL.EN r) 0).refDisable r
    (((d1.setRef r RefMon.reset).bumpGen 2 r).endStale c.handle, .ok 0 0)

/-- DPLL_CONFIG (R43 to R48). -/
def dpllConfigSpec : CmdSpec where
  opcode := 0x0202
  params := [pu 1 8, pu 1 1, pu 1 2, pu 1 3, pu 1 1, pu 2 14, pu 4 32, pu 4 32, pu 4 32, pu 4 32, pu 2 16, pu 2 16]
  checks := fun c _ =>
    let bwBad (v : Nat) := decide (v < 100) || decide (1000000 < v)
    [(.range, decide (4 ≤ c.p 0) || bwBad (c.p 7) || bwBad (c.p 8) || decide (195312 < c.p 9))]
  waits := fun _ d => d.tick.running
  run := fun c cid d =>
    let n := c.p 0
    d.bufferedRegs [chg (F.MSn_DPLL_CTRL.DPLL_EN n) (c.p 1), chg (F.MSn_DPLL_CTRL.SEL_MODE n) (c.p 2),
      chg (F.MSn_DPLL_CTRL.MANUAL_REF n) (c.p 3), chg (F.MSn_DPLL_CTRL.PBO n) (c.p 4),
      chg (F.MSn_DPLL_LIMITS.REVERT_HOLD n) (c.p 5), .word (R.MSn_DPLL_PRIO n) (BitVec.allOnes 32) (BitVec.ofNat 32 (c.p 6)),
      chg (F.MSn_DPLL_BW.BW n) (c.p 7), chg (F.MSn_DPLL_FAST_BW.BW n) (c.p 8), chg (F.MSn_DPLL_LIMITS.STEER_LIMIT n) (c.p 9),
      chg (F.MSn_DPLL_LOCK.DPLL_LOCK_WIN n) (c.p 10), chg (F.MSn_DPLL_LOCK.DPLL_LOCK_CNT n) (c.p 11)] cid

/-- DPLL_SELECT: MANUAL_REF is written, a buffered single change (Table 2-5) for which the command does not wait; PRECOND tells that the input is not VALID
(Table 2-6a; DEDUCED, log 21). -/
def dpllSelectSpec : CmdSpec where
  opcode := 0x0203
  params := [pu 1 8, pu 1 8]
  checks := fun c _ => [(.range, decide (4 ≤ c.p 0) || decide (8 ≤ c.p 1))]
  run := fun c _ d =>
    let ch := chg (F.MSn_DPLL_CTRL.MANUAL_REF (c.p 0)) (c.p 1)
    ((d.pendChange ch).arrive [⟨ch, none⟩], if d.refValid (c.p 1) then .ok 0 0 else .done .precond 0 0 false)

/-- DPLL_HOLDOVER (R51). -/
def dpllHoldoverSpec : CmdSpec where
  opcode := 0x0204
  params := [pu 1 8, pu 1 1]
  checks := fun c _ => [c.msBad 0]
  waits := fun _ d => d.tick.running
  run := fun c cid d => d.bufferedRegs [chg (F.MSn_DPLL_CTRL.FORCE_HOLDOVER (c.p 0)) (c.p 1)] cid

/-- A 48-bit coefficient sign-extended to 64 bits. -/
def Dev.coef64 (d : Dev) (lo : Nat) : Nat := wrapN 64 (signedN 48 (d.get64 lo))

/-- HOLD_MODEL_GET (R49, Table 10-6). -/
def holdModelGetSpec : CmdSpec where
  opcode := 0x0205
  params := [pu 8 64, pu 1 8]
  hostAddr := some 0
  checks := fun c _ => [c.msBad 1]
  run := fun c _ d =>
    let n := c.p 1
    let mins := d.learnedMs n / 60000
    let blk := packBlock [(8, d.coef64 (R.MSn_HOLD_A0_LO n)), (8, d.coef64 (R.MSn_HOLD_A1_LO n)), (8, d.coef64 (R.MSn_HOLD_A2_LO n)),
      (8, d.coef64 (R.MSn_HOLD_D_LO n)), (2, d.get (F.MSn_HOLD_TEMP.T_REF n)), (4, mins)]
    d.toHost c (c.p 0) blk (.ok (mins % 2 ^ 32) (d.coef64 (R.MSn_HOLD_A0_LO n)))

/-- HOLD_MODEL_SET (R49, R51). (DEDUCED, log 111) -/
def holdModelSetSpec : CmdSpec where
  opcode := 0x0206
  params := [pu 1 8, ps 2 16, ps 8 48, ps 8 48, ps 8 48, ps 8 48]
  checks := fun c d => [c.msBad 0, (.state, decide (c.p 0 < 4) && decide (d.dpllState (c.p 0) = 3))]
  waits := fun _ d => d.tick.running
  run := fun c cid d =>
    let n := c.p 0
    let pair (lo v : Nat) := chg64 lo (v % 2 ^ 48)
    let cs := [chg (F.MSn_HOLD_TEMP.T_REF n) (c.p 1)] ++ pair (R.MSn_HOLD_A0_LO n) (c.p 2) ++ pair (R.MSn_HOLD_A1_LO n) (c.p 3) ++
      pair (R.MSn_HOLD_A2_LO n) (c.p 4) ++ pair (R.MSn_HOLD_D_LO n) (c.p 5)
    (cs.foldl Dev.pendChange d).buffered (cs ++ [.model n]) cid

def refMonCreate (src : Source) (d : Dev) : Dev := d.command refMonCreateSpec src none
def refMonDestroy (src : Source) (d : Dev) : Dev := d.command refMonDestroySpec src none
def dpllConfig (src : Source) (d : Dev) : Dev := d.command dpllConfigSpec src none
def dpllSelect (src : Source) (d : Dev) : Dev := d.command dpllSelectSpec src none
def dpllHoldover (src : Source) (d : Dev) : Dev := d.command dpllHoldoverSpec src none
def holdModelGet (src : Source) (dmaOk : Bool) (d : Dev) : Dev := d.command holdModelGetSpec src (dmaOf dmaOk)
def holdModelSet (src : Source) (d : Dev) : Dev := d.command holdModelSetSpec src none

end Sys2Proof.Machine
end

