-- ==== Sys2Proof/Machine/Carriage.lean ====
section
/-! DEFINITION. The grid of tick boundaries and its schedule points (R124, R129), and the frames that the device sends on the switch link:
line frames, line tags, queueing and transmission (R203 to R205, R208, R209). -/

namespace Sys2Proof.Machine

/-! ### The grid -/

/-- The instant of boundary `k` on the ToD scale, truncated to 2^-16 ns (R124). -/
def Dev.gridTime (d : Dev) (k : Nat) : Nat :=
  (d.time.epoch * d.tick.den + d.tick.epochRem + k * d.tick.num) / d.tick.den

/-- A change that forbids starts: a step, a period change or an epoch change is pending (R107, R115, R127). -/
def Dev.tickBusy (d : Dev) : Bool :=
  d.time.stepReq.isSome || d.tick.perReq.isSome || d.tick.epochReq.isSome || d.tick.epochLive

/-- Publication runs: RUN and DEGRADED (R181, R195). -/
def Mode.publishes : Mode → Bool
  | .run => true | .degraded => true
  | .boot => false | .configure => false | .test => false | .halt => false

/-! ### Frames -/

/-- The device number in the line (LINK_LINE.DEVICE). -/
def Dev.lineDevice (d : Dev) : Nat := d.get F.LINK_LINE.DEVICE

/-- LINE_ID; 0 means none (R208). -/
def Dev.lineId (d : Dev) : Nat := d.get F.LINK_LINE.LINE_ID

/-- The link is up (R200). -/
def Dev.linkUp (d : Dev) : Bool := d.bit F.LINK_STATUS.LINK_UP

/-- The 48 bits of an address pair. -/
def Dev.macOf (d : Dev) (lo : Nat) : Nat := d.get64 lo % 2 ^ 48

/-- The 16 B line header (Table 9-7). -/
def Dev.lineHeader (d : Dev) (msgType group count k : Nat) : List Byte :=
  leBytes 1 1 ++ leBytes 1 msgType ++ beBytes 2 d.lineId ++ leBytes 1 d.lineDevice ++ leBytes 1 0 ++ beBytes 2 group ++
    leBytes 1 0 ++ leBytes 1 count ++ beBytes 2 0 ++ beBytes 4 k

/-- A line frame from its DA to the end of its payload, padded to 60 B (R208). -/
def Dev.lineFrame (d : Dev) (da cls msgType group count k : Nat) (records : List Byte) : List Byte :=
  let vlan := if d.bit F.LINK_VLAN.VLAN_EN then beBytes 2 0x8100 ++ beBytes 2 (cls * 2 ^ 13 + d.get F.LINK_VLAN.VID) else []
  let f := beBytes 6 da ++ beBytes 6 (d.macOf R.LINK_MAC_LO) ++ vlan ++ beBytes 2 (d.get F.LINK_ETYPE.LINE_ETYPE) ++
    d.lineHeader msgType group count k ++ records
  f ++ List.replicate (60 - f.length) 0

/-- The multicast DA of the line with its low 11 bits replaced (R208). -/
def Dev.lineDa (d : Dev) (low : Nat) : Nat := d.macOf R.LINE_MCAST_LO / 2048 * 2048 + low

/-- FLAGS and GROUP of the line tag by kind of frame (Tables 9-3 and 9-8). -/
def FrameKind.flags : FrameKind → Nat
  | .pub _ => 0 | .shaft => 0 | .ptpEvent => 3 | .ptpGeneral => 1 | .tsync => 5 | .response => 1
def FrameKind.group : FrameKind → Nat
  | .pub g => g | .shaft => 0xFFFF | .ptpEvent => 0xFFFF | .ptpGeneral => 0xFFFF | .tsync => 0xFFFF | .response => 0xFFFF

/-- Whether a frame is a group or shaft-state frame (R215). -/
def FrameKind.line : FrameKind → Bool
  | .pub _ => true | .shaft => true
  | .ptpEvent => false | .ptpGeneral => false | .tsync => false | .response => false

/-- The 48 B line tag (Table 9-2). -/
def LinkFrame.tag (f : LinkFrame) (seq : Nat) : List Byte :=
  let t := beBytes 32 f.mask.toNat ++ beBytes 4 seq ++ beBytes 6 f.deadline ++ leBytes 1 f.cls ++ leBytes 1 f.kind.flags ++
    beBytes 2 f.kind.group
  t ++ beBytes 2 (crc16 t)

/-- The outer header of a carriage frame (Table 9-1). -/
def Dev.outerHeader (d : Dev) : List Byte :=
  beBytes 6 (d.macOf R.LINK_PEER_MAC_LO) ++ beBytes 6 (d.macOf R.LINK_MAC_LO) ++ beBytes 2 (d.get F.LINK_ETYPE.CARRIAGE_ETYPE)

/-- A frame joins those that wait in the link frame buffers of bank A (R209, Table 1-2). -/
def Dev.enqueue (d : Dev) (f : LinkFrame) : Dev :=
  ({ d with link := { d.link with queue := d.link.queue ++ [f] } }).sramSome 0

/-- A port mask of one port. -/
def portMask (p : Nat) : BitVec 256 := 1#256 <<< p

/-- The ports of a mask. -/
def maskPorts (m : BitVec 256) : List Nat := (List.range 256).filter m.getLsbD

/-- Whether a class is paused by received PFC (R202). -/
def Dev.classPaused (d : Dev) (cls : Nat) : Bool := (Tbl.get? d.link.paused cls).any fun t => decide (d.now < t)

/-- Whether a frame may leave now (R208, R219); nothing does in HALT (R282). -/
def Dev.mayTransmit (d : Dev) (f : LinkFrame) : Bool :=
  d.linkUp && decide (d.glb.mode ≠ .halt) && (!(f.kind.line || decide (f.kind = .response)) || decide (d.lineId ≠ 0))

/-- The frame that is transmitted next (R202, R209): of those that may leave, the highest class that is not paused, the oldest of it. -/
def Dev.nextFrame (d : Dev) : Option Nat :=
  let q := d.link.queue
  (List.range q.length).foldl (fun best i =>
    match q[i]? with
    | none => best
    | some f =>
      if d.classPaused f.cls ∨ !d.mayTransmit f then best
      else match best with
      | none => some i
      | some b => if (q[b]?.map (·.cls)).getD 0 < f.cls then some i else some b) none

/-- T1 and the rest of a time-sync unit's body, filled in as it is transmitted (Table 9-11). -/
def Dev.tsyncBody (d : Dev) : List Byte :=
  let t := d.tod16
  beBytes 6 (secOf t) ++ beBytes 4 (nsOf t) ++ beBytes 2 (fracOf t) ++ beBytes 4 (d.word R.LINK_DELAY).toNat ++
    beBytes 8 (wrapN 64 d.yTime) ++ beBytes 4 d.link.syncSeq ++ leBytes 1 (b2n (!d.link.delays.isEmpty) + 2 * b2n d.link.stepped) ++ beBytes 3 0

/-- The PTP message of a frame. -/
def FrameBody.ptp? : FrameBody → Option PtpOut
  | .ptp m => some m | .line _ => none | .reply _ => none | .tsync _ => none

/-- The 32 bytes of a key slot (LINK_KEY). -/
def Dev.lineKey (d : Dev) (slot : Nat) : List Byte :=
  (List.range 8).flatMap fun j => leBytes 4 (d.word (R.LINK_KEY slot j)).toNat

/-- The MAC of a record: over the SA and the bytes from the line header to ENTRY (R221). -/
def Dev.lineMac (d : Dev) (slot sa : Nat) (b : List Byte) : List Byte :=
  (hmacSha256 (d.lineKey slot) (beBytes 6 sa ++ b)).take 16

/-- The bytes of an in-band response in a traffic class, with the tick in which it is sent (R208, R220, R221, Tables 9-7 and 9-13). -/
def Dev.replyBytes (d : Dev) (cls : Nat) (r : InbandReply) : List Byte :=
  let k := d.tick.index
  let body := leBytes 1 r.entry.key ++ List.replicate 7 0 ++ beBytes 8 r.entry.seq ++ r.bytes ++ List.replicate 48 0
  let mac := d.lineMac r.entry.key (d.macOf R.LINK_MAC_LO) (d.lineHeader 5 0xFFFF 1 k ++ body)
  d.lineFrame r.entry.sa cls 5 0xFFFF 1 k (body ++ mac)

/-- The body of a frame of a class as it is sent. -/
def Dev.sentBody (d : Dev) (cls : Nat) (b : FrameBody) : FrameBody :=
  match b with
  | .reply r => .line (d.replyBytes cls r)
  | .tsync _ => .tsync d.tsyncBody
  | .line x => .line x
  | .ptp m => .ptp m

/-- DBG_LOOP.LINK_LB (R291): 0 none, 1 near-end, 2 far-end. -/
def Dev.linkLoop (d : Dev) : Nat := let v := d.get F.DBG_LOOP.LINK_LB; if v = 3 then 0 else v

/-- A frame goes out on SWL_TX; the far-end loopback sends what is received in its place, and the near-end one brings the frame back, which fits neither
form of a received frame and is discarded (R203, R206, R291). (DESIGN CHOICE, log 173) -/
def Dev.sendFrame (d : Dev) (head : List Byte) (b : FrameBody) : Dev :=
  let d1 := if d.linkLoop = 2 then d else d.emit (.carriage head b)
  if d.linkLoop = 1 then d1.count R.LINK_RX_DISCARD 1 else d1

/-- Whether what arrives on SWL_RX is received: the link is up, and no near-end loopback takes its place (R200, R291). -/
def Dev.receives (d : Dev) : Bool := d.linkUp && decide (d.linkLoop ≠ 1)

/-- A unit that arrives: the far-end loopback sends it again (R291). -/
def Dev.relayed (d : Dev) (unit : RxUnit) : Dev := if d.linkLoop = 2 then d.emit (.relay unit) else d

/-- What a group remembers of its last frames: SWL_TX by boundary (R175). -/
def Dev.noteTx (d : Dev) (f : LinkFrame) : Dev :=
  match f.kind with
  | .pub g =>
    match Tbl.get? d.fo.grps g with
    | some x => { d with fo := { d.fo with grps := Tbl.put d.fo.grps g { x with tx := ((f.k + 1, d.tod16) :: x.tx).take 4 } } }
    | none => d
  | .shaft => d
  | .ptpEvent => d
  | .ptpGeneral => d
  | .tsync => d
  | .response => d

/-- CHECKBIT injection is armed on line tags (R287). -/
def Dev.tagArmed (d : Dev) : Bool := decide (0 < d.flt.cbLeft ∧ d.flt.cbTarget = 4)

/-- The line tag as it is sent: with its CHECK inverted while an injection is armed (R287). -/
def Dev.sentTag (d : Dev) (f : LinkFrame) (seq : Nat) : List Byte :=
  let t := f.tag seq
  if d.tagArmed then t.take 46 ++ (t.drop 46).map (~~~ ·) else t

/-- A frame is transmitted (R204, R212, R213, R218): it takes the next SEQ, and the reports of its ports are outstanding; a time-sync unit has none. -/
def Dev.transmit (d : Dev) (f : LinkFrame) : Dev :=
  let seq := d.link.seq
  let l := { d.link with seq := (seq + 1) % 2 ^ 32 }
  let head := d.outerHeader ++ d.sentTag f seq
  let d0 := if d.tagArmed then d.cbUse seq else d
  match f.kind with
  | .tsync =>
    let l2 := { l with syncs := l.syncs ++ [(l.syncSeq, d.tod16)], syncSeq := (l.syncSeq + 1) % 2 ^ 32, stepped := false }
    { d0 with link := l2 }.sendFrame head (d.sentBody f.cls f.body)
  | _ =>
    let mine : SentFrame := ⟨seq, f.kind, maskPorts f.mask, f.k, d.now, d.tod16, f.body.ptp?⟩
    let l2 := { l with sent := if mine.ports.isEmpty then l.sent else l.sent ++ [mine] }
    ({ d0 with link := l2 }.noteTx f).sendFrame head (d.sentBody f.cls f.body)

end Sys2Proof.Machine
end

