-- ==== Sys2Proof/Machine/Shafts.lean ====
section
/-! DEFINITION. Line shafts and ramp profiles (R143 to R168): the planner, the advance of a tick, stops and starts, mirrors, the status
window, and the commands of Table 7-8. -/

namespace Sys2Proof.Machine

/-! ### Profiles -/

/-- The fields of a segment of 32 bytes (Table 7-1). -/
def segTarget (b : List Byte) : Int := signedN 64 (leAt b 0 8)
def segA (b : List Byte) : Nat := leAt b 8 8
def segJ (b : List Byte) : Nat := leAt b 16 8
def segDwell (b : List Byte) : Nat := leAt b 24 4
def segLast (b : List Byte) : Bool := (leAt b 28 1).testBit 0
def segSrc (b : List Byte) : Bool := (leAt b 28 1).testBit 1

/-- A segment within the ranges of Table 7-1, RSVD zero (R147). (DEDUCED, log 75) -/
def segOk (b : List Byte) : Bool :=
  decide (0 < segA b) && decide (segA b < 2 ^ 63) && decide (0 < segJ b) && decide (segJ b < 2 ^ 63) && decide (leAt b 28 4 < 4)

/-- A well-formed profile (R147). -/
def wellFormedSegs (segs : List (List Byte)) : Bool :=
  segs.all segOk && (segs.dropLast.all fun b => !segLast b) && segs.getLast?.any segLast

/-- The profile that a handle names. -/
def Dev.profOf (d : Dev) (h : Nat) : Option Prof := Tbl.get? d.sh.profs (hIdx h)

/-- A run profile meets its constraint (R147). -/
def Prof.fitsRun (p : Prof) : Bool := p.usable && p.segs.getLast?.any segSrc

/-- A stop or quick-stop profile meets its constraint (R147). -/
def Prof.fitsStop (p : Prof) : Bool :=
  p.usable && (p.segs.all fun b => !segSrc b) && p.segs.getLast?.any fun b => decide (segTarget b = 0)

/-- The profiles that a set of settings names meet their constraints (R147, R152, R161): a mirror's run profile is not looked at, and handle 0
stands for no profile of its own. -/
def Dev.profilesFit (d : Dev) (mirror : Bool) (c : ShaftCfg) : Bool :=
  (mirror || (d.profOf c.run).any Prof.fitsRun) &&
    ((decide (c.stop = 0) && mirror) || (d.profOf c.stop).any Prof.fitsStop) && (decide (c.qstop = 0) || (d.profOf c.qstop).any Prof.fitsStop)

/-- The profile that a stop runs (R147, R161): handle 0 of one stands for the other. -/
def ShaftCfg.stopProf (c : ShaftCfg) (quick : Bool) : Nat :=
  if quick then (if c.qstop = 0 then c.stop else c.qstop) else (if c.stop = 0 then c.qstop else c.stop)

/-! ### The planner (R148) -/

/-- A shift right that rounds toward minus infinity. -/
def sar (v : Int) (n : Nat) : Int := v.fdiv (2 ^ n)

/-- One planner step toward `vt` with limits `am` and `j`: the new v and a, and whether the segment has arrived (R148). -/
def planStep (v a vt am j : Int) : Int × Int × Bool :=
  let e := vt - v
  if e = 0 ∧ -j ≤ a ∧ a ≤ j then (v, 0, true)
  else
    let dir : Int := if 0 < e then 1 else if e < 0 then -1 else if 0 < a then -1 else 1
    let ad := dir * a
    let br := if 0 < ad then ad * (ad + j) / (2 * j) else 0
    let ad2 := if br + ad < dir * e then min (ad + j) (max am (ad - j)) else max (ad - j) 0
    let a2 := dir * ad2
    if e ≠ 0 ∧ 0 ≤ dir * (v + a2 - vt) then (vt, 0, true) else (v + a2, a2, false)

/-! ### Shafts -/

/-- Shaft `s`. -/
def Dev.shaftOf (d : Dev) (s : Nat) : Shaft := Tbl.getD d.sh.shafts s Shaft.reset

/-- Shaft `s` replaced. -/
def Dev.setShaft (d : Dev) (s : Nat) (x : Shaft) : Dev := { d with sh := { d.sh with shafts := Tbl.put d.sh.shafts s x } }

/-- A shaft is FREE. -/
def Dev.shaftFree (d : Dev) (s : Nat) : Bool := decide ((d.shaftOf s).st = .free)

/-- The speed shown, V (R143). -/
def Shaft.speed (x : Shaft) : Int := sar x.v 32

/-- A mirror that copies its owner (R163). -/
def Shaft.following (x : Shaft) : Bool := x.mirror && !x.isLocal

/-- At target (R144); for a mirror that follows, as its last record says. -/
def Shaft.atTarget (x : Shaft) : Bool :=
  if x.following then x.last.any (·.atTarget) else decide (x.v = x.target.tgt * 2 ^ 32) && decide (x.a = 0)

/-- A shaft that is advanced: RUNNING beyond ARMED, or STOPPING (R144). -/
def Shaft.advancing (x : Shaft) : Bool :=
  decide (x.st = .stopping) || (decide (x.st = .running) && decide (x.sub ≠ 1))

/-! ### The status window (R168) -/

/-- SHAFTs_STATE as the shaft stands. -/
def Dev.shaftStateNow (d : Dev) (s : Nat) (x : Shaft) : Nat :=
  x.st.code + x.sub * 16 + b2n x.mirror * 128 + b2n x.atTarget * 256 + b2n (decide (x.trim ≠ 0)) * 512 + b2n x.start?.isSome * 1024 +
    b2n x.stop?.isSome * 2048 + b2n x.lost * 4096 + b2n x.extrap * 8192 + d.gen 3 s * 65536 + x.seg % 256 * 2 ^ 24

/-- The 28 words of a shaft's window as the shaft stands. -/
def Dev.shaftWords (d : Dev) (s : Nat) (x : Shaft) : List Word :=
  let pair (v : Nat) : List Nat := [v, v / 2 ^ 32]
  ([d.shaftStateNow s x,
    x.cfg.lineId + (if x.mirror then x.owner else 0) * 65536 + x.cfg.clkLoss * 2 ^ 22 + b2n x.cfg.publish * 2 ^ 24 + b2n x.cfg.barrier * 2 ^ 25] ++
    pair x.posK ++ pair (x.pos / 65536) ++ [x.pos % 65536, x.dwell] ++ pair (wrapN 64 x.speed) ++ pair (wrapN 64 (sar x.a 16)) ++
    pair (wrapN 64 x.target.tgt) ++ [x.target.num, x.target.den, x.remAcc] ++ pair (wrapN 64 x.trim) ++
    [x.trimRate, x.cfg.run, x.cfg.stop, x.cfg.qstop, x.misses * 256 + x.cfg.missLimit] ++ pair ((x.start?.map (·.k)).getD 0) ++
    pair ((x.stop?.map (·.k)).getD 0)).map (BitVec.ofNat 32)

/-- The fields of a shaft's window change together: at the end of each advance, at each state change, and with each change that becomes live while no
tick runs (R168; DEDUCED, log 172). -/
def Dev.shaftShow (d : Dev) (s : Nat) : Dev :=
  let x := d.shaftOf s
  d.setShaft s { x with win := d.shaftWords s x }

/-- Word `i` of the window of shaft `s`; a FREE shaft's window reads zero except GEN. -/
def Dev.shaftWord (d : Dev) (s i : Nat) : Word :=
  let x := d.shaftOf s
  if x.st = .free then (if i = 0 then BitVec.ofNat 32 (d.gen 3 s * 65536) else 0) else x.win.getD i 0

/-- The SHAFT record (Table 13-2). -/
def Dev.shaftEvent (d : Dev) (s : Nat) (x : Shaft) (cause : Nat) : Dev :=
  d.eventLimited 0x070 [(1, s), (1, x.st.code), (1, x.sub), (1, cause), (8, d.tick.index)]

/-- A shaft replaced, with its window and a SHAFT record where its state or sub-state changes. -/
def Dev.shaftTo (d : Dev) (s : Nat) (x : Shaft) (cause : Nat) : Dev :=
  let old := d.shaftOf s
  let d1 := d.setShaft s x
  if old.st = x.st ∧ old.sub = x.sub then d1 else (d1.shaftShow s).shaftEvent s x cause

/-- The live bit of source SHAFT: a mirror is LOST (R280). -/
def Dev.shaftLive (d : Dev) : Dev := d.setLive 0x042 (d.sh.shafts.any fun p => p.2.lost)

/-- Shafts in motion (SHAFT_ACTIVE). -/
def Dev.shaftActive (d : Dev) : Nat :=
  d.sh.shafts.foldl (fun m p => if p.2.st.moving then m + 2 ^ p.1 else m) 0

/-- A shaft is RUNNING or STOPPING. -/
def Dev.anyShaft (d : Dev) : Bool := d.sh.shafts.any fun p => p.2.st.moving

/-- The start slot is cancelled with status STATE (Table 7-6), at boundary `k` where the stop takes effect at one, 0 elsewhere (R233). -/
def Dev.cancelStart (d : Dev) (s k : Nat) : Dev :=
  match (d.shaftOf s).start? with
  | some z => (d.setShaft s { d.shaftOf s with start? := none }).finishCid z.cid .state 0 k
  | none => d

/-- The stop slot is cancelled with status STATE (Table 7-6), which no boundary brings about. -/
def Dev.cancelStop (d : Dev) (s : Nat) : Dev :=
  match (d.shaftOf s).stop? with
  | some z => (d.setShaft s { d.shaftOf s with stop? := none }).finishCid z.cid .state 0 0
  | none => d

/-- A shaft is STOPPED at boundary `k` (R153, R154): its stops complete with the index of that boundary. (DEDUCED, log 76) -/
def Dev.shaftStopped (d : Dev) (s k cause : Nat) : Dev :=
  let x := d.shaftOf s
  let y := { x with st := .stopped, sub := 0, v := 0, a := 0, prof := none, seg := 0, dwell := 0, ended := false, isLocal := false,
                    taken := false, stop? := none }
  (d.shaftTo s y cause).finishWait (.shaftStop s) .ok 0 k

/-- A stop or quick-stop profile begins from the current v and a (R153). Where no such profile exists, the shaft is STOPPED at the
following boundary (DEDUCED, log 40). -/
def Dev.stopBegin (d : Dev) (s : Nat) (quick : Bool) (cause : Nat) : Dev :=
  let x := d.shaftOf s
  let h := x.cfg.stopProf quick
  let y := { x with st := .stopping, sub := if quick then 6 else 5, prof := if h = 0 then none else some (hIdx h), seg := 0, dwell := 0,
                    ended := decide (h = 0), isLocal := x.mirror, taken := true, cause := cause }
  d.shaftTo s y cause

/-- A stop takes effect at boundary or instant of tick `k` (R153, R165, Tables 7-4 and 7-6). `named` tells a SHAFT_STOP or LINE_STOP_ALL at its boundary,
which takes a mirror to STOPPED; any other cause makes a mirror run its own profile. Any stop cancels what the start slot holds, on a shaft in STOPPING too (DEDUCED, log 201). -/
def Dev.stopTake (d : Dev) (s k : Nat) (quick named : Bool) (cause : Nat) : Dev :=
  let x := d.shaftOf s
  if !x.st.moving then d
  else
    let d1 := d.cancelStart s (if named then k else 0)
    if x.sub = 1 ∨ (named ∧ x.following) then d1.shaftStopped s k cause
    else if x.st = .running ∨ x.following ∨ (quick ∧ x.sub = 5) then d1.stopBegin s quick cause
    else d1

/-- A quick stop by a trip or a fault reaction: it cancels both slots (Tables 7-4 and 7-6). -/
def Dev.quickStop (d : Dev) (cause s : Nat) : Dev :=
  if (d.shaftOf s).st.moving then ((d.cancelStart s 0).cancelStop s).stopTake s d.tick.index true false cause else d

/-- Every shaft in RUNNING or STOPPING quick-stops (Table 7-4). -/
def Dev.quickStopAll (d : Dev) (cause : Nat) : Dev := d.sh.shafts.keys.foldl (fun d s => d.quickStop cause s) d

/-- The loss-of-clock policies, taken at the first advance after the switch (R339, R340, Table 7-4). -/
def Dev.clockPolicies (d : Dev) : Dev :=
  match d.sh.clkLoss with
  | none => d
  | some oscin =>
    let d1 := d.sh.shafts.keys.foldl (fun d s =>
      let x := d.shaftOf s
      let p := if oscin ∧ x.cfg.clkLoss = 2 then 1 else x.cfg.clkLoss
      if x.st = .running ∧ p ≠ 2 then d.stopTake s d.tick.index (decide (p = 1)) false 3 else d) d
    { d1 with sh := { d1.sh with clkLoss := none } }

/-! ### The advance of a tick -/

/-- A segment is over: the next one, or the end of the profile (R148, R153). -/
def Shaft.segOver (x : Shaft) (n : Nat) (b : List Byte) : Shaft :=
  if x.seg + 1 < n then { x with seg := x.seg + 1, dwell := 0 }
  else if x.st = .stopping then { x with ended := true, dwell := 0 }
  else { x with prof := none, seg := 0, dwell := 0, trackA := segA b, trackJ := segJ b }

/-- What the planner does in one advance (R144, step 1; R148). -/
def Shaft.plan (x : Shaft) (profs : Tbl Prof) : Shaft :=
  match x.prof with
  | some p =>
    let segs := ((Tbl.get? profs p).map (·.segs)).getD []
    let b := segs.getD x.seg []
    if x.ended then x
    else if 1 < x.dwell then { x with dwell := x.dwell - 1 }
    else if x.dwell = 1 then x.segOver segs.length b
    else
      let vt := (if segSrc b then x.target.tgt else segTarget b) * 2 ^ 32
      let r := planStep x.v x.a vt (segA b * 2 ^ 16 : Nat) (segJ b)
      let y := { x with v := r.1, a := r.2.1 }
      if !r.2.2 then y else if segDwell b = 0 then y.segOver segs.length b else { y with dwell := segDwell b }
  | none =>
    if x.sub = 3 ∨ x.sub = 4 then
      let r := planStep x.v x.a (x.target.tgt * 2 ^ 32) (x.trackA * 2 ^ 16 : Nat) x.trackJ
      { x with v := r.1, a := r.2.1 }
    else x

/-- The carry of the remainder accumulator (R144, step 2): the new REM_ACC, and the LSB carried. -/
def carry (remAcc num den : Nat) : Nat × Int :=
  if den ≤ remAcc + num then (remAcc + num - den, 1) else (remAcc + num, 0)

/-- The trim step that an advance applies (R144, step 3). -/
def Shaft.trimStep (x : Shaft) : Int := clampTo x.trimRate x.trim

/-- A position of 80 bits moved by a signed step (R144, step 4). -/
def movePos (pos : Nat) (step : Int) : Nat := wrapN 80 ((pos : Int) + step)

/-- The sub-state of a shaft in RUNNING (Table 7-3). -/
def Shaft.runSub (x : Shaft) : Nat :=
  if x.prof.isSome then 2 else if x.atTarget then 3 else 4

/-- One advance of a shaft that plans its own motion, in tick `k` (R144). -/
def Shaft.advance (x : Shaft) (profs : Tbl Prof) (k : Nat) : Shaft :=
  let y := x.plan profs
  let c := if y.atTarget then carry y.remAcc y.target.num y.target.den else (y.remAcc, 0)
  let t := y.trimStep
  let step := y.speed + c.2 + t
  let z := { y with remAcc := c.1, trim := y.trim - t, pos := movePos y.pos step, posK := k + 1, delta := step, extrap := false,
                    first := y.taken, taken := false }
  if z.st = .running then { z with sub := z.runSub } else z

/-- The record with index `k` that a mirror may use in tick `k` (R163). -/
def Dev.recordFor (d : Dev) (id k : Nat) : Option ShaftRecord :=
  (Tbl.getD d.sh.recs id []).find? fun r => r.k = k

/-- The state that a mirror takes from a record (R163, R164): STOPPING and RUNNING as the record has them; one at rest leaves it (DEDUCED, log 77). -/
def Shaft.followSt (x : Shaft) (r : ShaftRecord) : ObjState :=
  if r.stopTaken ∨ r.state = 4 then .stopping else if r.state = 3 then .running else x.st

/-- One advance of a mirror from a record (R163, R164): the position is the record's, one step on; state, speed, acceleration and REM_ACC are the
record's. -/
def Shaft.follow (x : Shaft) (r : ShaftRecord) (k : Nat) : Shaft :=
  let step := if r.atTarget then (carry r.remAcc r.tgtNum (max 1 r.tgtDen)).2 else sar r.a 16
  let p := movePos r.pos (r.v + step + r.trimStep)
  { x with pos := p, posK := k + 1, v := r.v * 2 ^ 32, a := r.a * 2 ^ 16, remAcc := r.remAcc, last := some r, missRun := 0, extrap := false,
           delta := signedN 80 (wrapN 80 ((p : Int) - x.pos)), st := x.followSt r }

/-- One advance of a mirror without a usable record (R164): from its own position, speed and acceleration. (DEDUCED, log 77) -/
def Shaft.extrapolate (x : Shaft) (k : Nat) : Shaft :=
  let at' := x.atTarget
  let num := (x.last.map (·.tgtNum)).getD 0
  let den := (x.last.map fun r => max 1 r.tgtDen).getD 1
  let c := if at' then carry x.remAcc num den else (x.remAcc, sar x.a 32)
  let step := x.speed + c.2
  { x with pos := movePos x.pos step, posK := k + 1, v := if at' then x.v else x.v + x.a, remAcc := c.1, missRun := x.missRun + 1,
           misses := min (2 ^ 24 - 1) (x.misses + 1), delta := step, extrap := false }

/-- Shaft `s` advances in tick `k` (R144, R163, R164). A mirror that follows a stop is STOPPED by the first record that shows the owner
STOPPED and at rest. -/
def Dev.advanceShaft (d : Dev) (k s : Nat) : Dev :=
  let x := d.shaftOf s
  if !x.advancing then d.setShaft s { x with delta := 0, extrap := false, first := false }
  else if x.following then
    match d.recordFor x.cfg.lineId k with
    | some r =>
      if (x.st = .stopping ∨ r.stopTaken) ∧ r.state = 5 ∧ r.v = 0 ∧ r.a = 0 then
        (d.setShaft s { x with pos := r.pos % 2 ^ 80, posK := k, missRun := 0, last := some r, extrap := false,
                               delta := signedN 80 (wrapN 80 ((r.pos : Int) - x.pos)) }).shaftStopped s k 0
      else d.shaftTo s (x.follow r k) 0
    | none => d.setShaft s (x.extrapolate k)
  else d.shaftTo s (x.advance d.sh.profs k) x.cause

/-- Every shaft advances at the compute-start point (R144, R160), where its engine has power (R331). -/
def Dev.advanceShafts (d : Dev) : Dev :=
  if !d.domainOn 7 then d
  else
    let d1 := d.clockPolicies
    let d2 := { d1 with sh := { d1.sh with before := d1.sh.shafts } }
    d2.sh.shafts.keys.foldl (fun d s => (d.advanceShaft d.tick.index s).shaftShow s) d2

/-- Shaft `y` as an unfinished advance leaves it, where `x` is the shaft before the advance (R160): its position at K plus V, v and a unchanged, no
planner step. A stop that has begun since stays. -/
def Shaft.unfinished (y x : Shaft) (k : Nat) : Shaft :=
  let z := { y with pos := movePos x.pos x.speed, posK := k + 1, v := x.v, a := x.a, remAcc := x.remAcc, trim := x.trim, delta := x.speed,
                    extrap := true, misses := x.misses, missRun := x.missRun, last := x.last }
  if y.st = .stopping ∧ y.sub ≠ x.sub then z
  else { z with st := x.st, sub := x.sub, prof := x.prof, seg := x.seg, dwell := x.dwell, ended := x.ended, trackA := x.trackA, trackJ := x.trackJ }

/-- A shaft whose advance was not complete at compute complete (R160). -/
def Dev.unfinishedShaft (d : Dev) (s : Nat) : Dev :=
  match Tbl.get? d.sh.before s with
  | some x =>
    if x.advancing ∧ (d.shaftOf s).st.moving then (d.setShaft s ((d.shaftOf s).unfinished x d.tick.index)).shaftShow s else d
  | none => d

/-! ### Shaft-state records -/

/-- The record of a shaft for boundary `k` (R162, Table 7-7). A stop profile that has ended shows the state of that boundary, STOPPED. -/
def Dev.shaftRecord (d : Dev) (s k : Nat) : ShaftRecord :=
  let x := d.shaftOf s
  ⟨x.cfg.lineId, if x.ended then 5 else x.st.code, if x.ended then 0 else x.sub, x.atTarget, x.first, d.lineDevice, k, x.pos,
    x.speed, sar x.a 16, x.remAcc, x.target.num, x.target.den, x.trimStep⟩

/-- A record as bytes (Table 7-7), each field in the byte order given. -/
def recordBytes (r : ShaftRecord) (enc : Nat → Nat → List Byte) : List Byte :=
  enc 2 r.id ++ enc 1 (r.state % 8 + r.sub % 8 * 16) ++ enc 1 (b2n r.atTarget + 2 * b2n r.stopTaken) ++ enc 2 (r.pos % 65536) ++
    enc 2 (r.owner % 64) ++ enc 8 r.k ++ enc 8 (r.pos / 65536) ++ enc 8 (wrapN 64 r.v) ++ enc 8 (wrapN 64 r.a) ++ enc 4 r.remAcc ++
    enc 4 r.tgtNum ++ enc 4 r.tgtDen ++ enc 4 0 ++ enc 8 (wrapN 64 r.trimStep)

/-- The local shafts that publish (R161, R162). -/
def Dev.published (d : Dev) : List Nat :=
  d.sh.shafts.keys.filter fun s =>
    let x := d.shaftOf s
    x.cfg.publish && !x.mirror && decide (x.st ≠ .free)

/-- The mask of LINK_SS_MASK (R211). -/
def Dev.ssMask (d : Dev) : BitVec 256 :=
  (List.range 8).foldl (fun (m : BitVec 256) i => m ||| ((d.word (R.LINK_SS_MASK i)).setWidth 256 <<< (32 * i))) 0

/-- One shaft-state frame of at most 30 records (R162, R211). -/
def Dev.ssFrame (d : Dev) (ss : List Nat) : LinkFrame :=
  let k := d.tick.index
  let cls := d.get F.LINK_CLASS.SS_TC
  let recs := ss.flatMap fun s => recordBytes (d.shaftRecord s (k + 1)) beBytes
  let due := (d.gridTime (k + 1) + d.csOff) / 65536 - d.get F.LINK_SS_MARGIN.MARGIN
  ⟨.shaft, d.ssMask, cls, due % 2 ^ 48, .line (d.lineFrame (d.lineDa 0x400) cls 3 0xFFFF ss.length k recs), k, d.now⟩

/-- The shaft-state frames of a tick, in ascending shaft number (R162). -/
def Dev.ssFrameList (d : Dev) : List LinkFrame :=
  let p := d.published
  ([p.take 30, (p.drop 30).take 30, p.drop 60].filter fun ss => !ss.isEmpty).map d.ssFrame

/-- The shaft-state frames of a tick are handed over (R162, R209). -/
def Dev.ssFrames (d : Dev) : Dev := d.ssFrameList.foldl Dev.enqueue d

/-- The frames of a queue that answer a test, replaced in order by the bodies of `fs`. -/
def replaceBodies (p : LinkFrame → Bool) : List LinkFrame → List LinkFrame → List LinkFrame
  | [], _ => []
  | q :: qs, [] => q :: qs
  | q :: qs, f :: fs => if p q then { q with body := f.body } :: replaceBodies p qs fs else q :: replaceBodies p qs (f :: fs)

/-- The shaft-state frames of the tick that still wait describe the shafts as they now are, after advances that were not complete (R160, R162). -/
def Dev.ssAnew (d : Dev) : Dev :=
  let mine (f : LinkFrame) : Bool := decide (f.kind = .shaft) && decide (f.k = d.tick.index)
  let fs := d.ssFrameList
  let waits := (d.link.queue.filter mine).length
  { d with link := { d.link with queue := replaceBodies mine d.link.queue (fs.drop (fs.length - waits)) } }

/-- A received record (R163, R165, R166). -/
def Dev.receiveRecord (d : Dev) (r : ShaftRecord) : Dev :=
  if d.published.any fun s => decide ((d.shaftOf s).cfg.lineId = r.id) then
    if (Tbl.get? d.sh.conflict r.id).any fun t => !d.passed t (1000 * msec) then d
    else ({ d with sh := { d.sh with conflict := Tbl.put d.sh.conflict r.id d.now } }).sendFault 0x042 0x02 .u r.id
  else
    let old := (Tbl.getD d.sh.recs r.id []).filter fun x => decide (d.tick.index ≤ x.k)
    let d1 := { d with sh := { d.sh with recs := Tbl.put d.sh.recs r.id ((r :: old).take 4) } }
    { d1 with sh := { d1.sh with shafts := d1.sh.shafts.each fun _ x =>
        if x.mirror ∧ x.cfg.lineId = r.id then { x with owner := r.owner % 64 } else x } }

/-- A record shows its owner at rest (R165). -/
def recordAtRest (r : ShaftRecord) : Bool :=
  (decide (r.state = 2) || decide (r.state = 5) || (decide (r.state = 3) && decide (r.sub = 1))) && decide (r.v = 0) && decide (r.a = 0)

/-- The newest record for an ID, if it is usable for a start or stop of its mirror (R165). -/
def Dev.restRecord (d : Dev) (id : Nat) : Option ShaftRecord :=
  match (Tbl.getD d.sh.recs id []).head? with
  | some r => if (r.k = d.tick.index ∨ r.k = d.tick.index + 1) ∧ recordAtRest r then some r else none
  | none => none

/-- MIRROR_LOST (R164): the miss limit is reached, and the mirror quick-stops on its own. -/
def mirrorLost (s : Nat) (d : Dev) : Dev :=
  let x := d.shaftOf s
  if x.following ∧ x.advancing ∧ x.cfg.missLimit ≤ x.missRun then
    let d1 := (d.cancelStart s 0).cancelStop s
    ((d1.setShaft s { d1.shaftOf s with lost := true }).stopBegin s true 4).shaftLive.sendFault 0x042 0x01 .u s
  else d

/-! ### What boundaries bring -/

/-- A speed target becomes live (R144, R155): REM_ACC is rescaled where TGT_DEN changes. -/
def Shaft.retarget (x : Shaft) (t : SpeedTarget) : Shaft :=
  let y := { x with target := t, remAcc := if t.den = x.target.den then x.remAcc else x.remAcc * t.den / x.target.den }
  if y.st = .running ∧ (y.sub = 3 ∨ y.sub = 4) then { y with sub := y.runSub } else y

/-- What one SHAFT_CONFIG carries becomes live (R155). -/
def Shaft.configure (x : Shaft) (c : ShaftCfg) (t : SpeedTarget) (rate : Nat) (preset : Option Nat) : Shaft :=
  let y := { x.retarget t with cfg := c, trimRate := if rate = 0 then x.trimRate else rate }
  match preset with
  | some p => { y with pos := p, remAcc := 0, trim := 0 }
  | none => y

/-- Shafts whose stop profile ended are STOPPED at the boundary `k` that opens (R153). -/
def Dev.shaftEnds (d : Dev) (k : Nat) : Dev :=
  d.sh.shafts.keys.foldl (fun d s => if (d.shaftOf s).ended then d.shaftStopped s k (d.shaftOf s).cause else d) d

/-- An armed SHAFT_STOP at its boundary (R153, R154); where it finds no moving shaft its slot is free, and its command waits for the shaft to be STOPPED (DEDUCED, log 202). -/
def Dev.shaftStopAt (d : Dev) (k s : Nat) : Dev :=
  match (d.shaftOf s).stop? with
  | some z => if z.k = k then (d.setShaft s { d.shaftOf s with stop? := none }).stopTake s k z.quick true 0 else d
  | none => d

/-- A local shaft enters PROFILE, or a mirror FOLLOWING, at boundary `k` (R152, R165). -/
def Dev.shaftRun (d : Dev) (k s : Nat) (checked : Option ShaftRecord) : Dev :=
  let x := d.shaftOf s
  if x.mirror then
    let r := match d.recordFor x.cfg.lineId k with | some r => some r | none => checked
    let y := { x with st := .running, sub := 7, isLocal := false, lost := false, missRun := 0, prof := none, ended := false, a := 0, last := r,
                      pos := (r.map (·.pos % 2 ^ 80)).getD x.pos, posK := k, remAcc := (r.map (·.remAcc)).getD x.remAcc,
                      v := (r.map (·.v * 2 ^ 32)).getD 0, cause := 0 }
    (d.shaftTo s y 0).shaftLive
  else
    d.shaftTo s { x with st := .running, sub := 2, v := 0, a := 0, prof := some (hIdx x.cfg.run), seg := 0, dwell := 0, ended := false,
                         lost := false, cause := 0 } 0

/-- An armed SHAFT_START or SHAFT_RETUNE at its boundary (R152, R158); in DEGRADED a start is dropped. -/
def Dev.shaftStartAt (d : Dev) (k s : Nat) : Dev :=
  let x := d.shaftOf s
  match x.start? with
  | some z =>
    if z.k ≠ k then d
    else
      let d1 := d.setShaft s { x with start? := none }
      match z.retune with
      | some t => (d1.shaftTo s ((d1.shaftOf s).retarget t) 0).finishCid z.cid .ok 0 k
      | none =>
        if d.glb.mode = .degraded then (d1.shaftTo s { d1.shaftOf s with st := z.back, sub := 0 } 0).finishCid z.cid .mode 0 k
        else (d1.shaftRun k s z.checked).finishCid z.cid .ok 0 k
  | none => d

/-- The shafts that take part in a barrier (R158). -/
def Dev.barrier (d : Dev) : List Nat := d.sh.shafts.keys.filter fun s => (d.shaftOf s).cfg.barrier

/-- Whether a shaft starts at a LINE_START_ALL (R152, R158, R165). -/
def Dev.lineStarts (d : Dev) (s : Nat) : Bool :=
  let x := d.shaftOf s
  (decide (x.st = .configured) || decide (x.st = .stopped)) && d.profilesFit x.mirror x.cfg && !d.tickBusy &&
    (!x.mirror || (d.restRecord x.cfg.lineId).isSome)

/-- Whether a shaft stops at a LINE_STOP_ALL (R158, R165). -/
def Dev.lineStops (d : Dev) (s : Nat) : Bool :=
  let x := d.shaftOf s
  if x.mirror then x.st.moving && (d.restRecord x.cfg.lineId).isSome else decide (x.st = .running)

/-- A mask of shafts. -/
def shaftMask (l : List Nat) : Nat := l.foldl (fun m s => m + 2 ^ s) 0

/-- LINE_START_ALL at boundary `k` (R158). -/
def Dev.lineStartAt (d : Dev) (k : Nat) (cid : Option Nat) : Dev :=
  if d.glb.mode ≠ .run then d.finishCid cid .mode (k % 2 ^ 32) 0
  else
    let l := d.barrier.filter d.lineStarts
    (l.foldl (fun d s => d.shaftRun k s (d.restRecord (d.shaftOf s).cfg.lineId)) d).finishCid cid .ok (k % 2 ^ 32) (shaftMask l)

/-- LINE_STOP_ALL at boundary `k` (R158). -/
def Dev.lineStopAt (d : Dev) (k : Nat) (quick : Bool) (cid : Option Nat) : Dev :=
  let l := d.barrier.filter d.lineStops
  (l.foldl (fun d s => d.stopTake s k quick true 0) d).finishCid cid .ok (k % 2 ^ 32) (shaftMask l)

/-! ### Commands -/

/-- A step, a period or an epoch change is pending, or the tick does not run (R152, R369). -/
def Dev.noStart (d : Dev) : Bool := d.tickBusy || !d.tick.running

/-- SHAFT_CREATE (R161, R167). -/
def shaftCreateSpec : CmdSpec where
  opcode := 0x0500
  params := [pu 1 8, pu 1 8]
  checks := fun c d => [(.range, decide (64 ≤ c.p 0 ∧ c.p 0 ≠ 0xFF) || decide (1 < c.p 1)),
    (.noResource, if c.p 0 = 0xFF then (lowestFree 64 d.shaftFree).isNone else decide (c.p 0 < 64) && !d.shaftFree (c.p 0))]
  run := fun c _ d =>
    let s := if c.p 0 = 0xFF then (lowestFree 64 d.shaftFree).getD 0 else c.p 0
    (d.shaftTo s { Shaft.reset with st := .created, mirror := decide (c.p 1 = 1) } 0, .ok (d.handle 3 s) 0)

/-- A follower is bound to shaft `s` (R151, R169). -/
def Dev.shaftBound (d : Dev) (s : Nat) : Bool :=
  d.fo.fols.any fun p => p.2.bind.any (fun b => decide (b.shaft = s)) || p.2.nbind.any (fun b => decide (b.shaft = s))

/-- Whether a change belongs to shaft `s`. -/
def Change.ofShaft (s : Nat) : Change → Bool
  | .shaftCfg x _ _ _ _ => decide (x = s)
  | .shaftTarget x _ => decide (x = s)
  | .shaftTrim x _ _ _ => decide (x = s)
  | _ => false

/-- Changes that wait are dropped with the object they belong to (R240). -/
def Dev.dropChanges (d : Dev) (p : Change → Bool) : Dev :=
  { d with pendNow := d.pendNow.filter fun b => !p b.change, pendLate := d.pendLate.filter fun b => !p b.change }

/-- SHAFT_DESTROY (R151). -/
def shaftDestroySpec : CmdSpec where
  opcode := 0x0501
  ty := 3
  isFree := Dev.shaftFree
  checks := fun c d => [(.state, (d.shaftOf c.idx).st.moving || d.shaftBound c.idx)]
  run := fun c _ d =>
    let s := c.idx
    let d1 := (((d.dropChanges (Change.ofShaft s)).shaftTo s Shaft.reset 0).bumpGen 3 s).endStale c.handle
    ({ d1 with sh := { d1.sh with shafts := Tbl.del d1.sh.shafts s } }.shaftLive, .ok 0 0)

/-- A profile that no PROF_CREATE made. -/
def Dev.profFree (d : Dev) (p : Nat) : Bool := (Tbl.get? d.sh.profs p).isNone

/-- The settings that SHAFT_CONFIG names. -/
def Cmd.shaftCfg (c : Cmd) : ShaftCfg :=
  ⟨c.p 0, c.p 1, c.p 2, c.p 9, decide (c.p 10 = 1), decide (c.p 11 = 1), c.p 12, c.p 13⟩

/-- Another shaft of this device makes a line shaft ID a duplicate (R161). -/
def Dev.idTaken (d : Dev) (s id : Nat) (mirror : Bool) : Bool :=
  decide (id ≠ 0) && d.sh.shafts.any fun p => decide (p.1 ≠ s) && decide (p.2.ncfg.lineId = id) && (!p.2.mirror || !mirror)

/-- SHAFT_CONFIG (R147, R155, R161). The state changes as the command executes, the settings at the boundary. (DEDUCED, log 84) -/
def shaftConfigSpec : CmdSpec where
  opcode := 0x0502
  flagMask := 1
  ty := 3
  isFree := Dev.shaftFree
  params := [pu 4 32, pu 4 32, pu 4 32, pu 4 32, ps 8 64, pu 4 32, pu 4 32, pu 8 64, pu 2 16, pu 2 16, pu 1 1, pu 1 1, pu 1 2, pu 1 8]
  handles := [
    { idx := 0, ty := 6, zero := false, isFree := Dev.profFree, skip := fun c d => (d.shaftOf c.idx).mirror },
    { idx := 1, ty := 6, zero := false, isFree := Dev.profFree,
      skip := fun c d => (d.shaftOf c.idx).mirror && decide (c.p 1 = 0) && decide (c.p 2 ≠ 0) },
    { idx := 2, ty := 6, zero := true, isFree := Dev.profFree }]
  checks := fun c d =>
    let x := d.shaftOf c.idx
    let g := c.shaftCfg
    [(.state, x.st.moving),
     (.range, decide (c.p 5 ≤ c.p 3) || decide (2 < g.clkLoss) || decide (g.missLimit = 0) || !d.profilesFit x.mirror g ||
       (decide (g.lineId = 0) && (x.mirror || g.publish)) || d.idTaken c.idx g.lineId x.mirror)]
  waits := fun _ d => d.tick.running
  run := fun c cid d =>
    let s := c.idx
    let x := d.shaftOf s
    let preset := if c.flag 0 then some (c.p 7 * 65536 + c.p 8) else none
    (d.shaftTo s { x with st := .configured, sub := 0, ncfg := c.shaftCfg } 0).buffered
      [.shaftCfg s c.shaftCfg ⟨c.sp 4 64, c.p 3, c.p 5⟩ (c.p 6) preset] cid

/-- SHAFT_START (R152, R157, R165). -/
def shaftStartSpec : CmdSpec where
  opcode := 0x0503
  ty := 3
  isFree := Dev.shaftFree
  params := [pu 8 64]
  modes := fun m => decide (m = .run)
  checks := fun c d =>
    let x := d.shaftOf c.idx
    [(.state, !(decide (x.st = .configured) || decide (x.st = .stopped)) || d.noStart || !d.profilesFit x.mirror x.ncfg ||
       (x.mirror && (d.restRecord x.ncfg.lineId).isNone)),
     (.busy, x.start?.isSome), (.deadline, decide (c.p 0 ≠ 0) && d.tooNear (c.p 0))]
  waits := fun _ _ => true
  run := fun c cid d =>
    let s := c.idx
    let x := d.shaftOf s
    let k := d.bndOf (c.p 0)
    ((d.shaftTo s { x with st := .running, sub := 1, v := 0, a := 0, start? := some ⟨k, none, d.restRecord x.ncfg.lineId, x.st, some cid⟩ } 0).arm k
      (.shaftStart s) none, .wait .armed 0 k)

/-- SHAFT_STOP (R153, R154, R157, R165). -/
def shaftStopSpec : CmdSpec where
  opcode := 0x0504
  flagMask := 1
  ty := 3
  isFree := Dev.shaftFree
  params := [pu 8 64]
  modes := fun m => decide (m = .run) || decide (m = .degraded) || decide (m = .test)
  checks := fun c d =>
    let x := d.shaftOf c.idx
    [(.state, !x.st.moving || !d.tick.running || (x.mirror && (d.restRecord x.cfg.lineId).isNone)),
     (.busy, x.stop?.isSome), (.deadline, decide (c.p 0 ≠ 0) && d.tooNear (c.p 0))]
  waits := fun _ _ => true
  run := fun c cid d =>
    let s := c.idx
    let k := d.bndOf (c.p 0)
    ((d.setShaft s { d.shaftOf s with stop? := some ⟨k, c.flag 0, some cid⟩ }).arm k (.shaftStop s) none, .wait (.shaftStop s) 0 0)

/-- SHAFT_SPEED (R155). -/
def shaftSpeedSpec : CmdSpec where
  opcode := 0x0505
  ty := 3
  isFree := Dev.shaftFree
  params := [ps 8 64, pu 4 32, pu 4 32]
  checks := fun c d => [(.state, (d.shaftOf c.idx).mirror), (.range, decide (c.p 2 ≤ c.p 1))]
  waits := fun _ d => d.tick.running
  run := fun c cid d => d.buffered [.shaftTarget c.idx ⟨c.sp 0 64, c.p 1, c.p 2⟩] cid

/-- SHAFT_TRIM (R155). -/
def shaftTrimSpec : CmdSpec where
  opcode := 0x0506
  flagMask := 1
  ty := 3
  isFree := Dev.shaftFree
  params := [ps 8 64, pu 4 32]
  checks := fun c d =>
    let x := d.shaftOf c.idx
    let t := if c.flag 0 then x.trim + c.sp 0 64 else c.sp 0 64
    [(.state, x.mirror), (.range, decide (t < -(2 ^ 63)) || decide (2 ^ 63 ≤ t))]
  waits := fun _ d => d.tick.running
  run := fun c cid d => d.buffered [.shaftTrim c.idx (c.flag 0) (c.sp 0 64) (c.p 1)] cid

/-- SHAFT_RETUNE (R157, R158). -/
def shaftRetuneSpec : CmdSpec where
  opcode := 0x0507
  ty := 3
  isFree := Dev.shaftFree
  params := [ps 8 64, pu 4 32, pu 4 32, pu 8 64]
  checks := fun c d =>
    let x := d.shaftOf c.idx
    [(.state, x.mirror || !d.tick.running), (.range, decide (c.p 2 ≤ c.p 1)), (.busy, x.start?.isSome),
     (.deadline, decide (c.p 3 ≠ 0) && d.tooNear (c.p 3))]
  waits := fun _ _ => true
  run := fun c cid d =>
    let s := c.idx
    let k := d.bndOf (c.p 3)
    let z : ShaftStart := ⟨k, some ⟨c.sp 0 64, c.p 1, c.p 2⟩, none, (d.shaftOf s).st, some cid⟩
    ((d.setShaft s { d.shaftOf s with start? := some z }).arm k (.shaftStart s) none, .wait .armed 0 k)

/-- SHAFT_STATUS (R246). -/
def shaftStatusSpec : CmdSpec where
  opcode := 0x0508
  ty := 3
  isFree := Dev.shaftFree
  params := [pu 8 64]
  hostAddr := some 0
  run := fun c _ d =>
    let s := c.idx
    d.toHost c (c.p 0) ((List.range 28).flatMap fun i => leBytes 4 (d.shaftWord s i).toNat)
      (.ok (d.shaftWord s 0).toNat ((d.shaftWord s 4).toNat + 2 ^ 32 * (d.shaftWord s 5).toNat))

/-- The first place in a store of `size` where a run of `n` is free, given the runs in use in order of their number (R146, R177). -/
def firstFit (size n : Nat) (used : List (Nat × Nat)) : Option Nat :=
  let starts := 0 :: used.map fun u => u.1 + u.2
  (starts.filter fun a => decide (a + n ≤ size) && used.all fun u => decide (a + n ≤ u.1) || decide (u.1 + u.2 ≤ a)).foldl
    (fun best a => match best with | none => some a | some b => some (min a b)) none

/-- The runs of the profile store in use. -/
def Dev.profRuns (d : Dev) : List (Nat × Nat) := d.sh.profs.map fun p => (p.2.first, p.2.segs.length)

/-- PROF_CREATE (R146): the lowest free number, the lowest run that fits, and segments of zeros (DESIGN CHOICE, log 200). -/
def profCreateSpec : CmdSpec where
  opcode := 0x0510
  params := [pu 2 16]
  checks := fun c d => [(.range, decide (c.p 0 = 0) || decide (256 < c.p 0)),
    (.noResource, (firstFit 4096 (c.p 0) d.profRuns).isNone || (lowestFree 1024 d.profFree).isNone)]
  run := fun c _ d =>
    let p := (lowestFree 1024 d.profFree).getD 0
    let x : Prof := ⟨(firstFit 4096 (c.p 0) d.profRuns).getD 0, List.replicate (c.p 0) (List.replicate 32 0), false⟩
    ({ d with sh := { d.sh with profs := Tbl.put d.sh.profs p x } }, .ok (d.handle 6 p) 0)

/-- A profile is assigned to a shaft (R147). -/
def Shaft.assigned (x : Shaft) (p : Nat) : Bool :=
  [x.cfg.run, x.cfg.stop, x.cfg.qstop, x.ncfg.run, x.ncfg.stop, x.ncfg.qstop].any fun h => decide (h ≠ 0) && decide (hIdx h = p)

/-- PROF_DESTROY (R147). -/
def profDestroySpec : CmdSpec where
  opcode := 0x0511
  ty := 6
  isFree := Dev.profFree
  checks := fun c d => [(.state, d.sh.shafts.any fun s => s.2.assigned c.idx)]
  run := fun c _ d => (({ d with sh := { d.sh with profs := Tbl.del d.sh.profs c.idx } }.bumpGen 6 c.idx).endStale c.handle, .ok 0 0)

/-- Segments or points of `size` bytes written from `first` on, out of the bytes of a transfer. -/
def writeUnits (l : List (List Byte)) (first size count : Nat) (b : List Byte) : List (List Byte) :=
  (List.range count).foldl (fun l i => l.set (first + i) (slice b (size * i) size)) l

/-- The SEGMENT of a PROF_LOAD as Table 7-1 lays it out: in a frame its fields are in network order (R9). -/
def Cmd.segBytes (c : Cmd) : List Byte :=
  let b := leBytes 32 (c.p 2)
  if c.entry.net then
    (slice b 0 8).reverse ++ (slice b 8 8).reverse ++ (slice b 16 8).reverse ++ (slice b 24 4).reverse ++ slice b 28 1 ++ (slice b 29 3).reverse
  else b

/-- PROF_LOAD (R147): the segments are written, then the whole profile is checked. -/
def profLoadSpec : CmdSpec where
  opcode := 0x0512
  flagMask := 1
  ty := 6
  isFree := Dev.profFree
  params := [pu 2 16, pu 2 16, pu 32 256, pu 8 64]
  hostAddr := some 3
  dmaBit := true
  checks := fun c d =>
    let n := ((Tbl.get? d.sh.profs c.idx).map (·.segs.length)).getD 0
    let cnt := if c.flag 0 then c.p 1 else 1
    [(.state, d.sh.shafts.any fun s => s.2.st.moving && s.2.assigned c.idx),
     (.range, decide (cnt = 0) || decide (n < c.p 0 + cnt))]
  run := fun c _ d =>
    match Tbl.get? d.sh.profs c.idx with
    | none => (d, .ok 0 0)
    | some x =>
      let put (cnt : Nat) (b : List Byte) : Dev × Res :=
        let segs := writeUnits x.segs (c.p 0) 32 cnt b
        let ok := wellFormedSegs segs
        ({ d with sh := { d.sh with profs := Tbl.put d.sh.profs c.idx { x with segs := segs, usable := ok } } }.sramWrite 0 (4 * cnt),
          if ok then .ok 0 0 else .done .range 0 0 false)
      if c.flag 0 then
        match c.dma with
        | none => (d.sendFault 0x004 0x02 .c (c.p 3), .done .internal 0 0 true)
        | some b => put (c.p 1) b
      else put 1 c.segBytes

/-- PROF_READ (R146). -/
def profReadSpec : CmdSpec where
  opcode := 0x0513
  ty := 6
  isFree := Dev.profFree
  params := [pu 8 64]
  hostAddr := some 0
  run := fun c _ d =>
    let segs := ((Tbl.get? d.sh.profs c.idx).map (·.segs)).getD []
    d.toHost c (c.p 0) (segs.flatMap id) (.ok segs.length 0)

/-- LINE_START_ALL (R158). -/
def lineStartAllSpec : CmdSpec where
  opcode := 0x0B10
  params := [pu 8 64]
  modes := fun m => decide (m = .run)
  checks := fun c d => [(.state, d.noStart), (.deadline, d.tooNear (c.p 0))]
  waits := fun _ _ => true
  run := fun c cid d => (d.arm (c.p 0) .lineStart (some cid), .wait .armed 0 0)

/-- LINE_STOP_ALL (R158). -/
def lineStopAllSpec : CmdSpec where
  opcode := 0x0B11
  flagMask := 1
  params := [pu 8 64]
  checks := fun c d => [(.state, !d.tick.running), (.deadline, d.tooNear (c.p 0))]
  waits := fun _ _ => true
  run := fun c cid d => (d.arm (c.p 0) (.lineStop (c.flag 0)) (some cid), .wait .armed 0 0)

def shaftCreate (src : Source) (d : Dev) : Dev := d.command shaftCreateSpec src none
def shaftDestroy (src : Source) (d : Dev) : Dev := d.command shaftDestroySpec src none
def shaftConfig (src : Source) (d : Dev) : Dev := d.command shaftConfigSpec src none
def shaftStart (src : Source) (d : Dev) : Dev := d.command shaftStartSpec src none
def shaftStop (src : Source) (d : Dev) : Dev := d.command shaftStopSpec src none
def shaftSpeed (src : Source) (d : Dev) : Dev := d.command shaftSpeedSpec src none
def shaftTrim (src : Source) (d : Dev) : Dev := d.command shaftTrimSpec src none
def shaftRetune (src : Source) (d : Dev) : Dev := d.command shaftRetuneSpec src none
def shaftStatus (src : Source) (dmaOk : Bool) (d : Dev) : Dev := d.command shaftStatusSpec src (dmaOf dmaOk)
def profCreate (src : Source) (d : Dev) : Dev := d.command profCreateSpec src none
def profDestroy (src : Source) (d : Dev) : Dev := d.command profDestroySpec src none
def profLoad (src : Source) (dma : Option (List Byte)) (d : Dev) : Dev := d.command profLoadSpec src dma
def profRead (src : Source) (dmaOk : Bool) (d : Dev) : Dev := d.command profReadSpec src (dmaOf dmaOk)
def lineStartAll (src : Source) (d : Dev) : Dev := d.command lineStartAllSpec src none
def lineStopAll (src : Source) (d : Dev) : Dev := d.command lineStopAllSpec src none

end Sys2Proof.Machine
end

