-- ==== Sys2Proof/Machine/Followers.lean ====
section
/-! DEFINITION. Followers, cams and publication groups (R169 to R198): gearing, setpoints, lock evaluation, delivery, latency, and the
commands of Table 8-11. -/

namespace Sys2Proof.Machine

/-! ### Objects -/

/-- Follower `f`. -/
def Dev.folOf (d : Dev) (f : Nat) : Fol := Tbl.getD d.fo.fols f Fol.reset

/-- Follower `f` replaced. -/
def Dev.setFol (d : Dev) (f : Nat) (x : Fol) : Dev := { d with fo := { d.fo with fols := Tbl.put d.fo.fols f x } }

/-- A follower is FREE. -/
def Dev.folFree (d : Dev) (f : Nat) : Bool := decide ((d.folOf f).st = .free)

/-- Group `g`. -/
def Dev.grpOf (d : Dev) (g : Nat) : Grp := Tbl.getD d.fo.grps g Grp.reset

/-- Group `g` replaced. -/
def Dev.setGrp (d : Dev) (g : Nat) (x : Grp) : Dev := { d with fo := { d.fo with grps := Tbl.put d.fo.grps g x } }

/-- No group of this number. -/
def Dev.grpFree (d : Dev) (g : Nat) : Bool := (Tbl.get? d.fo.grps g).isNone

/-- No curve of this number. -/
def Dev.camFree (d : Dev) (c : Nat) : Bool := (Tbl.get? d.fo.cams c).isNone

/-- The live bit of source FOL: any follower is TRIPPED (R280). -/
def Dev.folLive (d : Dev) : Dev := d.setLive 0x043 (d.fo.fols.any fun p => decide (p.2.lock = 5))

/-- The followers that are members of group `g` (R194). -/
def Dev.members (d : Dev) (g : Nat) : List Nat :=
  d.fo.fols.keys.filter fun f => (d.folOf f).bind.any fun b => decide (b.group = g)

/-- The member that holds a slot. -/
def Dev.slotOf (d : Dev) (g slot : Nat) : Option Nat :=
  (d.members g).find? fun f => (d.folOf f).bind.any fun b => decide (b.slot = slot)

/-- A follower is quiesced (R169). -/
def Fol.quiesced (x : Fol) : Bool :=
  decide (x.st = .created) || decide (x.st = .configured) || decide (x.st = .stopped)

/-! ### Cams (R179) -/

/-- The value and slope of a point of 16 bytes (Table 8-2). -/
def camY (b : List Byte) : Int := signedN 64 (leAt b 0 8)
def camSlope (b : List Byte) : Int := signedN 64 (leAt b 8 8)

/-- The cubic of one interval at `t` in units of 2^-32 (R179). -/
def hermite (y0 m0 y1 m1 : Int) (t : Nat) : Int :=
  let dd := y1 - y0
  let c2 := 3 * dd - 2 * m0 - m1
  let c3 := m0 + m1 - 2 * dd
  let r1 := c2 + sar (c3 * t) 32
  let r2 := m0 + sar (r1 * t) 32
  y0 + sar (r2 * t) 32

/-- The output of a curve for a cam input of 80 bits (R179). -/
def Cam.output (c : Cam) (x : Nat) : Nat :=
  let n := c.pts.length
  let cyc : Nat := x / 2 ^ 48 % 2 ^ 32
  let u : Nat := x % 2 ^ 48 * n
  let i : Nat := u / 2 ^ 48
  let t : Nat := u % 2 ^ 48 / 65536
  let p0 := c.pts.getD i []
  let first := c.pts.getD 0 []
  let p1 := c.pts.getD (i + 1) []
  let y1 := if i + 1 < n then camY p1 else camY first + c.lift
  let m1 := if i + 1 < n then camSlope p1 else camSlope first
  wrapN 64 ((cyc : Int) * c.lift + hermite (camY p0) (camSlope p0) y1 m1 t)

/-! ### One tick of a follower -/

/-- The geared update of R170: G and FREM after a shaft step. -/
def gearStep (g frem : Nat) (delta n : Int) (m : Nat) : Nat × Nat :=
  let t := delta * n + frem
  let q := t.fdiv m
  (wrapN 80 ((g : Int) + q), (t - q * m).toNat)

/-- The applied offset moved toward its target (R172). -/
def offsetStep (offset target : Int) (rate : Nat) : Int :=
  if rate = 0 then target else offset + clampTo rate (target - offset)

/-- The compensation C of R174 for the speed of the shaft and the latency of the group. -/
def Dev.compensation (d : Dev) (b : FolBind) : Int :=
  let cs := ((d.shaftOf b.shaft).speed * ((d.grpOf b.group).lat * 65536 * d.tick.den : Nat)).fdiv d.tick.num
  (cs * b.n).fdiv b.m

/-- The compensated position G' (R173, step 1). -/
def Dev.gPrime (d : Dev) (x : Fol) (b : FolBind) : Nat := wrapN 80 ((x.g : Int) + d.compensation b)

/-- The setpoint of a follower for boundary K + 1 (R173). -/
def Dev.setpoint (d : Dev) (x : Fol) (b : FolBind) : Nat :=
  let g := d.gPrime x b
  match b.cam.bind fun c => Tbl.get? d.fo.cams c with
  | some c => c.output (wrapN 80 ((g : Int) + x.offset * 65536))
  | none => wrapN 64 (((g / 65536 : Nat) : Int) + x.offset)

/-- The computation of one follower in a tick (R170, R172, R173, R189): only while RUNNING and not ARMED. -/
def Dev.folCompute (d : Dev) (f : Nat) : Dev :=
  let x := d.folOf f
  match x.bind with
  | none => d
  | some b =>
    if x.st ≠ .running ∨ x.lock = 1 then d.setFol f { x with gWas := x.g, fremWas := x.frem, offWas := x.offset, spWas := x.sp, heldWas := x.held }
    else
      let r := gearStep x.g x.frem (d.shaftOf b.shaft).delta b.n b.m
      let y := { x with g := r.1, frem := r.2, offset := offsetStep x.offset x.offTarget x.offRate,
                        gWas := x.g, fremWas := x.frem, offWas := x.offset, spWas := x.sp, heldWas := x.held }
      let z := if y.holdReq then
          let o := signedN 64 (wrapN 64 ((y.sp.getD 0 : Int) - (d.gPrime y b / 65536 : Nat)))
          { y with holdReq := false, offTarget := o, offset := o, offWas := o }
        else y
      d.setFol f { z with cur := d.setpoint z b }

/-- The signed difference of two 32.32 positions. -/
def posDiff (a b : Nat) : Int := signedN 64 (wrapN 64 ((a : Int) - b))

/-- ERR as shown, saturated (FOLf_ERR). -/
def errShown (e : Int) : Int := max (-(2 ^ 31 - 1)) (min (2 ^ 31 - 1) e)

/-- A follower trips (R184, Table 8-5). While STOPPING or STOPPED it takes reaction LOG. -/
def Dev.folTrip (d : Dev) (f cause : Nat) : Dev :=
  let x := d.folOf f
  let log := decide (x.st ≠ .running) || decide (x.tripAct = 0)
  let d1 := d.setFol f { x with lock := 5, tripCause := cause, trips := satAdd x.trips 1, compare := false, resync := 0 }
  let d2 := d1.eventLimited 0x080 [(2, f), (1, cause), (1, x.lock), (4, wrapN 32 (errShown x.err)), (8, d.tick.index)]
  let d3 := (d2.sendFault 0x043 0x01 (if log then .c else .u) f).folLive
  let d4 := { d3 with trigs := d3.trigs ++ [65536 + f] }
  if log then d4
  else if x.tripAct = 1 then d4.quickStop 1 ((x.bind.map (·.shaft)).getD 64)
  else d4.quickStopAll 1

/-- Lock states in which feedback is looked at (Table 8-3). -/
def Fol.evaluated (x : Fol) : Bool := decide (2 ≤ x.lock ∧ x.lock ≤ 5)

/-- Table 8-4 for a present feedback, cases 3 to 7, and R188 in RESYNC. -/
def Dev.folPresent (d : Dev) (f : Nat) (r : FbRecord) : Dev :=
  let x := d.folOf f
  let act := r.actPos.toNat
  if x.lock = 7 then
    let good := decide ((posDiff x.hold act).natAbs < x.warn)
    d.setFol f { x with act := act, resync := if good then x.resync + 1 else 0 }
  else if !x.evaluated ∨ x.startK = some d.tick.index then d.setFol f { x with act := act }
  else
    let e := posDiff (x.sp.getD 0) act
    let y := { x with act := act, err := e, missRun := 0, evald := true }
    if r.drvFault ∨ x.trip < e.natAbs then
      let d1 := d.setFol f y
      if x.lock = 5 then d1 else d1.folTrip f (if r.drvFault then 3 else 1)
    else if x.warn < e.natAbs then
      let slip := decide (x.lock = 3)
      d.setFol f { y with goodRun := 0, lock := if slip then 4 else x.lock, slips := satAdd x.slips (b2n slip) }
    else if e.natAbs < x.warn ∧ r.ready then d.setFol f { y with goodRun := x.goodRun + 1 }
    else d.setFol f { y with goodRun := 0 }

/-- The path-delay sample of a present record (R175). -/
def Dev.pathSample (d : Dev) (g : Nat) (r : FbRecord) : Option Int :=
  if r.rxValid then
    (((d.grpOf g).tx.find? fun p => decide (p.1 = d.tick.index)).map fun p =>
      signedN 32 (wrapN 32 ((r.rxNs : Int) - (p.2 / 65536 : Nat))))
  else none

/-- One feedback record of the tick in progress (R182, R210): duplicate, stale or present. In SUSPENDED nothing is looked at (R187). -/
def Dev.folFeedback (d : Dev) (g f : Nat) (r : FbRecord) : Dev :=
  let x := d.folOf f
  if x.lock = 6 then d
  else if x.seen then d.setFol f { x with fbDup := satAdd x.fbDup 1 }
  else if r.appliedK ≠ d.tick.index % 2 ^ 24 then d.setFol f { x with seen := true, fbStale := satAdd x.fbStale 1 }
  else
    let s := d.pathSample g r
    let d1 := match s with
      | some v => d.setGrp g { d.grpOf g with sample := (f, v) :: (d.grpOf g).sample }
      | none => d
    (d1.setFol f { x with seen := true, present := true, sampled := x.sampled || s.isSome || !r.rxValid }).folPresent f r

/-- Case 2 of Table 8-4, and R188: a follower without feedback at the cutoff. -/
def Dev.folAbsent (d : Dev) (f : Nat) : Dev :=
  let x := d.folOf f
  if x.present ∨ x.startK = some d.tick.index then d
  else if x.lock = 7 then d.setFol f { x with resync := 0 }
  else if x.evaluated then d.setFol f { x with missRun := x.missRun + 1, goodRun := 0 }
  else d

/-- The comparison of R188: within TRIP_WIN the follower goes on, else it trips. -/
def Dev.folCompare (d : Dev) (f : Nat) : Dev :=
  let x := d.folOf f
  if (posDiff x.cur x.act).natAbs ≤ x.trip then
    d.setFol f { x with lock := 2, goodRun := 0, missRun := 0, resync := 0, compare := false }
  else d.folTrip f 4

/-- Computation of every follower, after the shaft advance (R144, R170); a comparison that waits is made (R188). Without power its engine performs no function (R331). -/
def Dev.folComputeAll (d : Dev) : Dev :=
  if !d.domainOn 6 then d
  else d.fo.fols.keys.foldl (fun d f =>
    let d1 := d.folCompute f
    if (d1.folOf f).compare ∧ (d1.folOf f).lock = 7 then d1.folCompare f else d1) d

/-- A follower not computed by compute complete keeps what it had (Table 6-3, DEDUCED, log 41). -/
def Dev.folUndo (d : Dev) (f : Nat) : Dev :=
  let x := d.folOf f
  d.setFol f { x with g := x.gWas, frem := x.fremWas, offset := x.offWas, sp := x.spWas, held := x.heldWas }

/-! ### Publication -/

/-- Flags and setpoint of a follower's record (Table 8-3, R134, R190): none where VALID is 0. `held` tells that it was not computed. -/
def Fol.record (x : Fol) (held : Bool) : Option (Nat × Nat) :=
  let trip := if x.lock = 5 then 4 else 0
  if x.st = .stopping ∨ x.st = .stopped then some (3 + trip, x.frozen)
  else if x.st ≠ .running then none
  else if x.evaluated then if held then some (3 + trip, x.sp.getD 0) else some (1 + trip, x.cur)
  else if x.lock = 7 then some (11, x.hold)
  else none

/-- The apply time a_g of group `g` in the tick in progress, in 2^-16 ns (R174). -/
def Dev.applyTime (d : Dev) (g : Nat) : Nat := d.gridTime (d.tick.index + 1) + (d.grpOf g).lat * 65536

/-- The 16 B setpoint record of a slot (Table 8-9); zeros where it is empty or VALID is 0. -/
def Dev.slotRecord (d : Dev) (g slot : Nat) (held : List Nat) : List Byte :=
  match (d.slotOf g slot).bind fun f => (d.folOf f).record (held.contains f) with
  | some r => beBytes 8 r.2 ++ beBytes 3 (d.tick.index + 1) ++ beBytes 1 r.1 ++ beBytes 4 (d.applyTime g / 65536)
  | none => List.replicate 16 0

/-- The highest slot held in a group, plus one (R195, R209). -/
def Dev.slotCount (d : Dev) (g : Nat) : Nat :=
  (d.members g).foldl (fun m f => max m (((d.folOf f).bind.map (·.slot + 1)).getD 0)) 0

/-- D_g: the largest sample of the last 64 ticks that produced one, 0 without any (R175). -/
def Grp.pathDelay (x : Grp) : Int :=
  match x.samples.flatMap id with
  | [] => 0
  | s :: r => r.foldl (fun m p => max m p.2) s.2

/-- The samples of follower `f` are collected anew (R188; DEDUCED, log 80). -/
def Grp.forget (x : Grp) (f : Nat) : Grp :=
  let rest (l : List (Nat × Int)) : List (Nat × Int) := l.filter fun p => decide (p.1 ≠ f)
  { x with samples := (x.samples.map rest).filter fun l => !l.isEmpty, sample := rest x.sample }

/-- The publication frame of group `g` (R195, R205, R209). -/
def Dev.groupFrame (d : Dev) (g : Nat) (held : List Nat) : LinkFrame :=
  let k := d.tick.index
  let x := d.grpOf g
  let n := d.slotCount g
  let recs := (List.range n).flatMap fun s => d.slotRecord g s held
  let due := (d.applyTime g / 65536 : Nat) - x.pathDelay
  ⟨.pub g, x.mask, x.cls, wrapN 48 due, .line (d.lineFrame (d.lineDa g) x.cls 1 g n k recs), k, d.now⟩

/-- Groups that publish: at least one member RUNNING, STOPPING or STOPPED (R195). -/
def Dev.publishing (d : Dev) : List Nat :=
  d.fo.grps.keys.filter fun g => (d.members g).any fun f =>
    let s := (d.folOf f).st
    s.moving || decide (s = .stopped)

/-- What a follower remembers of the record placed in a frame: its last setpoint and HOLD. -/
def Dev.notePublished (d : Dev) (g : Nat) (held : List Nat) : Dev :=
  (d.members g).foldl (fun d f =>
    let x := d.folOf f
    match x.record (held.contains f) with
    | some r => d.setFol f { x with sp := some r.2, held := r.1.testBit 1 }
    | none => d.setFol f { x with held := false }) d

/-- The group frames of the tick, in ascending group number (R195, R209). -/
def Dev.groupFrames (d : Dev) : Dev :=
  d.publishing.foldl (fun d g => (d.enqueue (d.groupFrame g [])).notePublished g []) d

/-- The waiting frame of group `g` made again, where it still waits. -/
def Dev.reframe (d : Dev) (g : Nat) (held : List Nat) : Dev :=
  let d1 := { d with link := { d.link with queue := d.link.queue.map fun (f : LinkFrame) => if f.kind = FrameKind.pub g then d.groupFrame g held else f } }
  d1.notePublished g held

/-- A frame of group `g` that is not assembled or not sent (R186): the group and every member count a miss, and no setpoint was
published (DEDUCED, log 152). -/
def Dev.groupMiss (d : Dev) (g : Nat) : Dev :=
  let d1 := d.setGrp g { d.grpOf g with pubMiss := satAdd (d.grpOf g).pubMiss 1 }
  (d1.members g).foldl (fun d f =>
    let x := d.folOf f
    d.setFol f { x with pubMiss := satAdd x.pubMiss 1, sp := x.spWas, held := x.heldWas }) d1

/-- A report other than DELIVERED, or missing, for one port of a group's frame (R186): one miss of the group, one of each member on the port. -/
def Dev.portMissed (d : Dev) (g p : Nat) (fols : Bool) : Dev :=
  if d.grpFree g then d
  else
    let d1 := d.setGrp g { d.grpOf g with pubMiss := satAdd (d.grpOf g).pubMiss 1 }
    if fols then
      (d1.members g).foldl (fun d f =>
        let x := d.folOf f
        if x.bind.any fun b => decide (b.port = p) then d.setFol f { x with pubMiss := satAdd x.pubMiss 1 } else d) d1
    else d1

/-- DROPPED_PORT_DOWN for port `p` of a group's frame (R187). -/
def Dev.folPortDown (d : Dev) (g p : Nat) : Dev :=
  (d.members g).foldl (fun d f =>
    let x := d.folOf f
    if x.bind.any fun b => decide (b.port = p) then
      let sus := decide (x.lock = 2 ∨ x.lock = 3 ∨ x.lock = 4 ∨ x.lock = 7)
      d.setFol f { x with portDown := true, lock := if sus then 6 else x.lock, compare := false }
    else d) d

/-- Port `p` is up again (R187): its followers clear PORT_DOWN, and those SUSPENDED enter RESYNC. -/
def Dev.folPortUp (d : Dev) (p : Nat) : Dev :=
  d.fo.fols.keys.foldl (fun d f =>
    let x := d.folOf f
    match x.bind with
    | some b =>
      if b.port ≠ p then d
      else
        let y := { x with portDown := false, sampled := false }
        if x.lock = 6 then
          (d.setFol f { y with lock := 7, hold := x.act, resync := 0, compare := false }).setGrp b.group ((d.grpOf b.group).forget f)
        else d.setFol f y
    | none => d) d

/-! ### The status window (R198) -/

/-- The eight words of a follower's window at this instant. -/
def Dev.folWords (d : Dev) (f : Nat) : List Word :=
  let x := d.folOf f
  let b := x.bind.getD ⟨0, none, 0, 0, 0, 0, 0⟩
  let sp := if d.glb.mode.publishes then (if (x.record false).isSome then x.sp.getD 0 else 0) else 0
  let w0 := x.st.code + x.lock * 16 + b2n x.held * 128 + x.tripCause * 256 + b2n x.portDown * 2048 + b2n b.cam.isSome * 4096 +
    d.gen 4 f * 65536 + min 255 x.missRun * 2 ^ 24
  let w1 := b.shaft + b.port * 256 + b.group * 65536 + b.slot * 2 ^ 26
  [w0, w1, sp, sp / 2 ^ 32, x.act, x.act / 2 ^ 32, wrapN 32 (errShown x.err), d.tick.index].map (BitVec.ofNat 32)

/-- Every window refreshed together (R198). -/
def Dev.folRefresh (d : Dev) : Dev :=
  { d with fo := { d.fo with fols := d.fo.fols.each fun f x => { x with win := d.folWords f } } }

/-- Word `i` of the window as a register read returns it: that of a FREE follower reads zero except GEN. -/
def Dev.folWord (d : Dev) (f i : Nat) : Word :=
  let x := d.folOf f
  if x.st = .free ∨ x.win = [] then (if i = 0 then BitVec.ofNat 32 (d.gen 4 f * 65536) else 0) else x.win.getD i 0

/-! ### What boundaries bring -/

/-- What one FOL_CONFIG carries becomes live (R171, R190, R191). -/
def Dev.folBindLive (d : Dev) (f : Nat) (b : FolBind) : Dev :=
  let x := d.folOf f
  let geared := x.bind.any fun o => decide (o.n = b.n) && decide (o.m = b.m)
  let same := x.bind.any fun o => decide (o.group = b.group) && decide (o.slot = b.slot)
  let y := { x with bind := some b, frem := if geared then x.frem else 0 }
  if x.st = .stopped ∧ !same then (d.setFol f { y with st := .configured, lock := 0 }).folLive else d.setFol f y

/-- Followers whose stop has run for two ticks are STOPPED at boundary `k` (R190). -/
def Dev.folEnds (d : Dev) (k : Nat) : Dev :=
  d.fo.fols.keys.foldl (fun d f =>
    let x := d.folOf f
    if x.st = .stopping ∧ x.stopK.any (fun s => decide (s ≤ k)) then
      (d.setFol f { x with st := .stopped, stopK := none }).finishWait (.folStop f) .ok 0 k
    else d) d

/-- An armed FOL_STOP at boundary `k` (R190). -/
def Dev.folStopAt (d : Dev) (k f : Nat) : Dev :=
  let x := d.folOf f
  match x.stop? with
  | some (b, cid) =>
    if b ≠ k then d
    else
      let y := { x with stop? := none, frozen := x.sp.getD 0 }
      if x.st ≠ .running then (d.setFol f { x with stop? := none }).finishCid cid .state 0 k
      else if x.lock = 1 then
        let d1 := (d.setFol f { y with st := .stopped, lock := 0, start? := none }).finishCid (x.start?.bind (·.cid)) .state 0 k
        d1.finishCid cid .ok 0 k
      else d.setFol f { y with st := .stopping, stopK := some (k + 2) }
  | none => d

/-- An armed FOL_START at boundary `k` (R171, R189, Table 8-8). (DEDUCED, log 78) -/
def Dev.folStartAt (d : Dev) (k f : Nat) : Dev :=
  let x := d.folOf f
  match x.start? with
  | some z =>
    if z.k ≠ k then d
    else
      let y := { x with start? := none, startK := some k, goodRun := 0, missRun := 0, tripCause := 0, holdReq := z.hold,
                        lock := if x.portDown then 6 else 2 }
      let w := match z.align, x.bind with
        | true, some b =>
          let r := gearStep 0 0 (d.shaftOf b.shaft).pos b.n b.m
          { y with g := r.1, frem := r.2 }
        | _, _ => y
      (d.setFol f w).finishCid z.cid .ok 0 k
  | none => d

/-- FOL_CLEAR takes effect (R185). -/
def Dev.folClearAt (d : Dev) (f : Nat) : Dev :=
  let x := d.folOf f
  if x.lock = 5 then (d.setFol f { x with lock := if x.portDown then 6 else 2, tripCause := 0, goodRun := 0, missRun := 0 }).folLive else d

/-- RUN is left for CONFIGURE (R190): every follower in RUNNING or STOPPING is STOPPED at once. (DEDUCED, log 79) -/
def Dev.folStopAll (d : Dev) : Dev :=
  d.fo.fols.keys.foldl (fun d f =>
    let x := d.folOf f
    if x.st.moving then
      let y := { x with st := .stopped, frozen := if x.st = .running then x.sp.getD 0 else x.frozen, lock := if x.lock = 1 then 0 else x.lock,
                        start? := none, stop? := none, stopK := none }
      ((d.setFol f y).finishCid (x.start?.bind (·.cid)) .mode 0 0).finishWait (.folStop f) .mode 0 0
    else d) d

/-- L_MAX of a group in ns (R176). -/
def Dev.latMax (d : Dev) (x : Grp) : Nat := ((d.fbCutOff / 65536 : Nat) - x.pathDelay).toNat

/-- The needed value of a MEASURED group: D_g + LAT_MARGIN, rounded up to a whole 10 ns (R176). -/
def Grp.need (x : Grp) : Int := (x.pathDelay + x.margin + 9) / 10 * 10

/-- A MEASURED group has a valid path delay. -/
def Grp.measures (x : Grp) : Bool := decide (x.latMode = 1) && decide (x.samples ≠ [])

/-- The latency that a group takes at a boundary (R176), with the clamp and its message, once per episode: the clamp is in force while what the group wants or needs lies
above L_MAX, and a MEASURED group goes on from the latency that it has. (DEDUCED, log 82) -/
def Dev.grpLatch (d : Dev) (g : Nat) : Dev :=
  let x := d.grpOf g
  let m := d.latMax x
  let above := decide (m < x.want) || decide ((d.fbCutOff : Int) < x.pathDelay * 65536) || (x.measures && decide ((m : Int) < x.need))
  let lat := min x.want m
  let d1 := d.setGrp g { x with lat := lat, want := if x.measures then lat else x.want, clamped := above, ticks := x.ticks + 1 }
  if above ∧ !x.clamped then d1.sendFault 0x043 0x02 .c g else d1

/-- Every group's latency at a boundary. -/
def Dev.grpLatchAll (d : Dev) : Dev := d.fo.grps.keys.foldl Dev.grpLatch d

/-- GRP_CONFIG becomes live (R194). In MEASURED mode L_g starts at LATENCY (R176). -/
def Dev.grpCfgLive (d : Dev) (g : Nat) (mask : BitVec 256) (cls latMode : Nat) : Dev :=
  let x := d.grpOf g
  let want := if latMode = 0 ∨ x.latMode ≠ latMode then x.latency else x.want
  d.setGrp g { x with mask := mask, cls := cls, latMode := latMode, want := want, lat := if d.tick.running then x.lat else want }

/-- GRP_LATENCY becomes live (R176): in MEASURED mode it is where L_g starts, until there is a sample. -/
def Dev.grpLatencyLive (d : Dev) (g latency margin : Nat) : Dev :=
  let x := d.grpOf g
  let want := if x.latMode = 0 ∨ x.samples = [] then latency else x.want
  d.setGrp g { x with latency := latency, margin := margin, want := want, lat := if d.tick.running then x.lat else want }

/-- A loaded curve takes effect (R180). -/
def Dev.camLive (d : Dev) (c : Nat) : Dev :=
  match Tbl.get? d.fo.cams c with
  | some x => { d with fo := { d.fo with cams := Tbl.put d.fo.cams c { x with pts := x.npts } } }
  | none => d

/-! ### Rows -/

/-- MISS_RUN, only while publication runs (R181): more than MISS_LIMIT consecutive ticks without feedback trip a follower (Table 8-4, case 2). -/
def missRun (f : Nat) (d : Dev) : Dev :=
  let x := d.folOf f
  if d.glb.mode.publishes ∧ (x.lock = 2 ∨ x.lock = 3 ∨ x.lock = 4) ∧ x.missLimit < x.missRun then d.folTrip f 2 else d

/-- GOOD_RUN, only while publication runs (R181): eight consecutive good ticks lock a follower (Table 8-4, case 6). -/
def goodRun (f : Nat) (d : Dev) : Dev :=
  let x := d.folOf f
  if d.glb.mode.publishes ∧ (x.lock = 2 ∨ x.lock = 4) ∧ 8 ≤ x.goodRun then d.setFol f { x with lock := 3 } else d

/-- Every member of the follower's group on its port has given a path-delay sample, or present feedback without one (R188). (DEDUCED, log 80) -/
def Dev.portSampled (d : Dev) (b : FolBind) : Bool :=
  (d.members b.group).all fun f =>
    let x := d.folOf f
    !(x.bind.any fun o => decide (o.port = b.port)) || x.sampled

/-- RESYNC_COMPARE (R188), only while publication runs (R181): where this tick's setpoints are computed, at once; else with this tick's computation. -/
def resyncCompare (f : Nat) (d : Dev) : Dev :=
  let x := d.folOf f
  match x.bind with
  | some b =>
    if d.glb.mode.publishes ∧ x.lock = 7 ∧ 16 ≤ x.resync ∧ d.portSampled b then
      if 2 ≤ d.tick.phase then (d.folCompare f).reframe b.group [] else d.setFol f { x with compare := true }
    else d
  | none => d

/-- LATENCY_UPDATE (R176): the needed value, for the next boundary; free where it is negative (DESIGN CHOICE, log 23). (DEDUCED, log 83) -/
def latencyUpdate (g : Nat) (d : Dev) : Dev :=
  match Tbl.get? d.fo.grps g with
  | some x =>
    if x.measures ∧ ((x.lat : Int) < x.need ∨ 4096 ≤ x.ticks) then
      let d1 := if 4096 ≤ x.ticks then d.setGrp g { x with ticks := 0 } else d
      { d1.fresh with pendNow := d1.pendNow ++ [⟨.grpWant g (d.fitU 32 x.need), none⟩] }
    else d
  | none => d

/-! ### Commands -/

/-- FOL_CREATE (R171, R243). -/
def folCreateSpec : CmdSpec where
  opcode := 0x0600
  params := [pu 2 16]
  checks := fun c d => [(.range, decide (4096 ≤ c.p 0 ∧ c.p 0 ≠ 0xFFFF)),
    (.noResource, if c.p 0 = 0xFFFF then (lowestFree 4096 d.folFree).isNone else decide (c.p 0 < 4096) && !d.folFree (c.p 0))]
  run := fun c _ d =>
    let f := if c.p 0 = 0xFFFF then (lowestFree 4096 d.folFree).getD 0 else c.p 0
    (d.setFol f { Fol.reset with st := .created }, .ok (d.handle 4 f) 0)

/-- Whether a change belongs to follower `f`. -/
def Change.ofFol (f : Nat) : Change → Bool
  | .folBind x _ => decide (x = f)
  | .folOffset x _ _ _ => decide (x = f)
  | .folLimits x _ _ _ _ => decide (x = f)
  | _ => false

/-- FOL_DESTROY (R169, R197). -/
def folDestroySpec : CmdSpec where
  opcode := 0x0601
  ty := 4
  isFree := Dev.folFree
  checks := fun c d => [(.state, !(d.folOf c.idx).quiesced)]
  run := fun c _ d =>
    let d1 := d.dropChanges (Change.ofFol c.idx)
    let d2 := { d1 with fo := { d1.fo with fols := Tbl.del d1.fo.fols c.idx } }
    (((d2.bumpGen 4 c.idx).endStale c.handle).folLive, .ok 0 0)

/-- The binding that FOL_CONFIG names. -/
def Cmd.folBind (c : Cmd) : FolBind :=
  ⟨hIdx (c.p 0), if c.p 1 = 0 then none else some (hIdx (c.p 1)), hIdx (c.p 2), c.p 5, c.p 6, c.sp 3 32, c.p 4⟩

/-- The binding that later checks see: the last one accepted (R236). -/
def Fol.bound (x : Fol) : Option FolBind := x.nbind.or x.bind

/-- A slot is held by another follower, as its last accepted FOL_CONFIG has it (R194, R236). -/
def Dev.slotHeld (d : Dev) (f g slot : Nat) : Bool :=
  d.fo.fols.any fun p => decide (p.1 ≠ f) && p.2.bound.any fun b => decide (b.group = g) && decide (b.slot = slot)

/-- Where a structural change is accepted (R191), the shaft being that of the last FOL_CONFIG (R169, R236). -/
def Dev.structuralOk (d : Dev) (x : Fol) : Bool :=
  x.quiesced || (decide (x.st = .running) && x.start?.isNone && x.bound.any fun b => !(d.shaftOf b.shaft).st.moving)

/-- FOL_CONFIG (R180, R191, R194, R197). -/
def folConfigSpec : CmdSpec where
  opcode := 0x0602
  ty := 4
  isFree := Dev.folFree
  params := [pu 4 32, pu 4 32, pu 4 32, ps 4 32, pu 4 32, pu 1 5, pu 1 8]
  handles := [
    { idx := 0, ty := 3, zero := false, isFree := Dev.shaftFree },
    { idx := 1, ty := 5, zero := true, isFree := Dev.camFree },
    { idx := 2, ty := 7, zero := false, isFree := Dev.grpFree }]
  checks := fun c d =>
    let b := c.folBind
    [(.state, !d.structuralOk (d.folOf c.idx) || b.cam.any fun x => !((Tbl.get? d.fo.cams x).any (·.loaded))),
     (.range, decide (b.n = 0) || decide (b.m = 0) || d.slotHeld c.idx b.group b.slot || !(d.grpOf b.group).nmask.getLsbD b.port)]
  waits := fun _ d => d.tick.running
  run := fun c cid d =>
    let x := d.folOf c.idx
    let st := if x.st = .created then .configured else x.st
    (d.setFol c.idx { x with st := st, nbind := some c.folBind }).buffered [.folBind c.idx c.folBind] cid

/-- FOL_START (R189, R369). -/
def folStartSpec : CmdSpec where
  opcode := 0x0603
  flagMask := 3
  ty := 4
  isFree := Dev.folFree
  params := [pu 8 64]
  modes := fun m => decide (m = .run)
  checks := fun c d =>
    let x := d.folOf c.idx
    [(.state, !(decide (x.st = .configured) || decide (x.st = .stopped)) || !d.tick.running),
     (.range, c.flag 1 && x.nbind.any fun b => b.cam.isSome), (.deadline, decide (c.p 0 ≠ 0) && d.tooNear (c.p 0))]
  waits := fun _ _ => true
  run := fun c cid d =>
    let x := d.folOf c.idx
    let k := d.bndOf (c.p 0)
    let y := { x with st := .running, lock := 1, start? := some ⟨k, c.flag 0, c.flag 1, x.st, some cid⟩ }
    (((d.setFol c.idx y).folLive).arm k (.folStart c.idx) none, .wait .armed 0 k)

/-- FOL_STOP (R190, R369). -/
def folStopSpec : CmdSpec where
  opcode := 0x0604
  ty := 4
  isFree := Dev.folFree
  params := [pu 8 64]
  modes := fun m => decide (m = .run) || decide (m = .degraded) || decide (m = .test)
  checks := fun c d =>
    let x := d.folOf c.idx
    [(.state, decide (x.st ≠ .running) || !d.tick.running), (.busy, x.stop?.isSome), (.deadline, decide (c.p 0 ≠ 0) && d.tooNear (c.p 0))]
  waits := fun _ _ => true
  run := fun c cid d =>
    let k := d.bndOf (c.p 0)
    ((d.setFol c.idx { d.folOf c.idx with stop? := some (k, some cid) }).arm k (.folStop c.idx) none, .wait (.folStop c.idx) 0 0)

/-- FOL_OFFSET (R172). -/
def folOffsetSpec : CmdSpec where
  opcode := 0x0605
  flagMask := 3
  ty := 4
  isFree := Dev.folFree
  params := [ps 8 64, pu 4 32]
  checks := fun c d =>
    let t := (d.folOf c.idx).offTarget + c.sp 0 64
    [(.range, c.flag 0 && (decide (t < -(2 ^ 63)) || decide (2 ^ 63 ≤ t)))]
  waits := fun _ d => d.tick.running
  run := fun c cid d => d.buffered [.folOffset c.idx (c.flag 0) (c.sp 0 64) (if c.flag 1 then none else some (c.p 1))] cid

/-- FOL_LIMITS (R183, R197). -/
def folLimitsSpec : CmdSpec where
  opcode := 0x0606
  ty := 4
  isFree := Dev.folFree
  params := [pu 4 32, pu 4 32, pu 1 8, pu 1 2]
  checks := fun c _ => [(.range, decide (c.p 0 = 0) || decide (c.p 1 ≤ c.p 0) || decide (c.p 2 = 0))]
  waits := fun _ d => d.tick.running
  run := fun c cid d => d.buffered [.folLimits c.idx (c.p 0) (c.p 1) (c.p 2) (c.p 3)] cid

/-- FOL_CLEAR (R185). -/
def folClearSpec : CmdSpec where
  opcode := 0x0607
  ty := 4
  isFree := Dev.folFree
  checks := fun c d => [(.state, decide ((d.folOf c.idx).lock ≠ 5))]
  waits := fun _ d => d.tick.running
  run := fun c cid d =>
    if d.tick.running then (d.arm d.nextOpen (.folClear c.idx) (some cid), .wait .armed 0 0)
    else (d.folClearAt c.idx, .ok 0 0)

/-- FOL_STATUS (R246): the block is taken at the instant of the command (DEDUCED, log 42). -/
def folStatusSpec : CmdSpec where
  opcode := 0x0608
  ty := 4
  isFree := Dev.folFree
  params := [pu 8 64]
  hostAddr := some 0
  run := fun c _ d =>
    let x := d.folOf c.idx
    let w := d.folWords c.idx
    let b := x.bind.getD ⟨0, none, 0, 0, 0, 0, 0⟩
    let blk := packBlock [(32, leNat (w.flatMap fun v => leBytes 4 v.toNat)), (16, x.g), (8, wrapN 64 x.offTarget), (8, wrapN 64 x.offset),
      (4, x.frem), (4, wrapN 32 b.n), (4, b.m), (4, x.offRate), (4, x.warn), (4, x.trip), (4, x.pubMiss), (4, x.fbStale), (4, x.fbDup),
      (4, x.slips), (4, x.trips), (1, x.missLimit), (1, x.tripAct), (1, min 255 x.goodRun)]
    d.toHost c (c.p 0) blk (.ok (w.getD 0 0).toNat (w.getD 6 0).toNat)

/-- The runs of the cam store in use. -/
def Dev.camRuns (d : Dev) : List (Nat × Nat) := d.fo.cams.map fun p => (p.2.first, p.2.pts.length)

/-- CAM_CREATE (R177). -/
def camCreateSpec : CmdSpec where
  opcode := 0x0610
  params := [ps 8 64, pu 2 16]
  checks := fun c d => [(.range, decide (c.p 1 < 2) || decide (4096 < c.p 1)),
    (.noResource, (firstFit 32768 (c.p 1) d.camRuns).isNone || (lowestFree 512 d.camFree).isNone)]
  run := fun c _ d =>
    let i := (lowestFree 512 d.camFree).getD 0
    let zero := List.replicate (c.p 1) (List.replicate 16 0)
    let x : Cam := ⟨(firstFit 32768 (c.p 1) d.camRuns).getD 0, c.sp 0 64, zero, zero, false⟩
    ({ d with fo := { d.fo with cams := Tbl.put d.fo.cams i x } }, .ok (d.handle 5 i) 0)

/-- A follower uses a curve, or will (R180). -/
def Fol.usesCam (x : Fol) (c : Nat) : Bool :=
  x.bind.any (fun b => decide (b.cam = some c)) || x.nbind.any fun b => decide (b.cam = some c)

/-- CAM_DESTROY (R180). -/
def camDestroySpec : CmdSpec where
  opcode := 0x0611
  ty := 5
  isFree := Dev.camFree
  checks := fun c d => [(.state, d.fo.fols.any fun p => p.2.usesCam c.idx)]
  run := fun c _ d =>
    let d1 := d.dropChanges fun x => decide (x = .cam c.idx)
    (({ d1 with fo := { d1.fo with cams := Tbl.del d1.fo.cams c.idx } }.bumpGen 5 c.idx).endStale c.handle, .ok 0 0)

/-- CAM_LOAD (R177, R180). -/
def camLoadSpec : CmdSpec where
  opcode := 0x0612
  flagMask := 1
  ty := 5
  isFree := Dev.camFree
  params := [pu 2 16, pu 2 16, ps 8 64, ps 8 64, pu 8 64]
  hostAddr := some 4
  dmaBit := true
  checks := fun c d =>
    let n := ((Tbl.get? d.fo.cams c.idx).map (·.pts.length)).getD 0
    let cnt := if c.flag 0 then c.p 1 else 1
    [(.state, d.fo.fols.any fun p => p.2.usesCam c.idx && !p.2.quiesced),
     (.range, decide (cnt = 0) || decide (n < c.p 0 + cnt))]
  run := fun c _ d =>
    match Tbl.get? d.fo.cams c.idx with
    | none => (d, .ok 0 0)
    | some x =>
      let put (cnt : Nat) (b : List Byte) : Dev × Res :=
        let y := { x with npts := writeUnits x.npts (c.p 0) 16 cnt b, loaded := true }
        (({ d with fo := { d.fo with cams := Tbl.put d.fo.cams c.idx y } }.sramWrite 0 (2 * cnt)).arrive [⟨.cam c.idx, none⟩], .ok 0 0)
      if c.flag 0 then
        match c.dma with
        | none => (d.sendFault 0x004 0x02 .c (c.p 4), .done .internal 0 0 true)
        | some b => put (c.p 1) b
      else put 1 (leBytes 8 (c.p 2) ++ leBytes 8 (c.p 3))

/-- CAM_READ (R197). -/
def camReadSpec : CmdSpec where
  opcode := 0x0613
  ty := 5
  isFree := Dev.camFree
  params := [pu 8 64]
  hostAddr := some 0
  run := fun c _ d =>
    match Tbl.get? d.fo.cams c.idx with
    | none => (d, .ok 0 0)
    | some x => d.toHost c (c.p 0) (x.npts.flatMap id ++ leBytes 8 (wrapN 64 x.lift)) (.ok x.npts.length (wrapN 64 x.lift))

/-- GRP_CREATE (R194, R243). -/
def grpCreateSpec : CmdSpec where
  opcode := 0x0620
  params := [pu 2 16]
  checks := fun c d => [(.range, decide (1024 ≤ c.p 0 ∧ c.p 0 ≠ 0xFFFF)),
    (.noResource, if c.p 0 = 0xFFFF then (lowestFree 1024 d.grpFree).isNone else decide (c.p 0 < 1024) && !d.grpFree (c.p 0))]
  run := fun c _ d =>
    let g := if c.p 0 = 0xFFFF then (lowestFree 1024 d.grpFree).getD 0 else c.p 0
    (d.setGrp g Grp.reset, .ok (d.handle 7 g) 0)

/-- A follower belongs to a group, or will (R194). -/
def Dev.grpUsed (d : Dev) (g : Nat) : List Nat :=
  d.fo.fols.keys.filter fun f =>
    let x := d.folOf f
    x.bind.any (fun b => decide (b.group = g)) || x.nbind.any fun b => decide (b.group = g)

/-- Whether a change belongs to group `g`. -/
def Change.ofGrp (g : Nat) : Change → Bool
  | .grpCfg x _ _ _ => decide (x = g)
  | .grpLatency x _ _ => decide (x = g)
  | .grpWant x _ => decide (x = g)
  | _ => false

/-- GRP_DESTROY (R194). -/
def grpDestroySpec : CmdSpec where
  opcode := 0x0621
  ty := 7
  isFree := Dev.grpFree
  checks := fun c d => [(.state, !(d.grpUsed c.idx).isEmpty)]
  run := fun c _ d =>
    let d1 := d.dropChanges (Change.ofGrp c.idx)
    (({ d1 with fo := { d1.fo with grps := Tbl.del d1.fo.grps c.idx } }.bumpGen 7 c.idx).endStale c.handle, .ok 0 0)

/-- GRP_CONFIG (R194). PORT_MASK is little-endian: port p is bit p of the number (R244). -/
def grpConfigSpec : CmdSpec where
  opcode := 0x0622
  ty := 7
  isFree := Dev.grpFree
  params := [pu 32 256, pu 1 3, pu 1 1]
  checks := fun c d =>
    let m := BitVec.ofNat 256 (c.p 0)
    let lost (x : Fol) : Bool := x.bound.any fun b => decide (b.group = c.idx) && !m.getLsbD b.port
    [(.state, (d.grpUsed c.idx).any fun f => (d.folOf f).st.moving), (.range, d.fo.fols.any fun p => lost p.2)]
  waits := fun _ d => d.tick.running
  run := fun c cid d =>
    let m := BitVec.ofNat 256 (c.p 0)
    (d.setGrp c.idx { d.grpOf c.idx with nmask := m }).buffered [.grpCfg c.idx m (c.p 1) (c.p 2)] cid

/-- GRP_LATENCY (R176, R194). -/
def grpLatencySpec : CmdSpec where
  opcode := 0x0623
  ty := 7
  isFree := Dev.grpFree
  params := [pu 4 32, pu 2 16]
  checks := fun c _ => [(.range, decide (1000000 < c.p 0))]
  waits := fun _ d => d.tick.running
  run := fun c cid d => d.buffered [.grpLatency c.idx (c.p 0) (c.p 1)] cid

/-- GRP_STATUS (R246). -/
def grpStatusSpec : CmdSpec where
  opcode := 0x0624
  ty := 7
  isFree := Dev.grpFree
  params := [pu 8 64]
  hostAddr := some 0
  run := fun c _ d =>
    let g := c.idx
    let x := d.grpOf g
    let slots := (List.range 32).foldl (fun m s => if (d.slotOf g s).isSome then m + 2 ^ s else m) 0
    let flags := b2n (!x.samples.isEmpty) + 2 * b2n x.clamped + 4 * x.latMode + 256 * x.cls
    let delay := d.fitU 32 x.pathDelay
    d.fresh.toHost c (c.p 0) (packBlock [(32, x.mask.toNat), (4, slots), (4, x.lat), (4, delay), (4, flags), (4, x.pubMiss)])
      (.ok slots (x.lat + delay * 2 ^ 32))

def folCreate (src : Source) (d : Dev) : Dev := d.command folCreateSpec src none
def folDestroy (src : Source) (d : Dev) : Dev := d.command folDestroySpec src none
def folConfig (src : Source) (d : Dev) : Dev := d.command folConfigSpec src none
def folStart (src : Source) (d : Dev) : Dev := d.command folStartSpec src none
def folStop (src : Source) (d : Dev) : Dev := d.command folStopSpec src none
def folOffset (src : Source) (d : Dev) : Dev := d.command folOffsetSpec src none
def folLimits (src : Source) (d : Dev) : Dev := d.command folLimitsSpec src none
def folClear (src : Source) (d : Dev) : Dev := d.command folClearSpec src none
def folStatus (src : Source) (dmaOk : Bool) (d : Dev) : Dev := d.command folStatusSpec src (dmaOf dmaOk)
def camCreate (src : Source) (d : Dev) : Dev := d.command camCreateSpec src none
def camDestroy (src : Source) (d : Dev) : Dev := d.command camDestroySpec src none
def camLoad (src : Source) (dma : Option (List Byte)) (d : Dev) : Dev := d.command camLoadSpec src dma
def camRead (src : Source) (dmaOk : Bool) (d : Dev) : Dev := d.command camReadSpec src (dmaOf dmaOk)
def grpCreate (src : Source) (d : Dev) : Dev := d.command grpCreateSpec src none
def grpDestroy (src : Source) (d : Dev) : Dev := d.command grpDestroySpec src none
def grpConfig (src : Source) (d : Dev) : Dev := d.command grpConfigSpec src none
def grpLatency (src : Source) (d : Dev) : Dev := d.command grpLatencySpec src none
def grpStatus (src : Source) (dmaOk : Bool) (d : Dev) : Dev := d.command grpStatusSpec src (dmaOf dmaOk)

end Sys2Proof.Machine
end

