-- ==== Sys2Proof/Machine/TimeEngine.lean ====
section
/-! DEFINITION. The time engine (R99 to R115, R118, R121): its states, slew and step, the servos, PPS, capture, line epoch, and the
commands 0x0300 to 0x0303 and 0x0320 of Table 5-5. -/

namespace Sys2Proof.Machine

/-! ### States -/

/-- A PTP port is enabled (PTP_PORT_EN). -/
def Dev.ptpEnabled (d : Dev) (p : Nat) : Bool := (d.word (R.PTP_PORT_EN (p / 32))).getLsbD (p % 32)

/-- One second in 2^-16 ns. -/
def sec16 : Nat := 65536000000000

/-- TIME_CTRL.SRC, 3 taken as 0 (Table 5-1). -/
def Dev.timeSrc (d : Dev) : Nat :=
  let s := d.get F.TIME_CTRL.SRC
  if s = 3 then 0 else s

/-- TIME_STATUS (R104, R106, R107, R118, R121). -/
def Dev.timeStatus (d : Dev) : Nat :=
  d.time.st.code + 4 * b2n d.time.st.valid + 8 * b2n d.time.slewing + 16 * b2n d.time.stepReq.isSome + 32 * b2n d.time.blocked +
    64 * d.get F.TIME_STATUS.BYPASS_CLK

/-- The engine enters a state (R104, R121): its record, the holdover events, and fresh counts of measurements. -/
def Dev.timeTo (d : Dev) (st : TimeSt) : Dev :=
  let old := d.time.st
  if old = st then d
  else
    let first := decide (st = .acquiring)
    let t := { d.time with st := st, goodRun := 0, badRun := 0, everValid := d.time.everValid || st.valid, astray := d.time.astray && first,
                           ppsFirst := d.time.ppsFirst || first, viaDpll := false }
    let d1 := { d with time := t }.eventLimited 0x051 [(1, old.code), (1, st.code), (1, d.get F.TIME_CTRL.SRC)]
    let d2 := if st = .holdover then d1.raise F.TIME_EVENT.HOLDOVER_ENTER else d1
    if old = .holdover then d2.raise F.TIME_EVENT.HOLDOVER_EXIT else d2

/-- The DPLL of TIME_DPLL. -/
def Dev.timeDpll (d : Dev) : Nat := d.get F.TIME_CTRL.TIME_DPLL

/-- The DPLL of TIME_DPLL is enabled and LOCKED. -/
def Dev.timeDpllLocked (d : Dev) : Bool :=
  d.bit (F.MSn_DPLL_CTRL.DPLL_EN d.timeDpll) && decide (d.dpllState d.timeDpll = 2)

/-- The DPLL of TIME_DPLL is in holdover. -/
def Dev.timeDpllHeld (d : Dev) : Bool := decide (d.dpllState d.timeDpll = 3)

/-- The state that follows the DPLL with SRC = FREE (R104, R121). -/
def Dev.timeFree (d : Dev) : Dev :=
  if d.timeSrc = 0 then
    if d.time.st = .locked ∧ !d.timeDpllLocked then d.timeTo .holdover
    else if d.time.st = .holdover ∧ d.timeDpllLocked then d.timeTo .locked
    else d
  else d

/-- With SRC = PPS a LOCKED engine enters HOLDOVER as its DPLL does (R121). -/
def Dev.timeFollow (d : Dev) : Dev :=
  let held := d.timeDpllHeld
  let d1 := d.timeFree
  if d.time.dpllHeld = held then d1
  else
    let d2 : Dev := { d1 with time := { d1.time with dpllHeld := held } }
    if held ∧ d2.timeSrc = 1 ∧ d2.time.st = .locked then
      let d3 := d2.timeTo .holdover
      { d3 with time := { d3.time with viaDpll := true } }
    else d2

/-- The servo's part of y_time set, and noted with its instant for 60 s (R121). -/
def Dev.setServo (d : Dev) (v : Int) : Dev :=
  { d with time := { d.time with servo := v, servos := steersFrom (d.now - 60000 * msec) ((d.now, v) :: d.time.servos) } }

/-- The mean servo frequency over the last 60 s (R121). -/
def Dev.servoMean (d : Dev) : Int :=
  let since := d.now - 60000 * msec
  if d.now = since then d.time.servo else roundDiv (steerSum since d.now d.time.servos) (d.now - since)

/-- SRC = PTP loses its source (R121): the rate then follows the DPLL's steering from entry, or is the mean servo frequency of the last 60 s. -/
def Dev.ptpHoldover (d : Dev) : Dev :=
  if d.timeSrc = 2 ∧ d.time.st = .locked then
    let n := d.timeDpll
    let good := d.timeDpllLocked || (decide (d.dpllState n = 3) && d.bit (F.MSn_DPLL_STATUS.MODEL_VALID n))
    let d1 := if good then { d with time := { d.time with steerRef := some d.timeSteer } } else d.setServo d.servoMean
    d1.timeTo .holdover
  else d

/-- A host sets ToD (R104): in FREE the engine then follows the DPLL; with another source it acquires. -/
def Dev.hostSet (d : Dev) : Dev :=
  match d.time.st with
  | .unset => if d.timeSrc = 0 then d.timeTo (if d.timeDpllLocked then .locked else .holdover) else d.timeTo .acquiring
  | .acquiring => if d.timeSrc = 0 then d.timeTo (if d.timeDpllLocked then .locked else .holdover) else d
  | .locked => d
  | .holdover => d

/-! ### Slew and step -/

/-- The instant of a step at boundary `k`, or now where the tick does not run (R107). -/
def Dev.stepBase (d : Dev) (k : Nat) : Nat := if d.tick.running then d.gridTime k else d.tod16

/-- The change Δ that a step makes at an instant of ToD `base`. -/
def StepReq.delta (q : StepReq) (base : Nat) : Int :=
  match q.to? with
  | some t => (t : Int) - base
  | none => q.by'

/-- A ToD within 0 s and 2^48 s (R107). -/
def todOk (t : Int) : Bool := decide (0 ≤ t) && decide (t < (2 ^ 48 * sec16 : Nat))

/-- Whether a step keeps ToD and the line epoch within their range (R107). -/
def Dev.stepFits (d : Dev) (q : StepReq) : Bool :=
  let b := d.stepBase q.k
  let dl := q.delta b
  todOk (b + dl) && todOk ((d.time.epoch : Int) + dl)

/-- A ToD as fields of a record. -/
def todFields (t : Nat) : List (Nat × Nat) := [(8, secOf t), (4, nsOf t), (2, fracOf t)]

/-- A step takes effect at an instant whose ToD is `base` (R106, R108, R109): `k` is the boundary, none where no tick runs. -/
def Dev.applyStep (d : Dev) (q : StepReq) (base : Nat) (k : Option Nat) : Dev :=
  let dl := q.delta base
  let epoch := ((d.time.epoch : Int) + dl).toNat
  let t := { d.time with tod := ((d.time.tod : Int) + dl * 2 ^ 32).toNat, shown := ((d.time.shown : Int) + dl * 2 ^ 32).toNat,
                         epoch := epoch, stepReq := none, slewLeft := 0, slewing := false,
                         stepK := if k.isSome then some d.tick.index else none }
  let t2 := { t with ppsSec := t.tod / 2 ^ 32 / sec16, ppsFirst := t.ppsFirst || q.to?.isSome }
  let tk := { d.tick with bound := ((d.tick.bound : Int) + dl).toNat, startK := none }
  let d1 := { d with time := t2, tick := tk, link := { d.link with stepped := true } }
  let d2 := (d1.count R.TIME_STEP_COUNT 1).raise F.TIME_EVENT.STEPPED
  let d3 := d2.eventFree 0x050 (todFields base ++ todFields ((base : Int) + dl).toNat ++ todFields epoch)
  (if q.cid.isSome then d3.hostSet else d3).finishCid q.cid .ok 0 (k.getD 0)

/-- A step is requested: for the next boundary outside the apply window, or at once (R107). -/
def Dev.requestStep (d : Dev) (q : StepReq) : Dev :=
  if d.tick.running then { d with time := { d.time with stepReq := some q } } else d.applyStep q d.tod16 none

/-- A slew adds to what is still to be absorbed (R106). `off` is in 2^-16 ns. -/
def Dev.slew (d : Dev) (off : Int) : Dev :=
  { d with time := { d.time with slewLeft := d.time.slewLeft + off * 2 ^ 32, slewing := true } }

/-- SLEW_DONE: the slew has absorbed its offset (R106). -/
def slewDone (d : Dev) : Dev :=
  if d.time.slewing ∧ (!d.onRing ∨ d.time.slewLeft = 0) then
    let left := d.time.slewLeft.natAbs
    let d1 := d.advance ((left * 100000000 + d.slewMax - 1) / d.slewMax)
    { d1 with time := { d1.time with slewing := false } }.raise F.TIME_EVENT.SLEW_DONE
  else d

/-! ### Servos -/

/-- LOCK_WIN and STEP_THRESH in 2^-16 ns, 0 taken as 1 (TIME_SERVO). -/
def Dev.lockWin (d : Dev) : Nat := max 1 (d.get F.TIME_SERVO.LOCK_WIN) * 65536
def Dev.stepThresh (d : Dev) : Nat := max 1 (d.get F.TIME_SERVO.STEP_THRESH) * 6553600

/-- One measurement of the offset from the source (R104): sixteen within TIME_LOCK_WIN lock an engine that acquires, sixteen outside take a
LOCKED one back. None locks while OSCIN is lost (R340). -/
def Dev.timeMeasure (d : Dev) (off : Int) : Dev :=
  let d0 := (d.set64 R.TIME_OFFSET_LO (d.fitS 64 off)).fresh
  let d1 := match d0.time.st with
    | .unset => d0.timeTo .acquiring
    | .holdover =>
      let y := if d0.timeSrc = 2 then d0.yTime else d0.time.servo
      ({ d0 with time := { d0.time with steerRef := none } }.setServo y).timeTo .acquiring
    | .acquiring => d0
    | .locked => d0
  let good := decide (off.natAbs ≤ d1.lockWin)
  let t : TimeState := { d1.time with goodRun := if good then d1.time.goodRun + 1 else 0, badRun := if good then 0 else d1.time.badRun + 1 }
  let d2 := { d1 with time := t }
  if t.st = .acquiring ∧ 16 ≤ t.goodRun ∧ d.bit F.REF_OSC_STATUS.OSC_ACTIVE then d2.timeTo .locked
  else if t.st = .locked ∧ 16 ≤ t.badRun then d2.timeTo .acquiring
  else d2

/-- The frequency that a servo sets, within its pull: a free value (DESIGN CHOICE, log 2). -/
def Dev.servoRate (d : Dev) (limit : Nat) : Dev :=
  (d.setServo (clampTo limit (signedN 40 (d.freeVal 40)))).fresh

/-- Whether a servo may step by `q` now (R107). -/
def Dev.servoMayStep (d : Dev) (q : StepReq) : Bool := !d.anyShaft && d.time.stepReq.isNone && d.stepFits q

/-- The PTP servo's correction of an offset (R118). -/
def Dev.ptpCorrect (d : Dev) (off : Int) : Dev :=
  let q : StepReq := ⟨none, -off, d.nextOpen, none⟩
  if d.stepThresh < off.natAbs ∧ d.bit F.TIME_CTRL.AUTO_STEP then
    if d.time.stepReq.isSome then d
    else if d.servoMayStep q then d.requestStep q
    else
      let d1 := { d with time := { d.time with slewLeft := -off * 2 ^ 32, slewing := true, blocked := true } }
      if d.time.blocked then d1 else (d1.sendFault 0x040 0x01 .c 0).setLive 0x040 true
  else
    let d1 := if off.natAbs < d.stepThresh ∧ d.time.blocked then
        { d with time := { d.time with blocked := false } }.setLive 0x040 false
      else d
    d1.servoRate (2 ^ 48 * 200 / 1000000)

/-- The state that a new source leaves (R104): PPS and PTP have measured nothing yet, so an engine that was LOCKED acquires; FREE follows its DPLL, but for a ToD
without a disciplined rate since the loss of OSCIN (R340). (DEDUCED, log 171) -/
def Dev.srcState (d : Dev) : Dev :=
  match d.time.st with
  | .unset => d
  | .locked => if d.timeSrc = 0 then d else d.timeTo .acquiring
  | .acquiring => if d.timeSrc = 0 ∧ !d.time.astray then d.timeTo (if d.timeDpllLocked then .locked else .holdover) else d
  | .holdover => d

/-- A change of TIME_CTRL.SRC or TIME_DPLL: the new source takes over from the rate in force (R103; DEDUCED, log 110); the measurements of the old one do not count for it. -/
def Dev.srcChange (d : Dev) (old : Word) : Dev :=
  let y := ({ d with regs := Tbl.put d.regs R.TIME_CTRL old }).yTime
  let same : Bool := decide (F.TIME_CTRL.SRC.ofWord old = d.get F.TIME_CTRL.SRC)
  if same ∧ F.TIME_CTRL.TIME_DPLL.ofWord old = d.timeDpll then d
  else
    let d1 := match d.timeSrc with
      | 1 => d.setServo (y - d.timeSteer)
      | 2 => d.setServo y
      | _ => d.setServo 0
    let ref := if same then d.time.steerRef.map fun _ => d.timeSteer else none
    let d2 := { d1 with time := { d1.time with steerRef := ref, dpllHeld := d.timeDpllHeld, viaDpll := false } }
    if same then d2
    else ({ d2 with time := { d2.time with goodRun := 0, badRun := 0, lastPps := some d.now } }).srcState

/-! ### PPS -/

/-- The first edge of PPS_IN after TIME_SET or after ACQUIRING was entered (R112), `r` 2^-16 ns after a second of ToD and `err` from the nearest: beyond the threshold, and
where R107 allows it, NS is stepped so that the edge falls on the second that ToD shows (DEDUCED, log 90); else the error is slewed. -/
def Dev.ppsFirstEdge (d : Dev) (r err : Int) : Dev :=
  let q : StepReq := ⟨none, -r, d.nextOpen, none⟩
  let t : TimeState := { d.time with ppsFirst := false, lastPps := some d.now }
  let d2 := Dev.timeMeasure { d with time := t } err
  if d2.stepThresh < err.natAbs ∧ d2.servoMayStep q then d2.requestStep q else d2.slew (-err)

/-- An edge of PPS_IN with SRC = PPS (R112). A usable one ends a HOLDOVER for want of edges; one that the DPLL caused ends with a usable edge after that DPLL has left
holdover (DEDUCED, log 151). -/
def Dev.ppsServo (d : Dev) (r err : Int) : Dev :=
  if decide (500000 * 65536 < err.natAbs) && !d.time.ppsFirst then d.count R.TIME_PPS_IN_BAD 1
  else if d.time.st = .holdover then (if d.time.viaDpll && d.timeDpllHeld then d else (d.timeTo .acquiring).ppsFirstEdge r err)
  else if d.time.ppsFirst then d.ppsFirstEdge r err
  else
    let d2 := { d with time := { d.time with lastPps := some d.now } }.timeMeasure err
    d2.servoRate (d2.slewMax * 2 ^ 48 / 100000000)

/-- PPS_IN: an edge is timestamped where it is the active one, and drives the phase servo (R111, R112). -/
def ppsIn (d0 : Dev) : Dev :=
  let d := { d0 with boot := { d0.boot with ppsIn := !d0.boot.ppsIn } }
  if !d.bit F.TIME_CTRL.PPS_IN_EN ∨ d.boot.ppsIn = d.bit F.TIME_CTRL.PPS_IN_EDGE then d
  else
    let ts := (d.tod16 : Int) - signedN 32 (d.word R.TIME_PPS_IN_DELAY).toNat
    let r := ts % sec16
    let err := if sec16 / 2 ≤ r then r - sec16 else r
    let shown := max (-(2 ^ 31)) (min (2 ^ 31 - 1) err)
    let d1 := d.setWord R.TIME_PPS_IN_ERR (BitVec.ofNat 32 (wrapN 32 shown))
    if d.timeSrc ≠ 1 ∨ d.time.st = .unset then d1 else d1.ppsServo r err

/-- PPS_IN_LOST: no usable edge in 1.1 s, of the last one or of the choice of PPS as the source (R112, R121). -/
def ppsInLost (d : Dev) : Dev :=
  match d.time.lastPps with
  | some t =>
    if d.timeSrc = 1 ∧ d.time.st = .locked then
      let d1 := (d.till (t + 1100 * msec)).timeTo .holdover
      { d1 with time := { d1.time with lastPps := none } }
    else d
  | none => d

/-- The least device time in which ToD moves by `need` at a rate of `num / den`. -/
def timeFor (need num den : Nat) : Nat := if num = 0 then 0 else (need * den + num - 1) / num

/-- The device time until ToD has moved by `need` 2^-48 ns: at its rate and that of a slew until the slew has absorbed its offset, at its rate from then on
(R100, R106). -/
def Dev.todDelay (d : Dev) (need : Nat) : Nat :=
  let rate := d.todRate.toNat
  let left := if d.onRing then 0 else d.time.slewLeft
  let whole := timeFor left.natAbs d.slewMax 100000000
  let moved : Int := (whole * rate / 2 ^ 48 : Nat) + left
  if (need : Int) ≤ moved then
    let both : Int := (rate : Int) * 100000000 + (if 0 ≤ left then 1 else -1) * (d.slewMax * 2 ^ 48 : Nat)
    timeFor need both.toNat (2 ^ 48 * 100000000)
  else timeFor ((need : Int) - left).toNat rate (2 ^ 48)

/-- Device time passes until the time counter reaches a value in 2^-48 ns, by no more than the rounding of its parts, which is less than one unit of ToD. -/
def Dev.tillCount (d : Dev) (t : Nat) : Dev :=
  if d.time.tod < t then
    let d1 := d.advance (d.todDelay (t - d.time.tod))
    if d1.time.tod < t then d.advance (d.todDelay (t - d.time.tod) + 4) else d1
  else d

/-- Device time passes until ToD reaches a value in 2^-48 ns: on OSCIN bypass at the first edge of the core clock that has it, so that boundaries, schedule points and
the edges of PPS_OUT and FTICK are quantised to its period (R339; DESIGN CHOICE, logs 7 and 206). -/
def Dev.tillTod (d : Dev) (t : Nat) : Dev :=
  let d1 := d.tillCount t
  if d1.onBypass ∧ d1.time.shown < t then d1.toEdge else d1

/-- PPS_OUT runs (R113). -/
def Dev.ppsEnabled (d : Dev) : Bool := d.bit F.TIME_CTRL.PPS_OUT_EN && d.time.st.valid

/-- PPS_OUT: it rises as ToD, advanced by TIME_PPS_OUT_DELAY, crosses a whole second (R113). -/
def ppsOut (d : Dev) : Dev :=
  if !d.ppsEnabled then d
  else
    let dl := signedN 32 (d.word R.TIME_PPS_OUT_DELAY).toNat
    let t := ((d.tod16 : Int) + dl).toNat
    let s := if t % sec16 = 0 ∧ t / sec16 ≠ d.time.ppsSec then t / sec16 else t / sec16 + 1
    let d2 := d.tillTod ((((s * sec16 : Nat) : Int) - dl).toNat * 2 ^ 32)
    { d2 with time := { d2.time with ppsSec := s, ppsOutAt := some d2.now } }.emit (.pps true)

/-- PPS_OUT_FALL: PPS_WIDTH ms after it rose (R113). -/
def ppsOutFall (d : Dev) : Dev :=
  match d.time.ppsOutAt with
  | some t =>
    let d1 := (d.till (t + min 500 (max 1 (d.get F.TIME_PPS_CFG.PPS_WIDTH)) * msec)).toEdge
    { d1 with time := { d1.time with ppsOutAt := none } }.emit (.pps false)
  | none => d

/-- A pulse ends where PPS_OUT no longer runs (R113). -/
def Dev.ppsGate (d : Dev) : Dev :=
  if d.time.ppsOutAt.isSome ∧ !d.ppsEnabled then { d with time := { d.time with ppsOutAt := none } }.emit (.pps false) else d

/-! ### Capture -/

/-- The capture of R102. -/
def Dev.doCapture (d : Dev) : Dev :=
  let t := d.tod16
  let d := d.set64 R.TIME_CAP_SEC_LO (secOf t)
  let d := d.setWord R.TIME_CAP_NS (BitVec.ofNat 32 (nsOf t))
  let d := d.setWord R.TIME_CAP_FRAC (BitVec.ofNat 32 (fracOf t))
  let d := d.set64 R.TIME_CAP_TICK_LO d.tick.index
  let d := d.set64 R.TIME_CAP_OPTIME_LO d.optime
  let d := d.setWord R.TIME_CAP_PCC (BitVec.ofNat 32 d.evt.pcc)
  d.setWord R.TIME_CAP_STATUS (BitVec.ofNat 32 d.timeStatus)

/-! ### The line epoch -/

/-- The first index of a grid of epoch `e` at or after an instant of the grid in force, given as twice its numerator over PER_DEN. -/
def firstIndex (e num den twice : Nat) : Nat := (twice - 2 * e * den + 2 * num - 1) / (2 * num)

/-- Twice the numerator of boundary `k` on the grid in force, over PER_DEN. -/
def Dev.twiceBound (d : Dev) (k : Nat) : Nat := 2 * (d.time.epoch * d.tick.den + d.tick.epochRem + k * d.tick.num)

/-- The index of the first full tick on a new grid of epoch `e` (R115): after the transitional tick, or the first boundary to come. -/
def Dev.firstFull (d : Dev) (e : Nat) : Nat :=
  if d.tick.running then firstIndex e d.tick.num d.tick.den (d.twiceBound d.tick.nextK + d.tick.num)
  else firstIndex e d.tick.num d.tick.den (2 * d.tod16 * d.tick.den)

/-- The last index that a new grid must not fall back to (R125): that of the transitional tick, or the last opened since reset. -/
def Dev.lastIndex (d : Dev) (last : Option Nat) : Option Nat :=
  if d.tick.running then some d.tick.nextK else last

/-! ### Commands -/

/-- A port is SLAVE while SRC = PTP (R118). -/
def Dev.ptpSlave (d : Dev) : Bool := decide (d.timeSrc = 2) && d.time.ports.any fun p => decide (p.2.state = 9) && d.ptpEnabled p.1

/-- TIME_SET (R107, R118, Table 5-5). -/
def timeSetSpec : CmdSpec where
  opcode := 0x0300
  params := [pu 8 64, pu 4 32, pu 2 16]
  checks := fun c d =>
    [(.state, d.anyShaft || d.ptpSlave), (.busy, d.time.stepReq.isSome),
     (.range, decide (1000000000 ≤ c.p 1) || !d.stepFits ⟨some (timeOf (c.p 0) (c.p 1) (c.p 2)), 0, d.nextOpen, none⟩)]
  waits := fun _ d => d.tick.running
  run := fun c cid d =>
    let q : StepReq := ⟨some (timeOf (c.p 0) (c.p 1) (c.p 2)), 0, d.nextOpen, some cid⟩
    (d.requestStep q, if d.tick.running then .wait .step 0 0 else .ok 0 0)

/-- TIME_ADJUST (R106, R107, R118): flag bit 0 is a step. -/
def timeAdjustSpec : CmdSpec where
  opcode := 0x0301
  flagMask := 1
  params := [ps 8 64]
  checks := fun c d =>
    let off := c.sp 0 64
    if c.flag 0 then
      [(.state, d.anyShaft || d.ptpSlave), (.busy, d.time.stepReq.isSome), (.range, !d.stepFits ⟨none, off, d.nextOpen, none⟩)]
    else [(.state, d.ptpSlave), (.range, decide (sec16 < off.natAbs))]
  waits := fun c d => c.flag 0 && d.tick.running
  run := fun c cid d =>
    let off := c.sp 0 64
    if c.flag 0 then
      (d.requestStep ⟨none, off, d.nextOpen, some cid⟩, if d.tick.running then .wait .step 0 0 else .ok 0 0)
    else (d.slew off, .ok 0 0)

/-- TIME_GET (R102, R246). -/
def timeGetSpec : CmdSpec where
  opcode := 0x0302
  params := [pu 8 64]
  hostAddr := some 0
  run := fun c _ d =>
    let t := d.tod16
    d.doCapture.toHost c (c.p 0)
      (packBlock [(8, secOf t), (4, nsOf t), (2, fracOf t), (8, d.tick.index), (8, d.optime), (4, d.evt.pcc), (4, d.timeStatus)])
      (.ok (nsOf t) (secOf t % 2 ^ 48 + fracOf t * 2 ^ 48))

/-- TIME_EPOCH_SET (R115, R125). `last` is the last index opened since reset. -/
def timeEpochSetSpec (last : Option Nat) : CmdSpec where
  opcode := 0x0303
  params := [pu 8 64, pu 4 32, pu 2 16]
  checks := fun c d =>
    let e := timeOf (c.p 0) (c.p 1) (c.p 2)
    [(.state, d.anyShaft || d.tickBusy),
     (.range, decide (1000000000 ≤ c.p 1) || decide (2 ^ 48 ≤ c.p 0) || (d.lastIndex last).any fun l => decide (d.firstFull e ≤ l))]
  waits := fun _ _ => true
  run := fun c cid d =>
    let e := timeOf (c.p 0) (c.p 1) (c.p 2)
    if d.tick.running then ({ d with tick := { d.tick with epochReq := some (e, some cid) } }, .wait .epoch 0 0)
    else
      let tk := { d.tick with epochRem := 0, epochLive := true, epochCid := some cid, startK := none }
      ({ d with tick := tk, time := { d.time with epoch := e } }, .wait .epoch 0 0)

/-- PPS_CONFIG (R113). -/
def ppsConfigSpec : CmdSpec where
  opcode := 0x0320
  params := [pu 1 1, pu 1 1, pu 1 1, pu 2 16, ps 4 32, ps 4 32]
  checks := fun c _ => [(.range, decide (c.p 3 = 0) || decide (500 < c.p 3))]
  waits := fun _ d => d.tick.running
  run := fun c cid d =>
    let ones := BitVec.allOnes 32
    d.bufferedRegs [chg F.TIME_CTRL.PPS_IN_EN (c.p 0), chg F.TIME_CTRL.PPS_OUT_EN (c.p 1), chg F.TIME_CTRL.PPS_IN_EDGE (c.p 2),
      chg F.TIME_PPS_CFG.PPS_WIDTH (c.p 3), .word R.TIME_PPS_IN_DELAY ones (BitVec.ofNat 32 (c.p 4)),
      .word R.TIME_PPS_OUT_DELAY ones (BitVec.ofNat 32 (c.p 5))] cid

def timeSet (src : Source) (d : Dev) : Dev := d.command timeSetSpec src none
def timeAdjust (src : Source) (d : Dev) : Dev := d.command timeAdjustSpec src none
def timeGet (src : Source) (dmaOk : Bool) (d : Dev) : Dev := d.command timeGetSpec src (dmaOf dmaOk)
def timeEpochSet (src : Source) (last : Option Nat) (d : Dev) : Dev := d.command (timeEpochSetSpec last) src none
def ppsConfig (src : Source) (d : Dev) : Dev := d.command ppsConfigSpec src none

end Sys2Proof.Machine
end

