-- ==== Sys2Proof/Machine/Ptp.lean ====
section
/-! DEFINITION. The PTP instance (R117 to R119, R121, R212): its ports, the best-master comparison, path delay and offset, the messages it
sends, and the commands 0x0310 to 0x0312. The protocol details come from IEEE 1588-2019 and IEEE 802.1AS-2020, which the spec names (PRESUMED, log 31). -/

namespace Sys2Proof.Machine

/-! ### Ports -/

/-- LOG_SYNC, LOG_ANNOUNCE, LOG_PDELAY (PTP_INTERVALS). -/
def Dev.logSync (d : Dev) : Int := signedN 8 (d.get F.PTP_INTERVALS.LOG_SYNC)
def Dev.logAnnounce (d : Dev) : Int := signedN 8 (d.get F.PTP_INTERVALS.LOG_ANNOUNCE)
def Dev.logPdelay (d : Dev) : Int := signedN 8 (d.get F.PTP_INTERVALS.LOG_PDELAY)

/-- Port `p` beside PTP_PORT_EN. -/
def Dev.portOf (d : Dev) (p : Nat) : PtpPort := Tbl.getD d.time.ports p PtpPort.reset

/-- Port `p` replaced. -/
def Dev.setPort (d : Dev) (p : Nat) (x : PtpPort) : Dev := { d with time := { d.time with ports := Tbl.put d.time.ports p x } }

/-- The gPTP profile runs (PTP_CFG.PROFILE). -/
def Dev.gptp (d : Dev) : Bool := d.bit F.PTP_CFG.PROFILE

/-- Peer-to-peer delay on a port: chosen per port, and always in gPTP (Table 5-3). -/
def Dev.portP2p (d : Dev) (p : Nat) : Bool := d.gptp || (d.portOf p).p2p

/-- portState as shown: DISABLED where the port is not enabled. -/
def Dev.portState (d : Dev) (p : Nat) : Nat := if d.ptpEnabled p then (d.portOf p).state else 3

/-- The ports that take part. -/
def Dev.ptpPorts (d : Dev) : List Nat := (List.range 256).filter d.ptpEnabled

/-- A port that starts anew in INITIALIZING, its settings kept. -/
def Dev.portRestart (d : Dev) (p : Nat) : Dev :=
  let x := d.portOf p
  d.setPort p { PtpPort.reset with p2p := x.p2p, asym := x.asym, ext := x.ext }

/-- An interval of 2^`log` seconds. -/
def logTime (log : Int) : Nat :=
  if 0 ≤ log then 1000 * msec * 2 ^ log.toNat else 1000 * msec / 2 ^ (-log).toNat

/-- The identity of a port of the device. -/
def portIdentity (p : Nat) : Nat := Config.ptpIdentity.toNat * 65536 + p + 1

/-- A duration as the grandmaster's clock counts it, its rate less 1 given in 2^-41. -/
def stretch (rate v : Int) : Int := v + roundDiv (v * rate) (2 ^ 41)

/-! ### Best master (Table 5-3) -/

/-- The attributes in the order of comparison. -/
def datasetKey (x : PtpDataset) : List Nat :=
  [x.priority1, x.clockClass, x.accuracy, x.variance, x.priority2, x.gmIdentity, x.stepsRemoved, x.sender]

/-- Lexicographic order. -/
def listLess : List Nat → List Nat → Bool
  | [], _ => false
  | _ :: _, [] => false
  | a :: r, b :: t => decide (a < b) || (decide (a = b) && listLess r t)

/-- The gPTP BMCA of IEEE 802.1AS-2020: priority vectors are compared as they stand, the port that received them last. -/
def gptpBetter (a b : Nat × PtpDataset) : Bool := listLess (datasetKey a.2 ++ [a.1]) (datasetKey b.2 ++ [b.1])

/-- What the comparison of two data sets finds: which is better, and whether only by topology. -/
inductive BmcaCmp where
  | first | firstByTopology | second | secondByTopology
  deriving DecidableEq, Repr

/-- The default BMCA of IEEE 1588-2019 on two data sets received on ports of the clock `me`: by the attributes of different grandmasters, else by distance and identities. -/
def bmcaCompare (me : Nat) (a b : Nat × PtpDataset) : BmcaCmp :=
  let recv (x : Nat × PtpDataset) : Nat := me * 65536 + x.1 + 1
  if a.2.gmIdentity ≠ b.2.gmIdentity then
    if listLess ((datasetKey a.2).take 6) ((datasetKey b.2).take 6) then .first else .second
  else if a.2.stepsRemoved + 1 < b.2.stepsRemoved then .first
  else if b.2.stepsRemoved + 1 < a.2.stepsRemoved then .second
  else if b.2.stepsRemoved < a.2.stepsRemoved then if recv a < a.2.sender then .second else .secondByTopology
  else if a.2.stepsRemoved < b.2.stepsRemoved then if recv b < b.2.sender then .first else .firstByTopology
  else if a.2.sender ≠ b.2.sender then if a.2.sender < b.2.sender then .firstByTopology else .secondByTopology
  else if a.1 < b.1 then .firstByTopology else .secondByTopology

/-- One clock heard is better than another, by the algorithm of the profile (Table 5-3). -/
def Dev.betterHeard (d : Dev) (a b : Nat × PtpDataset) : Bool :=
  if d.gptp then gptpBetter a b
  else match bmcaCompare Config.ptpIdentity.toNat a b with
    | .first => true | .firstByTopology => true | .second => false | .secondByTopology => false

/-- One clock is better than another by its attributes alone. -/
def betterClock (a b : PtpDataset) : Bool := listLess (datasetKey a) (datasetKey b)

/-- The clockClass announced (R119). -/
def Dev.ownClass (d : Dev) : Nat :=
  if d.time.st = .locked ∧ d.timeSrc ≠ 2 ∧ d.bit F.TIME_CTRL.TRACEABLE then d.get F.PTP_CLASS.CLASS_LOCKED
  else if d.time.st = .holdover then d.get F.PTP_CLASS.CLASS_HOLD
  else d.get F.PTP_CLASS.CLASS_FREE

/-- The attributes of the device's own clock (R119); identity and variance are open (Config). -/
def Dev.ownDataset (d : Dev) : PtpDataset where
  priority1 := d.get F.PTP_CFG.PRIORITY1
  clockClass := d.ownClass
  accuracy := d.get F.PTP_CFG.ACCURACY
  variance := Config.ptpVariance.toNat
  priority2 := d.get F.PTP_CFG.PRIORITY2
  gmIdentity := Config.ptpIdentity.toNat
  stepsRemoved := 0
  sender := Config.ptpIdentity.toNat * 65536

/-- The best clock heard on any enabled port, and where. -/
def Dev.bestHeard (d : Dev) : Option (Nat × PtpDataset) :=
  d.ptpPorts.foldl (fun best p =>
    match (d.portOf p).heard, best with
    | none, b => b
    | some x, none => some (p, x)
    | some x, some b => if d.betterHeard (p, x) b then some (p, x) else some b) none

/-- The data set that the device sends on a MASTER port: its own, or that of its parent one step on (R119). -/
def Dev.announced (d : Dev) : PtpDataset :=
  match d.time.parent with
  | some x => { x with stepsRemoved := x.stepsRemoved + 1, sender := Config.ptpIdentity.toNat * 65536 }
  | none => d.ownDataset

/-- The state that IEEE 1588-2019 recommends for a port (clockClass below 128 never makes a SLAVE). -/
def Dev.recommend1588 (d : Dev) (p : Nat) : Nat :=
  let own := d.ownDataset
  let heard := (d.portOf p).heard
  if own.clockClass < 128 then if heard.any fun x => betterClock x own then 7 else 6
  else
    match d.bestHeard with
    | none => 6
    | some b =>
      if betterClock own b.2 then 6
      else if b.1 = p then 9
      else match heard with
        | some x => if bmcaCompare Config.ptpIdentity.toNat b (p, x) = .firstByTopology then 7 else 6
        | none => 6

/-- The state that IEEE 802.1AS-2020 gives a port: SLAVE where the best vector came in, else MASTER unless what it hears is better than what the device would send there. A clock whose
priority1 is 255 is no grandmaster. -/
def Dev.recommendGptp (d : Dev) (p : Nat) : Nat :=
  let own := d.ownDataset
  match d.bestHeard with
  | none => 6
  | some b =>
    if own.priority1 ≠ 255 ∧ betterClock own b.2 then 6
    else if b.1 = p then 9
    else match (d.portOf p).heard with
      | some x => if betterClock x { b.2 with stepsRemoved := b.2.stepsRemoved + 1, sender := Config.ptpIdentity.toNat * 65536 } then 7 else 6
      | none => 6

/-- The state that comparison recommends for a port that has left LISTENING or has heard something (R117). -/
def Dev.recommend (d : Dev) (p : Nat) : Nat := if d.gptp then d.recommendGptp p else d.recommend1588 p

/-- The instant after which Syncs of a port have been missing for more than three intervals, and that of its announce timeout (R121). -/
def Dev.syncDue (d : Dev) (p : Nat) : Nat := (d.portOf p).lastSync + 3 * logTime d.logSync + 1
def Dev.annDue (d : Dev) (p : Nat) : Nat := (d.portOf p).heardAt + d.get F.PTP_INTERVALS.ANNOUNCE_TIMEOUT * logTime d.logAnnounce

/-- The SLAVE port has shown that the source is there; its announce timeout counts where it is not configured from outside (R121; DEDUCED, log 199). -/
def Dev.sourceSeen (d : Dev) (p : Nat) : Dev :=
  if (d.portOf p).state = 9 then
    let due := if d.bit F.PTP_CLASS.EXT_PORT_CFG then d.syncDue p else min (d.syncDue p) (d.annDue p)
    { d with time := { d.time with lostBy := some due } }
  else d

/-- A port in service takes a state; entering SLAVE it starts anew to listen for Syncs. -/
def Dev.portTo (d : Dev) (p st : Nat) : Dev :=
  let x := d.portOf p
  if x.state = st then d
  else
    (d.setPort p { x with state := st, lastSync := if st = 9 then d.now else x.lastSync, syncT1 := none, syncT2 := none }).sourceSeen p

/-- The SLAVE port of the instance. -/
def Dev.slavePort (d : Dev) : Option Nat := d.ptpPorts.find? fun p => decide ((d.portOf p).state = 9)

/-- The ports' states after a comparison, or as configured from outside (EXT_PORT_CFG). (DEDUCED, log 92) -/
def Dev.ptpDecide (d : Dev) : Dev :=
  let ext := d.bit F.PTP_CLASS.EXT_PORT_CFG
  let d1 := d.ptpPorts.foldl (fun d p =>
    let x := d.portOf p
    if x.state = 1 then d
    else if ext then (if x.ext = 0 then d else d.portTo p x.ext)
    else if x.state = 4 ∧ x.heard.isNone then d
    else d.portTo p (d.recommend p)) d
  let slave := d1.slavePort
  { d1 with time := { d1.time with parent := slave.bind fun p => (d1.portOf p).heard, relay := d1.time.relay.filter fun r => decide (slave = some r.port) } }

/-- A port in service: INITIALIZING is over, and it listens. -/
def Dev.portWake (d : Dev) (p : Nat) : Dev :=
  let x := d.portOf p
  if x.state = 1 then (d.setPort p { x with state := 4, heardAt := d.now }).ptpDecide else d

/-- A change of PTP_PORT_EN (R117): ports newly enabled start in INITIALIZING. -/
def Dev.ptpEnableChanged (d : Dev) (i : Nat) (old : Word) : Dev :=
  let d1 := (List.range 32).foldl (fun d j =>
    if (d.word (R.PTP_PORT_EN i)).getLsbD j && !old.getLsbD j then d.portRestart (32 * i + j) else d) d
  d1.ptpDecide

/-- A change of profile or domain restarts every port (Table 5-5). -/
def Dev.ptpRestart (d : Dev) : Dev := (d.ptpPorts.foldl Dev.portRestart d).ptpDecide

/-- The settings that PTP_PORT_CONFIG carries become live. -/
def Dev.portCfgLive (d : Dev) (p : Nat) (p2p : Bool) (ext : Nat) (asym : Int) : Dev :=
  (d.setPort p { d.portOf p with p2p := p2p, ext := ext, asym := asym }).ptpDecide

/-- The link goes down (R219): the instance loses every port. -/
def Dev.ptpLinkDown (d : Dev) : Dev := d.ptpRestart

/-! ### Sending -/

/-- The instance hands a message to the link (R212). -/
def Dev.ptpSend (d : Dev) (m : PtpOut) (event : Bool) : Dev :=
  d.enqueue ⟨if event then .ptpEvent else .ptpGeneral, portMask m.port, d.get F.LINK_CLASS.PTP_TC, 0, .ptp m, d.tick.index, d.now⟩

/-- A message of a port with the fields that most kinds leave empty. -/
def Dev.ptpOut (d : Dev) (p : Nat) (kind : PtpKind) (seq stamp : Nat) (corr : Int) : PtpOut :=
  ⟨p, kind, d.get F.PTP_CFG.DOMAIN, seq, decide (kind = .sync) || decide (kind = .pdelayResp), stamp, corr, 0, 0, 0, none, none⟩

/-- The code of a message kind, in the order of Table 5-3. -/
def ptpCode : PtpKind → Nat
  | .sync => 0 | .followUp => 1 | .delayReq => 2 | .delayResp => 3 | .pdelayReq => 4 | .pdelayResp => 5 | .pdelayRespFollowUp => 6
  | .announce => 7 | .signaling => 8 | .management => 9

/-- The interval of a kind of message on a port as log2 of seconds: that of PTP_INTERVALS, or in gPTP the one that its neighbour asked for, 127 being
stop (Table 5-3). -/
def Dev.portLog (d : Dev) (p : Nat) (kind : PtpKind) : Int :=
  let x := d.portOf p
  let ask (a : Option Int) (own : Int) : Int := if d.gptp then a.getD own else own
  match kind with
  | .sync => ask x.askSync d.logSync
  | .announce => ask x.askAnnounce d.logAnnounce
  | _ => ask x.askPdelay d.logPdelay

/-- Whether a port sends a kind of message at its intervals (Table 5-3): a gPTP relay sends Syncs once it has the grandmaster's time to pass on. -/
def Dev.ptpSends (d : Dev) (p : Nat) (kind : PtpKind) : Bool :=
  let st := (d.portOf p).state
  let able := !d.gptp || (d.portOf p).capable
  let on := decide (d.portLog p kind ≠ 127)
  match kind with
  | .sync => decide (st = 6) && able && on && (!d.gptp || d.slavePort.isNone || d.time.relay.isSome)
  | .announce => decide (st = 6) && able && on
  | .delayReq => decide (st = 9) && !d.portP2p p
  | .pdelayReq => d.portP2p p && on
  | .followUp => false
  | .delayResp => false
  | .pdelayResp => false
  | .pdelayRespFollowUp => false
  | .signaling => false
  | .management => false

/-- The interval of a kind of message on a port. -/
def Dev.ptpInterval (d : Dev) (p : Nat) (kind : PtpKind) : Nat := logTime (d.portLog p kind)

/-- currentUtcOffset and currentUtcOffsetValid (TIME_UTC_OFFSET, Table 5-3). -/
def Dev.utcOffset (d : Dev) : Int × Bool := (signedN 16 (d.get F.TIME_UTC_OFFSET.UTC_OFFSET), d.bit F.TIME_UTC_OFFSET.UTC_VALID)

/-- A peer-delay request goes out: where the one before it was not answered, one more is lost, and the tenth in a row ends asCapable (IEEE 802.1AS-2020, PRESUMED, log 31). -/
def PtpPort.askDelay (y : PtpPort) (p2p : Bool) (seq now : Nat) : PtpPort :=
  let lost := if p2p ∧ y.reqSent.isSome then y.lostResp + 1 else 0
  { y with reqSeq := seq, reqSent := some now, reqT3 := none, respT := none, lostResp := lost, capable := y.capable && decide (lost ≤ 9) }

/-- PTP_MESSAGE_INTERVAL: an interval expires and the message is sent (R117, R212). -/
def ptpMessageInterval (p : Nat) (kind : PtpKind) (d : Dev) : Dev :=
  if !d.linkUp ∨ !d.ptpEnabled p then d
  else
    let d1 := d.portWake p
    if !d1.ptpSends p kind then d1
    else
      let d2 := d1.after (Tbl.get? (d1.portOf p).lastTx (ptpCode kind)) (d1.ptpInterval p kind)
      let x := d2.portOf p
      let y := { x with txSeq := (x.txSeq + 1) % 65536, lastTx := Tbl.put x.lastTx (ptpCode kind) d2.now }
      let m := d2.ptpOut p kind x.txSeq 0 0
      match kind with
      | .announce => (d2.setPort p y).ptpSend { m with dataset := some d2.announced, utc := some d2.utcOffset } false
      | .sync => (d2.setPort p y).ptpSend m true
      | _ => (d2.setPort p (y.askDelay (decide (kind = .pdelayReq)) x.txSeq d2.now)).ptpSend m true

/-- The Follow_Up of a Sync that left at `ts`: the device's own time, or in a gPTP relay the grandmaster's origin time, with the correction grown by the
residence in the device (R117). -/
def Dev.followUp (d : Dev) (m : PtpOut) (ts : Nat) : PtpOut :=
  match d.time.relay with
  | some r =>
    if d.gptp then { d.ptpOut m.port .followUp m.seq r.origin (r.corr + stretch r.rate ((ts : Int) - r.at')) with rate := r.rate }
    else d.ptpOut m.port .followUp m.seq ts 0
  | none => d.ptpOut m.port .followUp m.seq ts 0

/-- The timestamp of an event message that the switch core delivered (R212): it goes into the message that follows, or into the delay
measurement. -/
def Dev.ptpStamped (d : Dev) (m : PtpOut) (ts : Nat) : Dev :=
  match m.kind with
  | .sync => d.ptpSend (d.followUp m ts) false
  | .pdelayResp => d.ptpSend { d.ptpOut m.port .pdelayRespFollowUp m.seq ts m.held with requesting := m.requesting } false
  | .delayReq =>
    let x := d.portOf m.port
    if x.reqSeq = m.seq then d.setPort m.port { x with reqT3 := some ts } else d
  | .pdelayReq =>
    let x := d.portOf m.port
    if x.reqSeq = m.seq then d.setPort m.port { x with reqT3 := some ts } else d
  | _ => d

/-! ### Receiving -/

/-- A measured offset of the SLAVE port, one per Sync (R104, R118): positive means ToD is ahead. `rate` is the grandmaster's rate less 1 against the sender, in 2^-41;
a gPTP relay keeps what its MASTER ports pass on (R117). -/
def Dev.ptpOffset (d : Dev) (p t1 t2 : Nat) (corr rate : Int) : Dev :=
  let x := d.portOf p
  let here := corr + x.asym + stretch rate x.pathDelay
  let off := (t2 : Int) - t1 - here
  let relay : Option Relay := if d.gptp then some ⟨p, t1, here, t2, stretch x.rate rate + x.rate⟩ else none
  let d1 := d.setPort p { x with offset := off, syncT1 := none, syncT2 := none }
  let d2 := { d1 with time := { d1.time with relay := relay } }
  if d2.timeSrc = 2 then (d2.timeMeasure off).ptpCorrect off else d2

/-- A new mean path delay, from twice its value; a neighbour beyond neighborPropDelayThresh is not asCapable (R117, IEEE 802.1AS-2020). -/
def Dev.ptpDelay (d : Dev) (p : Nat) (twice : Int) : Dev :=
  let x := d.portOf p
  let delay := if d.gptp ∧ x.noDelay then x.pathDelay else twice.fdiv 2
  d.setPort p { x with pathDelay := delay, capable := decide (delay ≤ Config.neighborThresh.toNat), reqSent := none, lostResp := 0, respT := none }

/-- A peer-delay exchange is complete (Table 5-3): the request left at `t1` and was received at `t2` of the neighbour's clock, the response left it at `t3` and arrived at `t4`.
In gPTP the neighbour's rate comes from this exchange and the one before it, and the turnaround is taken on its clock. -/
def Dev.peerDelay (d : Dev) (p t1 : Nat) (t2 t3 : Int) (t4 : Nat) : Dev :=
  let x := d.portOf p
  let rate := match x.respPair with
    | some q => if x.noRate ∨ (t4 : Int) ≤ q.2 then x.rate else roundDiv ((t3 - q.1 - ((t4 : Int) - q.2)) * 2 ^ 41) (t4 - q.2)
    | none => x.rate
  if d.gptp then (d.setPort p { x with rate := rate, respPair := some (t3, t4) }).ptpDelay p (stretch rate ((t4 : Int) - t1) - (t3 - t2))
  else d.ptpDelay p ((t4 : Int) - t1 - (t3 - t2))

/-- An interval that a neighbour asks for: -128 keeps it, 126 is the initial one, 127 stops, and another counts within the range of PTP_INTERVALS (Table 5-3). -/
def askedLog (old : Option Int) (v lo hi : Int) : Option Int :=
  if v = 126 then none else if v = 127 ∨ (lo ≤ v ∧ v ≤ hi) then some v else old

/-- Whether a message comes from the clock that a port follows, where it has heard one. -/
def PtpPort.follows (x : PtpPort) (m : PtpMessage) : Bool := x.heard.all fun h => decide (h.sender = m.sender)

/-- A message of the domain that arrives on an enabled port, `ingress` being its ingress timestamp as a full ToD (R101). -/
def Dev.ptpTake (d : Dev) (m : PtpMessage) (ingress : Nat) : Dev :=
  let p := m.port
  let x := d.portOf p
  let able := !d.gptp || x.capable
  let rate := if d.gptp then m.rate else 0
  let ours := decide (m.requesting = portIdentity p ∧ m.seq = x.reqSeq)
  match m.kind with
  | .sync =>
    if x.state ≠ 9 ∨ !able ∨ !x.follows m then d
    else
      let y := { x with lastSync := d.now, syncSeq := m.seq }
      if m.twoStep then (d.setPort p { y with syncT2 := some (m.seq, ingress), syncT1 := some (m.seq, m.correction) }).sourceSeen p
      else ((d.setPort p y).sourceSeen p).ptpOffset p m.stamp ingress m.correction rate
  | .followUp =>
    match x.syncT1, x.syncT2 with
    | some a, some b => if a.1 = m.seq ∧ x.state = 9 ∧ x.follows m then d.ptpOffset p m.stamp b.2 (a.2 + m.correction) rate else d
    | _, _ => d
  | .delayReq =>
    if x.state = 6 ∧ !d.portP2p p then d.ptpSend { d.ptpOut p .delayResp m.seq ingress m.correction with requesting := m.sender } false else d
  | .delayResp =>
    match x.reqT3 with
    | some t3 =>
      if ours ∧ x.state = 9 ∧ !d.portP2p p ∧ x.follows m then
        d.ptpDelay p (x.offset + x.pathDelay + x.asym + ((m.stamp : Int) - t3 - m.correction))
      else d
    | none => d
  | .pdelayReq =>
    if d.portP2p p then d.ptpSend { d.ptpOut p .pdelayResp m.seq ingress 0 with requesting := m.sender, held := m.correction } true else d
  | .pdelayResp =>
    if !d.portP2p p ∨ !ours then d
    else if m.twoStep then
      d.setPort p { x with respT := some (if d.gptp then (m.stamp : Int) + m.correction else (m.stamp : Int) - m.correction, ingress, m.sender) }
    else match x.reqT3 with
      | some t1 => d.ptpDelay p ((ingress : Int) - t1 - m.correction)
      | none => d
  | .pdelayRespFollowUp =>
    match x.reqT3, x.respT with
    | some t1, some r => if ours ∧ m.sender = r.2.2 then d.peerDelay p t1 r.1 ((m.stamp : Int) + m.correction) r.2.1 else d
    | _, _ => d
  | .announce =>
    if !able ∨ 255 ≤ m.dataset.stepsRemoved then d
    else ((d.setPort p { x with heard := some { m.dataset with sender := m.sender }, heardAt := d.now }).sourceSeen p).ptpDecide
  | .signaling =>
    match m.interval with
    | some q =>
      if d.gptp then
        d.setPort p { x with askSync := askedLog x.askSync q.timeSync (-7) 4, askAnnounce := askedLog x.askAnnounce q.announce (-3) 4,
                             askPdelay := askedLog x.askPdelay q.linkDelay (-3) 5, noRate := !q.computeRate, noDelay := !q.computeDelay }
      else d.count R.PTP_DISCARD_COUNT 1
    | none => d.count R.PTP_DISCARD_COUNT 1
  | .management => d.count R.PTP_DISCARD_COUNT 1

/-! ### The firmware-bound buffers (R202) -/

/-- Bytes held for a class: firmware takes what waits as soon as device time moves, unless XOFF has been sent (DESIGN CHOICE, log 44). -/
def Dev.fillOf (d : Dev) (cls : Nat) : Nat :=
  match Tbl.get? d.link.fill cls with
  | some f => if f.2 = d.now ∨ d.link.xoff.getLsbD cls then f.1 else 0
  | none => 0

/-- A carriage frame from DA to FCS around an inner frame of a length (Table 9-1). -/
def carriageLen (inner : Nat) : Nat := 14 + 16 + inner + 4

/-- Whether a received frame is no longer than 2,048 B and fits in the 128 KiB of its class (R202, R203). -/
def Dev.rxFits (d : Dev) (cls bytes : Nat) : Bool := decide (carriageLen bytes ≤ 2048) && decide (d.fillOf cls + bytes ≤ 131072)

/-- A firmware-bound frame takes its place; above 96 KiB the class is stopped where it may be (R202). -/
def Dev.rxFill (d : Dev) (cls bytes : Nat) : Dev :=
  let n := d.fillOf cls + bytes
  let d1 := ({ d with link := { d.link with fill := Tbl.put d.link.fill cls (n, d.now) } }).sramSome 0
  if 98304 < n ∧ (d.get F.LINK_PFC.TX_EN).testBit cls ∧ !d.link.xoff.getLsbD cls then
    let d2 := { d1 with link := { d1.link with xoff := d1.link.xoff ||| (1#8 <<< cls) } }
    if d2.linkLoop = 2 then d2 else d2.emit (.pfc (1#8 <<< cls) 0)
  else d1

/-- PTP_MESSAGE: a received PTP frame is processed (R202, R212, Table 5-3). -/
def ptpMessage (m : PtpMessage) (d0 : Dev) : Dev :=
  let d := d0.relayed (.ptp m)
  if !d0.receives then d0
  else if !d.rxFits m.cls m.bytes then d.count R.LINK_RX_DISCARD 1
  else
    let d1 := d.rxFill m.cls m.bytes
    if !d1.ptpEnabled m.port ∨ m.domain ≠ d1.get F.PTP_CFG.DOMAIN ∨ m.sender / 65536 = Config.ptpIdentity.toNat then d1
    else (d1.fresh.portWake m.port).ptpTake m (d1.expand48 m.ts m.tsFrac)

/-- An engine LOCKED to PTP has lost its SLAVE port otherwise than by a timeout, and what is due of it has not run out (R121; DEDUCED, log 199). -/
def Dev.ptpOrphan (d : Dev) : Bool := decide (d.timeSrc = 2) && decide (d.time.st = .locked) && d.slavePort.isNone

/-- The Announce of a port has been missing for its timeout: the comparison is made without it, and a LOCKED engine without a SLAVE port is in HOLDOVER (R121). -/
def Dev.announceLost (d : Dev) (p : Nat) : Dev :=
  let x := d.portOf p
  let d1 := (d.setPort p { x with heard := none, state := if x.state = 4 ∧ !d.bit F.PTP_CLASS.EXT_PORT_CFG then 6 else x.state }).ptpDecide
  if x.state = 9 ∧ d1.slavePort.isNone then d1.ptpHoldover else d1

/-- ANNOUNCE_TIMEOUT: Syncs missing for more than three intervals, or no Announce within the timeout (R121), which does not end the SLAVE state of a port
configured from outside. -/
def announceTimeout (p : Nat) (d : Dev) : Dev :=
  let x := d.portOf p
  let waits := d.ptpEnabled p && (decide (x.state = 4) || decide (x.state = 7) || decide (x.state = 9))
  if d.ptpOrphan ∧ (!waits ∨ d.time.lostBy.all fun t => decide (t ≤ d.annDue p)) then
    (match d.time.lostBy with
      | some t => d.till t
      | none => d).ptpHoldover
  else if !waits then d
  else if x.state = 9 ∧ d.timeSrc = 2 ∧ d.time.st = .locked ∧ (d.syncDue p < d.annDue p ∨ d.bit F.PTP_CLASS.EXT_PORT_CFG) then
    (d.till (d.syncDue p)).ptpHoldover
  else (d.till (d.annDue p)).announceLost p

/-! ### Commands -/

/-- PTP_CONFIG (R117, R119). -/
def ptpConfigSpec : CmdSpec where
  opcode := 0x0310
  params := [pu 1 1, pu 1 7, pu 1 8, pu 1 8, pu 1 8, pu 1 8, pu 1 8, pu 1 8, pu 1 1, ps 1 8, ps 1 8, ps 1 8, pu 1 8]
  checks := fun c _ =>
    let out (v lo hi : Int) : Bool := decide (v < lo) || decide (hi < v)
    [(.range, out (c.sp 9 8) (-7) 4 || out (c.sp 10 8) (-3) 4 || out (c.sp 11 8) (-3) 5 || out (c.p 12) 2 10)]
  waits := fun _ d => d.tick.running
  run := fun c cid d =>
    d.bufferedRegs [.word R.PTP_CFG (BitVec.allOnes 32)
        (BitVec.ofNat 32 (c.p 0 + c.p 1 * 2 + c.p 2 * 2 ^ 8 + c.p 3 * 2 ^ 16 + c.p 4 * 2 ^ 24)),
      chg F.PTP_CLASS.CLASS_LOCKED (c.p 5), chg F.PTP_CLASS.CLASS_HOLD (c.p 6), chg F.PTP_CLASS.CLASS_FREE (c.p 7),
      chg F.PTP_CLASS.EXT_PORT_CFG (c.p 8), chg F.PTP_INTERVALS.LOG_SYNC (c.p 9), chg F.PTP_INTERVALS.LOG_ANNOUNCE (c.p 10),
      chg F.PTP_INTERVALS.LOG_PDELAY (c.p 11), chg F.PTP_INTERVALS.ANNOUNCE_TIMEOUT (c.p 12)] cid

/-- PTP_PORT_CONFIG (R117, Table 5-5). -/
def ptpPortConfigSpec : CmdSpec where
  opcode := 0x0311
  params := [pu 1 8, pu 1 1, pu 1 1, pu 1 8, ps 8 64]
  checks := fun c d =>
    let ext := d.bit F.PTP_CLASS.EXT_PORT_CFG
    [(.state, decide (c.p 3 ≠ 0) && !ext), (.range, decide (9 < c.p 3))]
  waits := fun _ d => d.tick.running
  run := fun c cid d =>
    let p := c.p 0
    let en := chg ⟨R.PTP_PORT_EN (p / 32), p % 32, 1⟩ (c.p 1)
    (d.pendChange en).buffered [en, .ptpPort p (decide (c.p 1 = 1)) (decide (c.p 2 = 1)) (c.p 3) (c.sp 4 64)] cid

/-- PTP_STATUS (R246, Table 10-6). Without a parent the identity is the device's own. -/
def ptpStatusSpec : CmdSpec where
  opcode := 0x0312
  params := [pu 8 64, pu 1 8]
  hostAddr := some 0
  run := fun c _ d =>
    let p := c.p 1
    let x := d.portOf p
    let parent := (d.time.parent.map (·.sender)).getD (Config.ptpIdentity.toNat * 65536)
    let off := d.fitS 64 x.offset
    d.fresh.fresh.toHost c (c.p 0)
      (packBlock [(8, d.fresh.fitS 64 x.pathDelay), (8, off), (10, leNat (beBytes 10 parent)), (1, d.portState p)]) (.ok (d.portState p) off)

def ptpConfig (src : Source) (d : Dev) : Dev := d.command ptpConfigSpec src none
def ptpPortConfig (src : Source) (d : Dev) : Dev := d.command ptpPortConfigSpec src none
def ptpStatus (src : Source) (dmaOk : Bool) (d : Dev) : Dev := d.command ptpStatusSpec src (dmaOf dmaOk)

end Sys2Proof.Machine
end

