-- ==== Sys2Proof/Machine/SwitchLink.lean ====
section
/-! DEFINITION. The switch link (R199 to R223): up and down, flow control, transmission, received frames, egress reports, port status, time
carriage, in-band commands. A frame can be received only while the link is up. -/

namespace Sys2Proof.Machine

/-! ### The physical link -/

/-- The source LINK. -/
def srcLink : Nat := 0x050

/-- The LINK record (Table 13-2). -/
def Dev.linkEvent (d : Dev) (ev : Nat) : Dev := d.eventLimited 0x090 [(1, ev)]

/-- Time synchronisation is lost: 16 units without an echo, and none since (R213). -/
def Dev.tsyncLost (d : Dev) : Bool := decide (16 < d.link.noEcho)

/-- The live bit of LINK (R280): the link went down unrequested, its reference is bypassed, or time-sync is lost. -/
def Dev.linkLive (d : Dev) : Dev := d.setLive srcLink (d.link.down || d.bit F.LINK_STATUS.REF_BYPASS || d.tsyncLost)

/-- The reference of the SerDes PLL follows the MS (R201): to OSCIN as it loses lock, back under the return of R38. (DEDUCED, log 91) -/
def Dev.linkRef (d : Dev) : Dev :=
  let n := d.get F.LINK_CTRL.REF_MS
  let wanted := d.bit F.LINK_CTRL.EN && !d.bit F.LINK_CTRL.REF_SRC
  let byp := d.bit F.LINK_STATUS.REF_BYPASS
  let locked := d.bit (F.MSn_STATUS.LOCKED n)
  if wanted && !byp && !locked then
    ((((d.set F.LINK_STATUS.REF_BYPASS 1).raise F.LINK_EVENT.REF_BYPASS).linkEvent 2).sendFault srcLink 0x02 .c n).linkLive
  else if byp && !wanted then (d.set F.LINK_STATUS.REF_BYPASS 0).linkLive
  else if byp && locked && (d.msOf n).returned then ((d.set F.LINK_STATUS.REF_BYPASS 0).linkEvent 3).linkLive
  else d

/-- A frame's reports that are still outstanding are treated as missing (R218, R219). -/
def Dev.reportLost (d : Dev) (f : SentFrame) : Dev :=
  f.ports.foldl (fun d p =>
    let d1 := (d.count R.LINK_REPORT_MISSING 1).count (R.LINK_PORT_MISS p) 1
    match f.kind with
    | .pub g => d1.portMissed g p true
    | _ => d1) d

/-- Reports found missing: event and message, one message per tick (R218); for a frame sent with its CHECK inverted the message is injected (R287). -/
def Dev.reportsLost (d : Dev) (fs : List SentFrame) : Dev :=
  match fs with
  | [] => d
  | f :: _ =>
    let gone := fs.map (·.seq)
    let d1 := { d with link := { d.link with sent := d.link.sent.filter fun s => !gone.contains s.seq } }
    let d2 := (fs.foldl Dev.reportLost d1).raise F.LINK_EVENT2.REPORT_MISSING
    if d.link.missTick = some d.tick.index then d2
    else
      let d3 := { d2 with link := { d2.link with missTick := some d.tick.index } }
      if d.flt.cbHits.any (fun h => decide (h.1 = 4 ∧ h.2.2 = f.seq)) then d3.pushFault ⟨srcLink, 0x04, .c, f.seq, true, false, false⟩
      else d3.sendFault srcLink 0x04 .c f.seq

/-- LINK_UP (R200, R219): all lanes trained, alignment and codeword lock. What was outstanding is treated as missing. -/
def linkUp (d : Dev) : Dev :=
  if d.bit F.LINK_CTRL.EN && !d.linkUp && d.domainOn 18 then
    let d1 := (d.set F.LINK_STATUS.LINK_UP 1).set F.LINK_STATUS.AN_DONE (d.get F.LINK_CTRL.AN_EN)
    let d2 := ((d1.raise F.LINK_EVENT.LINK_UP).linkEvent 1).reportsLost d1.link.sent
    ({ d2 with link := { d2.link with down := false, syncAt := d2.now } }).linkLive
  else d

/-- The link goes down (R200, R219, Table 9-10). -/
def Dev.linkFall (d : Dev) (requested : Bool) : Dev :=
  if d.linkUp then
    let d1 := (d.set F.LINK_STATUS.LINK_UP 0).set F.LINK_STATUS.AN_DONE 0
    let d2 := (d1.raise F.LINK_EVENT.LINK_DOWN).linkEvent 0
    let d3 := { d2 with link := { d2.link with paused := [], down := !requested } }.ptpLinkDown
    (if requested then d3 else d3.sendFault srcLink 0x01 .u 0).linkLive
  else d

/-- LINK_DOWN: the PCS loses alignment lock (R200). -/
def linkDown (d : Dev) : Dev := d.linkFall false

/-- LINK_CTRL.EN written (R200): 0 takes the link down, and it does not train. -/
def Dev.linkEnable (d : Dev) (on : Bool) : Dev :=
  if on then d else let d1 := d.linkFall true
    ({ d1 with link := { d1.link with down := false } }).linkLive

/-! ### Flow control (R202) -/

/-- PFC_FRAME: on the classes enabled, a pause of some quanta of 512 bit times (2.56 ns at 200 Gb/s), or XON where they are 0. -/
def pfcFrame (classes : BitVec 8) (quanta : List Nat) (d0 : Dev) : Dev :=
  if !d0.receives then d0
  else
    let d := d0.relayed (.pfc classes quanta)
    let on := (List.range 8).filter fun c => classes.getLsbD c && (d.get F.LINK_PFC.RX_EN).testBit c
    let q (c : Nat) : Nat := quanta.getD c 0 % 65536
    let paused := on.foldl (fun t c => if q c = 0 then Tbl.del t c else Tbl.put t c (d.now + q c * 256 * perNs / 100)) d.link.paused
    let d1 := { d with link := { d.link with paused := paused } }
    if on.any fun c => decide (q c ≠ 0) then d1.count R.LINK_PFC_RX 1 else d1

/-- PAUSE_EXPIRY: a class's quanta expire. -/
def pauseExpiry (cls : Nat) (d : Dev) : Dev :=
  match Tbl.get? d.link.paused cls with
  | some t =>
    let d1 := d.till t
    { d1 with link := { d1.link with paused := Tbl.del d1.link.paused cls } }
  | none => d

/-- A PFC frame goes out on SWL_TX, unless the far-end loopback takes its place; the near-end one brings an XON back (R202, R291; DESIGN CHOICE, log 173). -/
def Dev.sendXon (d : Dev) (cls : Nat) : Dev :=
  let d1 := if d.linkLoop = 2 then d else d.emit (.pfc 0 (1#8 <<< cls))
  if d.linkLoop = 1 ∧ (d.get F.LINK_PFC.RX_EN).testBit cls then { d1 with link := { d1.link with paused := Tbl.del d1.link.paused cls } } else d1

/-- XON: the firmware-bound buffer of a stopped class has fallen below 64 KiB. -/
def xon (cls : Nat) (d : Dev) : Dev :=
  if d.link.xoff.getLsbD cls then
    { d with link := { d.link with xoff := d.link.xoff &&& ~~~(1#8 <<< cls), fill := Tbl.del d.link.fill cls } }.sendXon cls
  else d

/-- PAUSED and BP_ACTIVE (LINK_STATUS, R215). -/
def Dev.pausedMask (d : Dev) : Nat := ((List.range 8).filter d.classPaused).foldl (fun m c => m + 2 ^ c) 0
def Dev.bpActive (d : Dev) : Bool :=
  d.link.queue.any fun f => f.kind.line && decide (f.k = d.tick.index) && d.classPaused f.cls

/-! ### Transmission -/

/-- CARRIAGE_FRAME_TRANSMIT: of the frames that may leave, the one of the highest class that is not paused is sent (R202, R209). -/
def carriageFrameTransmit (d : Dev) : Dev :=
  match d.nextFrame with
  | some i =>
    match d.link.queue[i]? with
    | some f => ({ d with link := { d.link with queue := d.link.queue.eraseIdx i } }).transmit f
    | none => d
  | none => d

/-- PTP messages and in-band responses (R215, R218). -/
def FrameKind.timed : FrameKind → Bool
  | .ptpEvent => true | .ptpGeneral => true | .response => true
  | .pub _ => false | .shaft => false | .tsync => false

/-- BACKPRESSURE_TIMEOUT: a PTP message or response has waited 10 ms (R215). -/
def backpressureTimeout (d : Dev) : Dev :=
  let held (f : LinkFrame) : Bool := f.kind.timed && (d.classPaused f.cls || !d.linkUp)
  match d.link.queue.find? held with
  | none => d
  | some f =>
    let d1 := d.till (f.since + 10 * msec)
    let old (g : LinkFrame) : Bool := held g && d1.passed g.since (10 * msec)
    let n := (d1.link.queue.filter old).length
    ({ d1 with link := { d1.link with queue := d1.link.queue.filter fun g => !old g } }).count R.LINK_TX_DISCARD n

/-! ### Received frames -/

/-- DISCARDED_FRAME (R199, R203, R206, R208). -/
def discardedFrame (cause : DiscardCause) (d : Dev) : Dev :=
  if d.receives then (d.relayed (.other cause)).count R.LINK_RX_DISCARD 1 else d

/-- The length of a received line frame with `n` records of a message type, from its DA to the end of its payload (R208, Tables 7-7 and 8-10). -/
def lineLen (tagged : Bool) (msgType n : Nat) : Nat := 30 + (if tagged then 4 else 0) + (if msgType = 2 then 16 else 64) * n

/-- A received line frame passes the checks of R203 and R208: its length, version, line, message, and COUNT as long as the frame. -/
def Dev.headerOk (d : Dev) (h : LineHeader) (msgType n : Nat) : Bool :=
  decide (carriageLen (lineLen h.tagged msgType n) ≤ 2048) && decide (h.version = 1) && decide (h.msgType = msgType) && decide (d.lineId ≠ 0) && decide (h.lineId = d.lineId) && decide (h.count = n)

/-- Whether feedback is ingested (R195): in the modes that publish, while the tick runs. -/
def Dev.ingests (d : Dev) : Bool := d.glb.mode.publishes && d.tick.running

/-- One record of a feedback frame (R210). -/
def Dev.fbRecord (d : Dev) (f : FeedbackFrame) (slot : Nat) (r : FbRecord) : Dev :=
  match d.slotOf f.header.group slot with
  | some i =>
    if (d.folOf i).bind.any fun b => decide (b.port = f.port) then d.folFeedback f.header.group i r else d.count R.LINK_FB_REJECT 1
  | none => d.count R.LINK_FB_REJECT 1

/-- FEEDBACK_FRAME: checks, rejection, and evaluation of each record (R181, R182, R208, R210). -/
def feedbackFrame (f : FeedbackFrame) (d0 : Dev) : Dev :=
  let n := f.recs.length
  let d := d0.relayed (.feedback f)
  if !d0.receives then d0
  else if !d.headerOk f.header 2 n then d.count R.LINK_RX_DISCARD 1
  else if !d.glb.mode.publishes then d.count R.LINK_RX_DISCARD 1
  else if !d.ingests then d
  else if d.tick.cutDone then d.count R.TICK_FB_LATE_COUNT 1
  else if d.grpFree f.header.group ∨ 32 < f.header.firstSlot + n then d.count R.LINK_FB_REJECT n
  else ((List.range n).foldl (fun d i =>
    match f.recs[i]? with
    | some r => d.fbRecord f (f.header.firstSlot + i) r
    | none => d) d).sramSome 0

/-- SHAFT_STATE_FRAME: each record goes to the mirrors (R208, R211). -/
def shaftStateFrame (f : ShaftFrame) (d0 : Dev) : Dev :=
  let d := d0.relayed (.shafts f)
  if !d0.receives then d0
  else if !d.headerOk f.header 3 f.recs.length then d.count R.LINK_RX_DISCARD 1
  else f.recs.foldl Dev.receiveRecord d

/-- A frame sent within the last 2^16 sequence numbers (R218). -/
def Dev.sentLately (d : Dev) (s : SentFrame) : Bool := decide ((d.link.seq + 2 ^ 32 - s.seq) % 2 ^ 32 ≤ 2 ^ 16)

/-- One egress report (R207, R216 to R218). -/
def Dev.egressReport (d : Dev) (r : EgressReport) : Dev :=
  match d.link.sent.find? fun s => decide (s.seq = r.seq) && s.ports.contains r.port && d.sentLately s with
  | none => d.count R.LINK_REPORT_LATE 1
  | some f =>
    if !r.checkOk ∨ 3 < r.status then d.count R.LINK_REPORT_LATE 1
    else
      let sent := d.link.sent.map fun s => if s.seq = r.seq then { s with ports := s.ports.erase r.port } else s
      let d1 := { d with link := { d.link with sent := sent.filter fun s => !s.ports.isEmpty } }
      if r.status = 0 then
        match f.kind, f.ptp with
        | .ptpEvent, some m => d1.fresh.ptpStamped m (d.expand48 r.ts r.tsFrac)
        | _, _ => d1
      else if r.status = 1 ∧ d.time.stepK = some f.k then d1
      else
        let d2 := d1.count (R.LINK_PORT_MISS r.port) 1
        match f.kind with
        | .pub g =>
          let d3 := d2.portMissed g r.port (decide (r.status ≠ 2))
          let late : Bool := match Tbl.get? d.link.portSeq r.port with
            | some s => decide (r.seq ≠ s) && decide ((r.seq + 2 ^ 32 - s) % 2 ^ 32 < 2 ^ 31)
            | none => true
          if r.status = 2 ∧ late then d3.folPortDown g r.port else d3
        | _ => d2

/-- EGRESS_REPORTS: a unit of reports, in their order. -/
def egressReports (rs : List EgressReport) (d : Dev) : Dev :=
  if d.receives then rs.foldl Dev.egressReport (d.relayed (.reports rs)) else d

/-- REPORT_MISSING: reports of line frames not received by the end of the tick after their transmission, and of PTP and response frames not
received in 10 ms (R218). -/
def reportMissing (d : Dev) : Dev :=
  if !d.linkUp then d
  else
    let line := d.link.sent.filter fun s => s.kind.line && decide (s.k + 2 ≤ d.tick.index)
    if line ≠ [] then d.reportsLost line
    else
      match d.link.sent.find? fun s => s.kind.timed with
      | none => d
      | some f =>
        let d1 := d.till (f.sentAt + 10 * msec)
        d1.reportsLost (d1.link.sent.filter fun s => s.kind.timed && d1.passed s.sentAt (10 * msec))

/-- PORT_STATUS: the port-up mask (R187, R217). -/
def portStatus (mask : Nat) (d0 : Dev) : Dev :=
  if !d0.receives then d0
  else
    let d := d0.relayed (.ports mask)
    let up := (List.range 256).filter fun p => mask.testBit p && !(d.word (R.LINK_PORT_UP (p / 32))).getLsbD (p % 32)
    let down := (List.range 256).filter fun p => !mask.testBit p && (d.word (R.LINK_PORT_UP (p / 32))).getLsbD (p % 32)
    let d1 := (List.range 8).foldl (fun d i => d.setWord (R.LINK_PORT_UP i) (BitVec.ofNat 32 (mask / 2 ^ (32 * i)))) d
    let last := (d.link.seq + 2 ^ 32 - 1) % 2 ^ 32
    let d2 := { d1 with link := { d1.link with portSeq := up.foldl (fun t p => Tbl.put t p last) d1.link.portSeq } }
    let d3 := up.foldl Dev.folPortUp d2
    if up = [] ∧ down = [] then d3 else d3.raise F.LINK_EVENT.PORT_CHANGE

/-! ### Time (R213) -/

/-- LINK_TSYNC.PERIOD, taken as the nearer limit outside 100 to 10,000. -/
def Dev.tsyncPeriod (d : Dev) : Nat := min 10000 (max 100 (d.get F.LINK_TSYNC.PERIOD))

/-- TIME_SYNC_UNIT: the period has passed and a unit is handed to the link; with 16 units unanswered, time-sync is lost. -/
def timeSyncUnit (d : Dev) : Dev :=
  if !d.linkUp then d
  else
    let d1 := d.till (d.link.syncAt + d.tsyncPeriod * usec)
    let d2 := { d1 with link := { d1.link with syncAt := d1.now, noEcho := d1.link.noEcho + 1, syncs := d1.link.syncs.drop (d1.link.syncs.length - 31) } }
    let d3 := d2.enqueue ⟨.tsync, 0, d.get F.LINK_CLASS.PTP_TC, 0, .tsync [], d.tick.index, d1.now⟩
    if d1.link.noEcho = 16 then
      (((((d3.set F.LINK_STATUS.TSYNC_OK 0).raise F.LINK_EVENT2.TSYNC_LOST).linkEvent 4).sendFault srcLink 0x03 .u 0)).linkLive
    else d3

/-- TIME_ECHO: a matched echo gives a delay sample, its timestamps expanded (R101); LINK_DELAY is free where it cannot show the sum (DESIGN CHOICE, log 23). -/
def timeEcho (e : TimeEcho) (d0 : Dev) : Dev :=
  if !d0.receives then d0
  else
    let d := d0.relayed (.echo e)
    match d.link.syncs.find? fun s => decide (s.1 = e.syncSeq) with
    | none => d
    | some s =>
      let turn : Int := (d.expand48 e.t3 e.t3Frac : Nat) - (d.expand48 e.t2 e.t2Frac : Nat)
      let samples := (((d.tod16 : Int) - s.2 - turn) :: d.link.delays).take 8
      let mean := (samples.foldl (· + ·) 0).fdiv (2 * samples.length)
      let shown := d.fitU 32 (mean + signedN 32 (d.word R.LINK_ASYM).toNat)
      let l := { d.link with delays := samples, noEcho := 0, syncs := d.link.syncs.filter fun x => decide (x.1 ≠ e.syncSeq) }
      ((({ d.fresh with link := l }).setWord R.LINK_DELAY (BitVec.ofNat 32 shown)).set F.LINK_STATUS.TSYNC_OK 1).linkLive

/-! ### In-band commands (R220 to R222) -/

/-- A key slot is usable (LINK_KEY_CTRL). -/
def Dev.keyValid (d : Dev) (slot : Nat) : Bool := decide (slot < 2) && (d.word R.LINK_KEY_CTRL).getLsbD slot

/-- An in-band response that waits for transmission (R220, R223). -/
def Dev.replyFrame (d : Dev) (r : InbandReply) : LinkFrame :=
  ⟨.response, portMask r.entry.port, d.get F.LINK_CLASS.CMD_TC, 0, .reply r, d.tick.index, d.now⟩

/-- Responses are handed to the link; with LINE_ID = 0 none is sent (R208). -/
def Dev.flushReplies (d : Dev) : Dev :=
  let l := if d.lineId = 0 then [] else d.replies
  l.foldl (fun d r => d.enqueue (d.replyFrame r)) { d with replies := [] }

/-- An authentication failure (R221): the message is sent at most once per second. -/
def Dev.authFail (d : Dev) (sa : Nat) : Dev :=
  let d1 := (d.count R.LINK_AUTH_FAIL 1).raise F.LINK_EVENT2.AUTH_FAIL
  if (d.link.authAt.any fun t => !d.passed t (1000 * msec)) then d1
  else ({ d1 with link := { d1.link with authAt := some d.now } }).sendFault srcLink 0x05 .c sa

/-- LINK_CMD.WINDOW in ms; free for a value outside 1 to 10,000 (DESIGN CHOICE, log 45). -/
def Dev.cmdWindow (d : Dev) : Nat :=
  let w := d.get F.LINK_CMD.WINDOW
  if 1 ≤ w ∧ w ≤ 10000 then w else d.freeVal 14

/-- The window and counter tests (R221): the table of last counters after them, or none. -/
def Dev.replayCheck (d : Dev) (sa counter : Nat) : Option (List SaEntry) :=
  let near := decide (((counter : Int) - d.todNs).natAbs ≤ d.cmdWindow * 1000000)
  let cur := d.link.saCounters.filter fun e => decide (d.now ≤ e.since + d.cmdWindow * msec)
  if !near then none
  else match cur.find? fun e => decide (e.sa = sa) with
    | some e => if e.counter < counter then some (⟨sa, counter, d.now⟩ :: cur.filter fun x => decide (x.sa ≠ sa)) else none
    | none => if cur.length < 16 then some (⟨sa, counter, d.now⟩ :: cur) else none

/-- A response without execution. -/
def Dev.inbandAnswer (d : Dev) (e : Entry) (st : Status) : Dev :=
  { d with replies := d.replies ++ [⟨e, completionBytes true (BitVec.ofNat 32 (e.field 4 4)) st 0 0⟩] }

/-- IN_BAND_COMMAND_FRAME: authentication, the replay test, and the queue of 32 (R202, R208, R220 to R222). -/
def inBandCommandFrame (f : InBandFrame) (d0 : Dev) : Dev :=
  let b := f.body
  let bytes := 14 + b.length
  let d := d0.relayed (.command f)
  if !d0.receives then d0
  else if !d.rxFits f.cls bytes then d.count R.LINK_RX_DISCARD 1
  else if beAt b 0 1 ≠ 1 ∨ beAt b 1 1 ≠ 4 ∨ d.lineId = 0 ∨ beAt b 2 2 ≠ d.lineId ∨ beAt b 9 1 ≠ 1 ∨ b.length ≠ 112 then d.count R.LINK_RX_DISCARD 1
  else
    let d1 := d.rxFill f.cls bytes
    let key := beAt b 16 1
    let counter := beAt b 24 8
    let e : Entry := ⟨slice b 32 64, d.now, f.sa, f.port, key, counter, true⟩
    if !d.bit F.LINK_CTRL.CMD_EN ∨ !d.keyValid key ∨ d.lineMac key f.sa (b.take 96) ≠ b.drop 96 then d1.authFail f.sa
    else match d1.replayCheck f.sa counter with
    | none => ((d1.fresh.count R.LINK_REPLAY 1).raise F.LINK_EVENT2.REPLAY).inbandAnswer e .auth
    | some t =>
      let d2 : Dev := { d1.fresh with link := { d1.link with saCounters := t } }
      if d2.cmd.inband.length < 32 then { d2 with cmd := { d2.cmd with inband := d2.cmd.inband ++ [e] } }.bufWrite 8 else d2.inbandAnswer e .busy

end Sys2Proof.Machine
end

