-- ==== Sys2Proof/Machine/Events.lean ====
section
/-! DEFINITION. The event recorder (R292 to R301, R310, R319): records, rate limits, the Sand and Clay areas, the event region of the store,
operating time, and EVT_READ. -/

namespace Sys2Proof.Machine

/-- The source EVT. -/
def srcEvt : Nat := 0x003

/-! ### Records -/

/-- The bytes of a record (Table 13-1), with its suppression word if it has one (R292). -/
def Dev.recordOf (d : Dev) (code : Nat) (payload : List Byte) (supp : Option (Nat × Nat)) : List Byte :=
  let p := padTo 8 payload
  let s := match supp with
    | some x => leBytes 4 x.1 ++ leBytes 4 x.2
    | none => []
  let n := (24 + p.length + s.length) / 8
  leBytes 1 0xA5 ++ leBytes 1 n ++ leBytes 2 (code % 4096 + 4096 * b2n supp.isSome) ++ leBytes 4 d.evt.seq ++
    leBytes 8 (d.optime + d.evt.pcc * 2 ^ 44) ++ leBytes 4 (secOf d.tod16) ++ leBytes 4 (nsOf d.tod16) ++ p ++ s

/-- SEQ and code of a record. -/
def recSeq (b : List Byte) : Nat := leAt b 4 4
def recCode (b : List Byte) : Nat := leAt b 2 2 % 4096

/-- Bytes of the Sand area (R297). -/
def sandSize : Nat := 524288

/-- The records that remain when those at `bad` places are written over: everything up to the last of them is past (R297). -/
def dropThrough (bad : Nat × List Byte → Bool) (l : List (Nat × List Byte)) : List (Nat × List Byte) :=
  (l.reverse.takeWhile fun r => !bad r).reverse

/-- The sequence registers follow the Sand area (R297). -/
def Dev.sandShow (d : Dev) : Dev :=
  let tail := (d.evt.sand.head?.map fun r => recSeq r.2).getD 0
  let head := (d.evt.sand.getLast?.map fun r => recSeq r.2).getD 0
  (d.setWord R.EVT_TAIL_SEQ (BitVec.ofNat 32 tail)).setWord R.EVT_HEAD_SEQ (BitVec.ofNat 32 head)

/-- A record into the Sand area, unless bank C is out (R297), with EVT_EVENT.SAND_THRESH. -/
def Dev.sandPut (d : Dev) (b : List Byte) : Dev :=
  if d.bit F.EVT_STATUS.SAND_OFF then d
  else
    let at' := d.evt.sandNext
    let wraps := decide (sandSize < at' + b.length)
    let off := if wraps then 0 else at'
    let hit (r : Nat × List Byte) : Bool :=
      (decide (r.1 < off + b.length) && decide (off < r.1 + r.2.length)) || (wraps && decide (at' < r.1 + r.2.length))
    let n := d.evt.sandBytes + b.length
    let thr := d.get F.EVT_SAND_THRESH.KIB
    let above := decide (thr ≠ 0) && decide (thr * 1024 ≤ n) && !d.evt.threshHit
    let e := { d.evt with sand := dropThrough hit d.evt.sand ++ [(off, b)], sandNext := off + b.length, sandBytes := n,
                          threshHit := d.evt.threshHit || above }
    let d1 := ({ d with evt := e }).sandShow.sramWrite 2 (b.length / 8)
    if above then d1.raise F.EVT_EVENT.SAND_THRESH else d1

/-- Record slots of the Clay area that are used or spoken for. -/
def Dev.clayTaken (d : Dev) : Nat := d.get F.EVT_STATUS.CLAY_USED + d.evt.clayQueue.length

/-- A record waits for its Clay slot (R298): one of the first 1,024 since the last clear, and none during a clear (R299). -/
def Dev.clayPut (d : Dev) (b : List Byte) : Dev :=
  if d.evt.clearing.isSome ∨ 1024 ≤ d.clayTaken then d else { d with evt := { d.evt with clayQueue := d.evt.clayQueue ++ [b] } }

/-- An event-region block of 4,096 bytes (R310). -/
def Dev.evBlockBytes (d : Dev) : List Byte :=
  let b := d.store.evBlock ++ [0x5A]
  let c := b ++ List.replicate (4088 - b.length) 0 ++ leBytes 4 d.evt.pcc
  c ++ leBytes 4 (crc32 c)

/-- A record into the event region's block: one that does not fit begins the next block (R310). -/
def Dev.mirrorPut (d : Dev) (b : List Byte) : Dev :=
  if !d.bit F.STORE_CTRL.MIRROR_EVT ∨ d.get F.STORE_STATUS.STATE ≠ 4 then d
  else
    let s := d.store
    if s.evBlock.length + b.length < 4088 then
      { d with store := { s with evBlock := s.evBlock ++ b, evSince := some (s.evSince.getD d.now) } }
    else
      { d with store := { s with jobs := s.jobs ++ [.block s.evPos d.evBlockBytes], evPos := (s.evPos + 1) % 16384, evBlock := b,
                                 evSince := some d.now } }

/-- A record is written (R293): SEQ rises by one, and it goes to the Sand area, the Clay area and the event region. -/
def Dev.writeRecord (d : Dev) (code : Nat) (payload : List Byte) (supp : Option (Nat × Nat)) : Dev :=
  let b := d.recordOf code payload supp
  let d1 := { d with evt := { d.evt with seq := (d.evt.seq + 1) % 2 ^ 32 } }
  ((d1.sandPut b).clayPut b).mirrorPut b

/-- Tokens, in thousandths, that one millisecond brings, and the most a bucket holds (R295). -/
def Dev.evtRate (d : Dev) : Nat := max 1 (d.get F.EVT_RATE.RATE)
def Dev.evtBurst (d : Dev) : Nat := max 1 (d.get F.EVT_RATE.BURST) * 1000

/-- A bucket as it is now (R295); one that has not been used is full. -/
def Dev.bucketNow (d : Dev) (b : Nat) : Bucket :=
  match Tbl.get? d.evt.buckets b with
  | none => ⟨d.evtBurst, d.now, 0, 0⟩
  | some x =>
    let ms := (d.now - x.since) / msec
    { x with tokens := min d.evtBurst (x.tokens + ms * d.evtRate), since := x.since + ms * msec }

/-- An item that leaves the FIFO is written, or suppressed (R295, R296). -/
def Dev.writeItem (d : Dev) (i : EvtItem) : Dev :=
  match i.bucket with
  | none => d.writeRecord i.code i.payload none
  | some b =>
    let x := d.bucketNow b
    let put (y : Bucket) : Dev := { d with evt := { d.evt with buckets := Tbl.put d.evt.buckets b y } }
    if 1000 ≤ x.tokens then
      let y := { x with tokens := x.tokens - 1000, suppressed := 0 }
      (put y).writeRecord i.code i.payload (if x.suppressed = 0 then none else some (x.suppressed, x.firstMs))
    else
      (put { x with suppressed := x.suppressed + 1, firstMs := if x.suppressed = 0 then d.optime % 2 ^ 32 else x.firstMs }).count
        R.EVT_SUPPRESSED_COUNT 1

/-- EVENT_RECORD_WRITE: the oldest event leaves the staging FIFO; with space again, losses are recorded (R293, R295, R296). In HALT the
cores have stopped (R282), and without a core online nothing keeps the recorder (R17, R322). -/
def eventRecordWrite (d : Dev) : Dev :=
  match d.evt.fifo with
  | [] => d
  | i :: r =>
    if !d.firmwareRuns then d else
    let d1 := ({ d with evt := { d.evt with fifo := r } }).writeItem i
    if d1.evt.lost = 0 then d1
    else
      let d2 := d1.writeRecord 0x003 (packFields [(4, d1.evt.lost), (4, d1.evt.lostMs)]) none
      ({ d2 with evt := { d2.evt with lost := 0, lostMs := 0 } }).sendFault srcEvt 0x01 .c 0x003

/-! ### The Clay area -/

/-- The image of a slot (R298): the record padded with 0xFF to 256 bytes, the CRC-32 over bytes 1 to 255, and 0xFFFF_FFFF. -/
def slotImage (b : List Byte) : List Byte :=
  let r := b.take 256 ++ List.replicate (256 - b.length) 0xFF
  r ++ leBytes 4 (crc32 (r.drop 1)) ++ List.replicate 4 0xFF

/-- A valid slot (R298): MARK is 0xA5 and the CRC matches. -/
def slotValid (b : List Byte) : Bool := decide (leAt b 0 1 = 0xA5) && decide (leAt b 256 4 = crc32 (slice b 1 255))

/-- A spoilt slot (R298): MARK is neither 0xFF nor that of a valid slot. -/
def slotSpoilt (b : List Byte) : Bool := decide (leAt b 0 1 ≠ 0xFF) && !slotValid b

/-- The record of a slot. -/
def clayRecord (b : List Byte) : List Byte := b.take (8 * leAt b 1 1)

/-- A spoilt slot as near to some bytes as can be: those bytes where they are spoilt, else with a MARK of 0. -/
def spoiltImage (b : List Byte) : List Byte := if slotSpoilt b then b else 0 :: b.drop 1

/-- A slot whose programming did not come to its end is spoilt (R298, R314); what else it holds is open (DESIGN CHOICE, log 2). -/
def Dev.slotBroken (d : Dev) (n : Nat) : Dev :=
  { d.fresh with evt := { d.evt with clay := Tbl.put d.evt.clay n (spoiltImage (leBytes 264 (d.freeVal 2112))) } }

/-- The record slots as firmware finds them at boot (R298): the next record goes behind the last one that is not erased, and the spoilt ones are counted. -/
def Dev.clayScan (d : Dev) : Dev :=
  let l := d.evt.clay.filter fun p => decide (p.1 < 1024)
  let used := (l.getLast?.map (·.1 + 1)).getD 0
  ((d.set F.EVT_STATUS.CLAY_USED used).set F.EVT_STATUS.CLAY_FULL (b2n (decide (used = 1024)))).set F.EVT_STATUS.CLAY_SPOILT
    (min 255 (l.filter fun p => slotSpoilt p.2).length)

/-- A flash operation of the recorder fails (R298). -/
def Dev.flashFail (d : Dev) (code : Nat) : Dev := (d.raise F.EVT_EVENT.FLASH_FAIL).sendFault srcEvt 0x03 .c code

/-- One more record slot is used; the last one fills the area (R298). -/
def Dev.clayUse (d : Dev) (code : Nat) : Dev :=
  let n := d.get F.EVT_STATUS.CLAY_USED + 1
  let d1 := d.set F.EVT_STATUS.CLAY_USED n
  if n = 1024 then ((d1.set F.EVT_STATUS.CLAY_FULL 1).raise F.EVT_EVENT.CLAY_FULL).sendFault srcEvt 0x02 .c code else d1

/-- The first erased halt slot (R298). -/
def Dev.haltSlot (d : Dev) : Option Nat := ((List.range 16).map (1024 + ·)).find? fun s => (Tbl.get? d.evt.clay s).isNone

/-- CLAY_PROGRAM: the slot of the oldest waiting record is programmed, or is spoilt; its record is then not tried again (R298, DEDUCED, log 46). A
record of HALT goes to a halt slot. -/
def clayProgram (ok : Bool) (d : Dev) : Dev :=
  match d.evt.haltQueue, d.evt.clayQueue with
  | b :: r, _ =>
    if !d.coresRun then d else
    let d1 := { d with evt := { d.evt with haltQueue := r } }
    match d.haltSlot with
    | some s =>
      let d2 := d1.flashClaySlot s (slotImage b)
      if ok then { d2 with evt := { d2.evt with clay := Tbl.put d2.evt.clay s (slotImage b) } } else (d2.slotBroken s).flashFail (recCode b)
    | none => d1
  | [], b :: r =>
    if !d.firmwareRuns then d else
    let n := d.get F.EVT_STATUS.CLAY_USED
    let d1 := { d with evt := { d.evt with clayQueue := r } }.flashClaySlot n (slotImage b)
    if ok then { d1 with evt := { d1.evt with clay := Tbl.put d1.evt.clay n (slotImage b) } }.clayUse (recCode b)
    else
      let d2 := d1.slotBroken n
      ((d2.set F.EVT_STATUS.CLAY_SPOILT (min 255 (d2.get F.EVT_STATUS.CLAY_SPOILT + 1))).flashFail (recCode b)).clayUse (recCode b)
  | [], [] => d

/-- A Clay clear begins (R299), asked for by a requester of Table 11-1. -/
def Dev.clayClear (d : Dev) (req : Nat) : Dev :=
  if d.evt.clearing.isSome then d
  else
    ({ d with evt := { d.evt with clearing := some req, clearUsed := d.get F.EVT_STATUS.CLAY_USED, clayQueue := [] } }).set F.EVT_STATUS.CLEARING 1

/-- CLAY_CLEAR_DONE: the sectors are erased, and CLAY_CLEARED is the first record after the clear (R299). A clear whose erase fails has not taken
place. (DEDUCED, log 93) -/
def clayClearDone (ok : Bool) (d : Dev) : Dev :=
  match d.evt.clearing with
  | none => d
  | some req =>
    let d1 := ({ d with evt := { d.evt with clearing := none } }).set F.EVT_STATUS.CLEARING 0
    if !ok then d1.flashFail 0x004
    else
      let d2 := { d1 with evt := { d1.evt with clay := [], clayQueue := [] } }.flashClayErase
      let d3 := ((d2.set F.EVT_STATUS.CLAY_USED 0).set F.EVT_STATUS.CLAY_FULL 0).set F.EVT_STATUS.CLAY_SPOILT 0
      d3.writeRecord 0x004 (packFields [(2, d.evt.clearUsed), (1, req)]) none

/-- The record of a class F fault at HALT (R282, R298). -/
def Dev.haltRecord (d : Dev) (m : FaultMsg) : Dev :=
  let b := d.recordOf 0x010 (packFields [(8, m.code)]) none
  { d with evt := { d.evt with haltQueue := [b], seq := (d.evt.seq + 1) % 2 ^ 32 } }

/-! ### Operating time (R301) -/

/-- A checkpoint entry of 32 bytes. -/
def Dev.ckptEntry (d : Dev) (gen : Nat) : List Byte :=
  let b := leBytes 4 0x544F5554 ++ leBytes 4 1 ++ leBytes 4 gen ++ leBytes 4 d.evt.pcc ++ leBytes 8 d.optime
  b ++ leBytes 4 (crc32 b) ++ [0x5A, 0xFF, 0xFF, 0xFF]

/-- GEN, PCC and OPTIME of an entry. -/
def ckptGen (b : List Byte) : Nat := leAt b 8 4
def ckptPcc (b : List Byte) : Nat := leAt b 12 4
def ckptOpt (b : List Byte) : Nat := leAt b 16 8

/-- The newest entry of a sector, and of both: its sector and the entry. -/
def Dev.ckptLast (d : Dev) (s : Nat) : Option (List Byte) := (Tbl.getD d.evt.ckpt s []).getLast?
def Dev.ckptNewest (d : Dev) : Option (Nat × List Byte) :=
  match d.ckptLast 0, d.ckptLast 1 with
  | none, none => none
  | some a, none => some (0, a)
  | none, some b => some (1, b)
  | some a, some b => if ckptGen a < ckptGen b then some (1, b) else some (0, a)

/-- EVT_CKPT_STATUS. -/
def Dev.ckptShow (d : Dev) (failed : Bool) : Dev :=
  let d := d.set F.EVT_CKPT_STATUS.A_VALID (b2n (d.ckptLast 0).isSome)
  let d := d.set F.EVT_CKPT_STATUS.B_VALID (b2n (d.ckptLast 1).isSome)
  let d := d.set F.EVT_CKPT_STATUS.NEWEST ((d.ckptNewest.map (·.1)).getD 0)
  d.set F.EVT_CKPT_STATUS.LAST_FAILED (b2n failed)

/-- An entry is programmed at its place of a sector, MARK last. -/
def Dev.flashCkptEntry (d : Dev) (s i : Nat) (e : List Byte) : Dev :=
  (d.flashProgram (flashCkpt s + 32 * i) (e.take 28)).flashProgram (flashCkpt s + 32 * i + 28) ((e.drop 28).take 1)

/-- A checkpoint is written, or its write fails (R298, R301). -/
def Dev.ckptWrite (d : Dev) (ok : Bool) : Dev :=
  let newest := d.ckptNewest
  let gen := (newest.map fun x => ckptGen x.2 + 1).getD 1
  let s := (newest.map (·.1)).getD 0
  let d1 := { d with evt := { d.evt with lastCkpt := d.optime } }
  if ok then
    let l := Tbl.getD d.evt.ckpt s []
    let t := if l.length < 128 then Tbl.put d.evt.ckpt s (l ++ [d.ckptEntry gen]) else Tbl.put d.evt.ckpt (1 - s) [d.ckptEntry gen]
    let d2 := if l.length < 128 then d1.flashCkptEntry s l.length (d.ckptEntry gen) else (d1.flashErase (flashCkpt (1 - s))).flashCkptEntry (1 - s) 0 (d.ckptEntry gen)
    ({ d2 with evt := { d2.evt with ckpt := t } }).ckptShow false
  else (d1.ckptShow true).flashFail 0

/-- CHECKPOINT: every 600,000 ms of OPTIME (R301), by the firmware (Table 14-1). -/
def checkpoint (ok : Bool) (d : Dev) : Dev :=
  if !d.firmwareRuns then d else (d.till (d.evt.optAt + (d.evt.lastCkpt + 600000 - d.evt.optBase) * msec)).ckptWrite ok

/-- PCC and OPTIME at a boot (R301): `warm` counts on. -/
def Dev.ckptBoot (d : Dev) (warm : Bool) : Dev :=
  let r : Nat × Nat :=
    if warm then (d.evt.pcc + 1, d.optime)
    else match d.ckptNewest with
      | some x => (ckptPcc x.2 + 1, ckptOpt x.2 + 600000)
      | none => (1, 0)
  ({ d with evt := { d.evt with pcc := min (2 ^ 20 - 1) r.1, optBase := r.2 % 2 ^ 44, optAt := d.now } }).ckptWrite true

/-! ### The event region -/

/-- EVENT_BLOCK_TIMER: 100 ms after its first record a block is written, and goes on filling (R310). -/
def eventBlockTimer (d : Dev) : Dev :=
  match d.store.evSince with
  | some t =>
    let d1 := d.till (t + 100 * msec)
    { d1 with store := { d1.store with jobs := d1.store.jobs ++ [.block d1.store.evPos d1.evBlockBytes], evSince := none } }
  | none => d

/-! ### EVT_READ (R300) -/

/-- Whole records as far as they fit into `max` bytes: the bytes, and the last one copied. -/
def takeRecords (max : Nat) (l : List (Nat × List Byte)) : List Byte × Option Nat :=
  let step (acc : List Byte × Option Nat × Bool) (r : Nat × List Byte) : List Byte × Option Nat × Bool :=
    if acc.2.2 ∨ max < acc.1.length + r.2.length then (acc.1, acc.2.1, true) else (acc.1 ++ r.2, some r.1, false)
  let x := l.foldl step ([], none, false)
  (x.1, x.2.1)

/-- What a copy of AREA 0 brings: bytes and DETAIL. -/
def Dev.readSand (d : Dev) (first max : Nat) : List Byte × Nat :=
  let head := (d.word R.EVT_HEAD_SEQ).toNat
  let tail := (d.word R.EVT_TAIL_SEQ).toNat
  let old (s a : Nat) : Bool := decide (2 ^ 31 ≤ (s + 2 ^ 32 - a) % 2 ^ 32)
  let start := if old first tail then tail else first
  let l := if d.bit F.EVT_STATUS.SAND_OFF then [] else (d.evt.sand.map fun r => (recSeq r.2, r.2)).filter fun r => !old r.1 start
  let x := takeRecords max l
  (x.1, (x.2.map fun s => (s + 1) % 2 ^ 32).getD start + head * 2 ^ 32)

/-- What a copy of AREA 1 brings: the valid slots from `first`. -/
def Dev.readClay (d : Dev) (first max : Nat) : List Byte × Nat :=
  let x := takeRecords max ((d.evt.clay.filter fun r => decide (first ≤ r.1) && slotValid r.2).map fun r => (r.1, clayRecord r.2))
  (x.1, (x.2.map (· + 1)).getD first + d.get F.EVT_STATUS.CLAY_USED * 2 ^ 32)

/-- What a copy of the event region brings: blocks from `first` up to the one being filled (DEDUCED, log 48). -/
def Dev.readRegion (d : Dev) (first max : Nat) : List Byte × Nat :=
  let pos := d.store.evPos
  let span := (pos + 16384 - first % 16384) % 16384
  let l := (List.range span).filterMap fun i =>
    let o := (first + i) % 16384
    (Tbl.get? d.store.blocks o).map fun b => (o, b)
  let x := takeRecords max (if d.get F.STORE_STATUS.STATE = 4 then l else [])
  (x.1, (x.2.map fun o => (o + 1) % 16384).getD (first % 16384) + pos * 2 ^ 32)

/-- EVT_READ (R300). -/
def evtReadSpec : CmdSpec where
  opcode := 0x0800
  flagMask := 1
  params := [pu 8 64, pu 4 32, pu 4 32, pu 1 8]
  hostAddr := some 0
  checks := fun c _ => [(.range, decide (1 < c.p 3) || (decide (c.p 3 = 1) && decide (1039 < c.p 1)))]
  run := fun c _ d =>
    if c.p 3 = 0 ∧ !c.flag 0 then
      let x := d.readSand (c.p 1) (c.p 2)
      ({ d with evt := { d.evt with sandBytes := 0, threshHit := false } }).toHost c (c.p 0) x.1 (.ok x.1.length x.2)
    else
      let x := if c.p 3 = 1 then d.readClay (c.p 1) (c.p 2) else d.readRegion (c.p 1) (c.p 2)
      d.toHost c (c.p 0) x.1 (.ok x.1.length x.2)

def evtRead (src : Source) (dmaOk : Bool) (d : Dev) : Dev := d.command evtReadSpec src (dmaOf dmaOk)

end Sys2Proof.Machine
end

