-- ==== Sys2Proof/Machine/Store.lean ====
section
/-! DEFINITION. The timing trace and the record store (R302 to R318): streams, staging, segments, preserved windows, the store's states and its
NVMe commands, and the commands of Table 13-8. -/

namespace Sys2Proof.Machine

/-- The source STORE. -/
def srcStore : Nat := 0x051

/-! ### States and layout -/

/-- STORE_STATUS.STATE. -/
def Dev.storeState (d : Dev) : Nat := d.get F.STORE_STATUS.STATE

/-- The live bit of STORE (R280): a gap is in progress, the controller is in error, or the link is lost. -/
def Dev.storeLive (d : Dev) : Dev :=
  d.setLive srcStore ((d.store.streams.any fun p => p.2.gapAt.isSome) || decide (d.storeState = 5) || d.store.lostAt.isSome)

/-- The store changes state (R307). NVME_STATUS is 0: no state change of the spec carries one. (DEDUCED, log 88) -/
def Dev.storeTo (d : Dev) (st : Nat) : Dev :=
  let old := d.storeState
  if old = st then d
  else (((d.set F.STORE_STATUS.STATE st).raise F.STORE_EVENT.STATE_CHANGE).eventLimited 0x0A0 [(1, old), (1, st), (2, 0)]).storeLive

/-- FMT_ID in force. -/
def Dev.fmtId (d : Dev) : Nat := (d.store.sb.map (·.2.fmt)).getD 0

/-- GEN of the superblock in force, 0 where there is none; and the slot that the next update writes. -/
def Dev.sbGen (d : Dev) : Nat := match d.store.sb with
  | some z => z.2.gen
  | none => 0
def Dev.sbNext (d : Dev) : Nat := match d.store.sb with
  | some z => 1 - z.1
  | none => 0

/-- A number of LBAs rounded up to a multiple of 512 (R308). -/
def up512 (n : Nat) : Nat := (n + 511) / 512 * 512

/-- INDEX_LBAS, EVT_LBA, DATA_LBA and SEG_COUNT of a store (R308): the index has room for as many segments as the whole store would make, as in the worked
example of Line 7 (DEDUCED, log 174). -/
def indexLbas (lbas : Nat) : Nat := (lbas / 512 * 16 + 4095) / 4096
def evtLba (lbas : Nat) : Nat := 512 + up512 (indexLbas lbas)
def dataLba (lbas : Nat) : Nat := evtLba lbas + 16384
def segCountOf (lbas : Nat) : Nat := (lbas - dataLba lbas) / 512

/-- SEG_COUNT of the format in force. -/
def Dev.trSegCount (d : Dev) : Nat := (d.store.sb.map fun x => segCountOf x.2.lbas).getD 0

/-- The first LBA of a segment. -/
def Dev.segLba (d : Dev) (slot : Nat) : Nat := (d.store.sb.map fun x => dataLba x.2.lbas).getD 0 + 512 * slot

/-- The 32 bytes of a window (Table 13-4). -/
def Window.image (w : Window) : List Byte :=
  leBytes 1 w.stream ++ leBytes 1 (b2n w.inUse + 2 * b2n w.isDone) ++ leBytes 6 0 ++ leBytes 8 w.first ++ leBytes 8 w.last ++ leBytes 8 w.kt

/-- The window that 32 bytes hold; the source of its trigger is not among them. -/
def windowOf (b : List Byte) (source : Nat) : Window :=
  ⟨(leAt b 1 1).testBit 0, (leAt b 1 1).testBit 1, leAt b 0 1, leAt b 8 8, leAt b 16 8, leAt b 24 8, source⟩

/-- The bytes of a superblock up to its MARK (Table 13-4). -/
def Superblock.bytes (x : Superblock) : List Byte :=
  let n := x.lbas
  let b := leBytes 4 0x42535554 ++ leBytes 4 1 ++ leBytes 8 x.gen ++ leBytes 8 x.fmt ++ leBytes 8 n ++ leBytes 8 512 ++ leBytes 8 (evtLba n) ++
    leBytes 8 (dataLba n) ++ leBytes 4 (segCountOf n) ++ leBytes 4 (indexLbas n) ++ leBytes 4 16384 ++ leBytes 4 512 ++ leBytes 2 x.lineId ++
    leBytes 1 x.device ++ List.replicate 181 0 ++ x.windows.flatMap Window.image
  b ++ leBytes 4 (crc32 b) ++ [0x5A]

/-- A valid superblock (R308): MAGIC, FORMAT, CRC and MARK are correct. -/
def superblockValid (b : List Byte) : Bool :=
  decide (leAt b 0 4 = 0x42535554) && decide (leAt b 4 4 = 1) && decide (leAt b 0x300 4 = crc32 (slice b 0 0x300)) && decide (leAt b 0x304 1 = 0x5A)

/-- What a valid superblock says; `sources` gives the source of each window's trigger, a byte each, which the superblock does not hold. -/
def superblockOf (b : List Byte) (sources : Nat) : Option Superblock :=
  if superblockValid b then
    some ⟨leAt b 8 8, leAt b 0x10 8, leAt b 0x18 8, leAt b 0x48 2, leAt b 0x4A 1,
      (List.range 16).map fun i => windowOf (slice b (0x100 + 32 * i) 32) (bitsOf sources (8 * i) 8)⟩
  else none

/-- The governing superblock on the SSD (R308): the valid one with the higher GEN, with its slot. -/
def Dev.superblock (d : Dev) (sources : Nat) : Option (Nat × Superblock) :=
  match (Tbl.get? d.store.sbs 0).bind (superblockOf · sources), (Tbl.get? d.store.sbs 1).bind (superblockOf · sources) with
  | none, none => none
  | some a, none => some (0, a)
  | none, some b => some (1, b)
  | some a, some b => if a.gen < b.gen then some (1, b) else some (0, a)

/-- The sources of the windows in force, a byte each. -/
def Dev.windowSources (d : Dev) : Nat := leNat (d.store.windows.map fun w => BitVec.ofNat 8 w.source)

/-- The superblock on the SSD that now governs is the one in force. -/
def Dev.sbAdopt (d : Dev) (sources : Nat) : Dev := { d with store := { d.store with sb := d.superblock sources } }

/-! ### Segments on the SSD (R309) -/

/-- A segment's data. -/
def TraceSeg.data (s : TraceSeg) : List Byte := s.ticks.flatMap (·.2)

/-- A segment's header up to its MARK (Table 13-5). -/
def TraceSeg.header (s : TraceSeg) : List Byte :=
  let b := leBytes 4 0x47535554 ++ leBytes 4 1 ++ leBytes 8 s.fmt ++ leBytes 8 s.seq ++ leBytes 8 s.first ++ leBytes 8 (secOf s.bound) ++
    leBytes 4 (nsOf s.bound) ++ leBytes 2 (fracOf s.bound) ++ leBytes 2 s.den ++ leBytes 8 s.num ++ leBytes 4 s.ticks.length ++
    leBytes 4 s.data.length ++ leBytes 4 s.lost ++ leBytes 2 (b2n s.gapBefore + 2 * b2n s.isPart + 4 * b2n s.halted) ++ leBytes 2 s.decim ++
    leBytes 2 s.folFirst ++ leBytes 2 s.folCount ++ leBytes 1 s.stream ++ leBytes 1 s.mode ++ leBytes 2 0 ++ leBytes 4 (crc32 s.data)
  b ++ leBytes 4 (crc32 b) ++ [0x5A]

/-- A valid segment of a format (R309). -/
def SegImage.valid (x : SegImage) (fmt : Nat) : Bool :=
  let h := x.header
  decide (leAt h 0 4 = 0x47535554) && decide (leAt h 4 4 = 1) && decide (leAt h 84 4 = crc32 (slice h 0 84)) && decide (leAt h 8 8 = fmt) &&
    decide (leAt h 88 1 = 0x5A)

/-- `n` ticks of `size` bytes each, `step` apart (R304). -/
def cutTicks (step size : Nat) : Nat → Nat → List Byte → List (Nat × List Byte)
  | 0, _, _ => []
  | n + 1, k, b => (k, b.take size) :: cutTicks step size n (k + step) (b.drop size)

/-- `n` ticks of error-only mode, each behind its marker, from tick `first` on (R304). -/
def cutMarked (first : Nat) : Nat → List Byte → List (Nat × List Byte)
  | 0, _ => []
  | n + 1, b =>
    let size := 8 + 8 * leAt b 6 2
    (first + (leAt b 0 4 + 2 ^ 32 - first % 2 ^ 32) % 2 ^ 32, b.take size) :: cutMarked first n (b.drop size)

/-- The segment that an image holds at a slot: CORRUPT where DATA_CRC does not match its data (R309, R316). -/
def SegImage.seg (x : SegImage) (slot : Nat) : TraceSeg :=
  let h := x.header
  let first := leAt h 24 8
  let mode := leAt h 77 1
  let count := leAt h 74 2
  let body := x.data.take (leAt h 60 4)
  let ticks := if mode = 2 then cutMarked first (leAt h 56 4) body
    else cutTicks (if mode = 1 then leAt h 70 2 else 1) (8 * count) (leAt h 56 4) first body
  let fl := leAt h 68 2
  ⟨slot, leAt h 8 8, leAt h 16 8, first, timeOf (leAt h 32 8) (leAt h 40 4) (leAt h 44 2), leAt h 48 8, leAt h 46 2, ticks, leAt h 64 4, fl.testBit 0,
    fl.testBit 1, fl.testBit 2, leAt h 70 2, leAt h 72 2, count, leAt h 76 1, mode, true, 0, true, decide (leAt h 80 4 ≠ crc32 body)⟩

/-- A segment put in its place in a list in order of SEG_SEQ. -/
def insertSeg (s : TraceSeg) : List TraceSeg → List TraceSeg
  | [] => [s]
  | x :: r => if s.seq ≤ x.seq then s :: x :: r else x :: insertSeg s r

/-- Valid segments of the format in force, oldest first (R309). -/
def Dev.validSegs (d : Dev) : List TraceSeg :=
  match d.store.sb with
  | none => []
  | some z => ((d.store.segs.filter fun p => p.2.valid z.2.fmt).map fun p => p.2.seg p.1).foldr insertSeg []

/-- The last tick of a segment. -/
def TraceSeg.lastTick (s : TraceSeg) : Nat := (s.ticks.getLast?.map (·.1)).getD s.first

/-- Bytes of a segment's data. -/
def TraceSeg.bytes (s : TraceSeg) : Nat := s.data.length

/-- A segment holds a tick of a window of its stream (R305). -/
def Window.holds (w : Window) (s : TraceSeg) : Bool :=
  w.inUse && decide (w.stream = s.stream) && decide (s.first ≤ w.last) && decide (w.first ≤ s.lastTick)

/-- Preserved segments. -/
def Dev.preserved (d : Dev) : List TraceSeg := d.validSegs.filter fun s => d.store.windows.any fun w => w.holds s

/-- Stream `s`. -/
def Dev.streamOf (d : Dev) (s : Nat) : Stream := Tbl.getD d.store.streams s Stream.reset

/-- Stream `s` replaced. -/
def Dev.setStream (d : Dev) (s : Nat) (x : Stream) : Dev := { d with store := { d.store with streams := Tbl.put d.store.streams s x } }

/-- A stream is FREE. -/
def Dev.streamFree (d : Dev) (s : Nat) : Bool := decide ((d.streamOf s).st = .free)

/-- A stream runs or stops. -/
def Dev.anyStream (d : Dev) : Bool := d.store.streams.any fun p => p.2.st.moving

/-- The oldest tick held for stream number `s`, on the SSD or in staging. -/
def Dev.oldestTick (d : Dev) (s : Nat) : Option Nat :=
  (((d.validSegs ++ d.store.flight).filter fun x => decide (x.stream = s) && !x.ticks.isEmpty).map (·.first)).foldl
    (fun m k => some (min k (m.getD k))) none

/-! ### NVMe errors -/

/-- The block address of a message whose failure has none: open (DESIGN CHOICE, log 2). -/
def Dev.noLba (d : Dev) : Nat := d.freeVal 40

/-- An NVMe command fails (R312). -/
def Dev.ioErr (d : Dev) (lba : Nat) : Dev :=
  ((d.count R.STORE_IO_ERR_COUNT 1).raise F.STORE_EVENT.IO_ERR).sendFault srcStore 0x02 .u lba

/-! ### Superblock updates and windows -/

/-- The next superblock, with the windows in force. -/
def Dev.sbImage (d : Dev) (fmt lbas : Nat) : Superblock :=
  ⟨0, fmt, lbas, d.lineId, d.lineDevice, d.store.windows⟩

/-- Commands for the SSD wait behind those that wait already. -/
def Dev.jobsPut (d : Dev) (l : List StoreJob) : Dev := { d with store := { d.store with jobs := d.store.jobs ++ l } }

/-- The flush that ends a superblock update in flush mode (R308). -/
def Dev.sbFlush (d : Dev) (fmt : Bool) : List StoreJob := if d.bit F.STORE_STATUS.FLUSH_MODE then [.flush fmt] else []

/-- A superblock update is begun (R308). -/
def Dev.sbUpdate (d : Dev) : Dev :=
  match d.store.sb with
  | some x => d.jobsPut ([.sb { x.2 with windows := d.store.windows }] ++ d.sbFlush false)
  | none => d

/-- The TRIGGER record (Table 13-2). -/
def Dev.triggerEvent (d : Dev) (s source window kt first last : Nat) : Dev :=
  d.eventFree 0x0A2 [(1, s), (1, source), (1, window), (8, kt), (8, first), (8, last)]

/-- Whether window `w` is complete: what it covers has been written, or its stream has stopped (R305). -/
def Dev.windowOver (d : Dev) (w : Window) : Bool :=
  let x := d.streamOf w.stream
  let waiting := d.store.flight.any fun s => decide (s.stream = w.stream) && decide (0 < s.staged)
  let upTo := if waiting then x.newest else x.last
  !x.st.moving || upTo.any fun k => decide (w.last ≤ k)

/-- Windows that are complete by now (R305). -/
def Dev.windowsDone (d : Dev) : Dev :=
  (List.range 16).foldl (fun d i =>
    match d.store.windows[i]? with
    | none => d
    | some w =>
      if w.inUse && !w.isDone && d.windowOver w then
        let d1 := { d with store := { d.store with windows := d.store.windows.set i { w with isDone := true } } }
        ((d1.raise F.STORE_EVENT.TRIGGER).triggerEvent w.stream w.source i w.kt w.first w.last).sbUpdate
      else d) d

/-- Ticks that a segment of a stream holds at least: in error-only mode every follower may have a record, behind a marker (R304). -/
def Stream.ticksPerSeg (x : Stream) : Nat := max 1 (2093056 / (8 * (x.count + if x.mode = 2 then 1 else 0)))

/-- The segments a window takes: those held, and those still to be written (R305, DEDUCED, log 49). -/
def Dev.windowSegs (d : Dev) (w : Window) : Nat :=
  let held := (d.validSegs.filter fun s => w.holds s && !(d.store.windows.any fun v => v.holds s)).length
  let x := d.streamOf w.stream
  let span := (w.last - w.kt) / (if x.mode = 1 then x.decim else 1) + 1
  held + (span + x.ticksPerSeg - 1) / x.ticksPerSeg

/-- A trigger on a running stream (R305, Table 13-7): whether it formed a window or met one. -/
def Dev.trigger (d : Dev) (s source : Nat) : Dev × Bool :=
  let x := d.streamOf s
  let kt := d.tick.index
  let w : Window := ⟨true, false, s, max (kt - x.pre) ((d.oldestTick s).getD kt), kt + x.post, kt, source⟩
  let ws := d.store.windows
  match (List.range 16).find? fun i => ws[i]?.any fun v => v.inUse && !v.isDone && decide (v.stream = s) && decide (w.first ≤ v.last) with
  | some i =>
    let v := (ws[i]?).getD w
    (({ d with store := { d.store with windows := ws.set i { v with last := max v.last w.last } } }).sbUpdate, true)
  | none =>
    match (List.range 16).find? fun i => ws[i]?.any fun v => !v.inUse with
    | some i =>
      if d.trSegCount < 2 * (d.preserved.length + d.windowSegs w) then
        ((d.count R.STORE_TRIG_DROP_COUNT 1).triggerEvent s source 0xFF kt w.first w.last, false)
      else (({ d with store := { d.store with windows := ws.set i w } }).sbUpdate, true)
    | none => ((d.count R.STORE_TRIG_DROP_COUNT 1).triggerEvent s source 0xFF kt w.first w.last, false)

/-- The running streams. -/
def Dev.runningStreams (d : Dev) : List Nat := d.store.streams.keys.filter fun s => decide ((d.streamOf s).st = .running)

/-- An automatic trigger (R305), by its code in `Dev.trigs`. -/
def Dev.autoTrigger (d : Dev) (code : Nat) : Dev :=
  if 65536 ≤ code then
    if d.bit F.STORE_TRIG_CTRL.TRIP then
      let f := code - 65536
      (d.runningStreams.filter fun s => decide ((d.streamOf s).first ≤ f) && decide (f < (d.streamOf s).first + (d.streamOf s).count)).foldl
        (fun d s => (d.trigger s 1).1) d
    else d
  else if (code = 2 ∧ d.bit F.STORE_TRIG_CTRL.FAULT_U) ∨ (code = 3 ∧ d.bit F.STORE_TRIG_CTRL.DEADLINE) then
    d.runningStreams.foldl (fun d s => (d.trigger s code).1) d
  else d

/-- The automatic triggers of a row. -/
def Dev.runTriggers (d : Dev) : Dev :=
  d.trigs.foldl Dev.autoTrigger { d with trigs := [] }

/-! ### Staging -/

/-- Bytes of staging in use, and its size (R311). -/
def Dev.stageUsed (d : Dev) : Nat := d.store.flight.foldl (fun n s => n + s.staged) 0
def Dev.stageSize (d : Dev) : Nat :=
  if d.bit F.EVT_STATUS.SAND_OFF then 4 * 2 ^ 20 else if d.bit F.STORE_STATUS.STAGE_HALVED then 3584 * 1024 else 8 * 2 ^ 20

/-- STAGE_USED in KiB, rounded up, and its highest value. -/
def Dev.stageShow (d : Dev) : Dev :=
  let k := (d.stageUsed + 1023) / 1024
  (d.setWord R.STORE_STAGE_USED (BitVec.ofNat 32 k)).setWord R.STORE_STAGE_MAX (BitVec.ofNat 32 (max k (d.word R.STORE_STAGE_MAX).toNat))

/-- A segment in flight replaced, by its place in the ring. -/
def Dev.setFlight (d : Dev) (s : TraceSeg) : Dev :=
  { d with store := { d.store with flight := d.store.flight.map fun x => if x.slot = s.slot then s else x } }

/-- The open segment of a stream. -/
def Dev.openSeg (d : Dev) (s : Nat) : Option TraceSeg := d.store.flight.find? fun x => decide (x.stream = s) && !x.closed

/-- The open segment of a stream is closed (R309). -/
def Dev.closeSeg (d : Dev) (s : Nat) (isPart halted : Bool) : Dev :=
  match d.openSeg s with
  | some x => d.setFlight { x with closed := true, isPart := isPart, halted := halted }
  | none => d

/-- Every open segment is closed: at a step, a period or epoch change, at HALT, and as the store is turned off (R307, R309, R313). -/
def Dev.closeAll (d : Dev) (halted : Bool) : Dev :=
  d.store.streams.keys.foldl (fun d s => d.closeSeg s true halted) d

/-- Segments that a STORE_READ copies. -/
def Dev.readSlots (d : Dev) : List Nat :=
  d.store.jobs.flatMap fun j => match j with
    | .read r => r.slots
    | _ => []

/-- The next segment the write head takes: it skips preserved segments and those being read (R305, Table 13-7). -/
def Dev.nextSlot (d : Dev) : Option Nat :=
  let n := d.trSegCount
  let keep := d.preserved.map (·.slot) ++ d.readSlots ++ d.store.flight.map (·.slot)
  ((List.range (keep.length + 1)).map fun i => (d.store.head + i) % n).find? fun s => decide (s < n) && !keep.contains s

/-- A segment is begun for stream `s` at tick `k` (R309). -/
def Dev.beginSeg (d : Dev) (s k : Nat) : Dev × Option TraceSeg :=
  let x := d.streamOf s
  match d.nextSlot with
  | none => (d, none)
  | some slot =>
    let g : TraceSeg := ⟨slot, d.fmtId, d.store.segSeq, k, d.tick.bound, d.tick.num, d.tick.den, [], x.lost, x.gapAt.isSome, false, false,
      x.decim, x.first, x.count, s, x.mode, false, 0, false, false⟩
    ({ d with store := { d.store with flight := d.store.flight ++ [g], head := (slot + 1) % max 1 d.trSegCount, segSeq := d.store.segSeq + 1 } }, some g)

/-- A tick of stream `s` is lost (R311): a gap begins, or goes on. -/
def Dev.loseTick (d : Dev) (s k : Nat) : Dev :=
  let x := d.streamOf s
  let d1 := d.count R.STORE_GAP_COUNT 1
  match x.gapAt with
  | some _ => d1.setStream s { x with lost := x.lost + 1 }
  | none =>
    let d2 := (d1.closeSeg s true false).setStream s { x with gapAt := some k, lost := 1 }
    (((d2.count (R.STORE_STREAM_GAPS s) 1).raise F.STORE_EVENT.GAP).sendFault srcStore 0x01 .c (d.segLba d.store.head)).storeLive

/-- A gap of stream `s` is over: its record is written (R311). -/
def Dev.endGap (d : Dev) (s : Nat) : Dev :=
  let x := d.streamOf s
  match x.gapAt with
  | some k => ((d.setStream s { x with gapAt := none, lost := 0 }).eventLimited 0x0A1 [(1, s), (8, k), (4, x.lost)]).storeLive
  | none => d

/-- `n` bytes of trace are written to the staging memory, banks B and C (R311): to the one in service, or to either, which the spec does not say where
both are (DESIGN CHOICE, log 14). -/
def Dev.stageWrite (d : Dev) (n : Nat) : Dev :=
  let out := d.flt.banksOut
  let words := (n + 7) / 8
  if out.getLsbD 2 then d.sramWrite 1 words
  else if out.getLsbD 1 then d.sramWrite 2 words
  else if d.flt.cbTarget = 1 ∨ d.flt.cbTarget = 2 then d.fresh.sramWrite d.flt.cbTarget (d.freeTo words)
  else d

/-- The trace of one tick of stream `s` enters staging, or is lost (R309, R311). -/
def Dev.stageTick (d : Dev) (s k : Nat) (b : List Byte) : Dev :=
  if d.stageSize < d.stageUsed + b.length then d.loseTick s k
  else
    let full := (d.openSeg s).any fun g => decide (2093056 < g.bytes + b.length)
    let d1 := if full then d.closeSeg s false false else d
    let r := match d1.openSeg s with
      | some g => (d1, some g)
      | none => d1.beginSeg s k
    match r.2 with
    | none => r.1.loseTick s k
    | some g =>
      (((r.1.setFlight { g with ticks := g.ticks ++ [(k, b)], staged := g.staged + b.length }).endGap s).stageWrite b.length).stageShow

/-- The trace record of follower `f` (R303, Table 13-3); `trunc` are the followers held under R134. -/
def Dev.traceFlags (d : Dev) (f : Nat) (trunc : List Nat) : Nat :=
  let x := d.folOf f
  let was (i : Nat) : Nat := x.marks.getD i 0
  b2n x.present + 2 * b2n (decide (was 2 ≠ x.pubMiss)) + 4 * b2n x.held + 8 * b2n (decide (was 0 ≠ x.trips)) +
    16 * b2n (decide (was 1 ≠ x.slips)) + 32 * b2n x.portDown + 64 * b2n (decide (was 3 ≠ x.fbStale)) + 128 * b2n (trunc.contains f)

/-- The 8 bytes of a trace record; the number takes the place of SP_LOW in error-only mode. -/
def Dev.traceRecord (d : Dev) (f : Nat) (errOnly : Bool) (trunc : List Nat) : List Byte :=
  let x := d.folOf f
  let w (i : Nat) : Nat := (x.win.getD i 0).toNat
  leBytes 4 (if x.evald then w 6 else 0) ++ leBytes 2 (if errOnly then f else w 2 / 65536) ++ leBytes 1 (x.lock % 8 + x.st.code % 8 * 8) ++
    leBytes 1 (d.traceFlags f trunc)

/-- Whether a follower has a record in error-only mode (R304). -/
def Dev.traceError (d : Dev) (f : Nat) (trunc : List Nat) : Bool :=
  let x := d.folOf f
  let fl := d.traceFlags f trunc
  decide (4 ≤ x.lock) || fl.testBit 1 || fl.testBit 3 || fl.testBit 4

/-- What stream `s` writes for tick `k`: nothing where the mode leaves the tick out (R304). -/
def Dev.traceBytes (d : Dev) (s k : Nat) (trunc : List Nat) : List Byte :=
  let x := d.streamOf s
  let fs := (List.range x.count).map (x.first + ·)
  if x.mode = 2 then
    let bad := fs.filter fun f => d.traceError f trunc
    if bad = [] then []
    else leBytes 4 k ++ leBytes 2 0xFFFF ++ leBytes 2 bad.length ++ bad.flatMap fun f => d.traceRecord f true trunc
  else if x.mode = 1 ∧ k % x.decim ≠ 0 then []
  else fs.flatMap fun f => d.traceRecord f false trunc

/-- The trace of the tick enters staging at the end of its computation (R303). -/
def Dev.traceTick (d : Dev) (trunc : List Nat) : Dev :=
  let k := d.tick.index
  let d1 := d.runningStreams.foldl (fun d s =>
    let b := d.traceBytes s k trunc
    let d1 := if b = [] then d else d.stageTick s k b
    d1.setStream s { d1.streamOf s with last := some k }) d
  let d2 := { d1 with fo := { d1.fo with fols := d1.fo.fols.each fun _ x => { x with marks := [x.trips, x.slips, x.pubMiss, x.fbStale] } } }
  d2.windowsDone

/-! ### Streams at boundaries -/

/-- An armed STREAM_START at boundary `k` (R302). -/
def Dev.streamStartAt (d : Dev) (k s : Nat) : Dev :=
  let x := d.streamOf s
  match x.start? with
  | some z =>
    if z.1 ≠ k then d
    else (d.setStream s { x with st := .running, start? := none, last := none, gapAt := none, lost := 0 }).finishCid z.2 .ok 0 k
  | none => d

/-- LBA `g` of the index (R310): 256 entries of 16 bytes, zeros for a segment that has none. -/
def Dev.indexLba (d : Dev) (g : Nat) : List Byte :=
  (List.range 256).flatMap fun i => Tbl.getD d.store.index (256 * g + i) (List.replicate 16 0)

/-- The LBAs of the index to be written (R310): those whose entries have changed since they were written, at a stream stop all of them, else those whose
entries are complete, which the write head and every segment in flight have left. (DEDUCED, log 176) -/
def Dev.indexDue (d : Dev) (all : Bool) : List StoreJob :=
  let s := d.store
  (((s.index.keys ++ s.flight.map (·.slot)).map (· / 256)).eraseDups.filter fun g =>
    decide (Tbl.getD s.indexW g [] ≠ d.indexLba g) && !s.jobs.contains (.index g) &&
      (all || (decide (s.head / 256 ≠ g) && !(s.flight.any fun x => decide (x.slot / 256 = g))))).map StoreJob.index

/-- A stopping stream whose last segment is closed is STOPPED (R302); the index is written (R310). -/
def Dev.streamEnd (d : Dev) (s : Nat) : Dev :=
  let x := d.streamOf s
  if x.st = .stopping ∧ !(d.store.flight.any fun g => decide (g.stream = s)) then
    let d1 := d.setStream s { x with st := .stopped, stop? := none }
    ((d1.jobsPut (d1.indexDue true)).finishWait (.streamStop s) .ok 0 (x.stop?.getD 0)).windowsDone
  else d

/-- An armed STREAM_STOP at boundary `k` (R302): the segment in progress is closed. -/
def Dev.streamStopAt (d : Dev) (k s : Nat) : Dev :=
  let x := d.streamOf s
  if x.st = .running ∧ x.stop? = some k then
    let d1 := ((d.closeSeg s true false).endGap s)
    (d1.setStream s { d1.streamOf s with st := .stopping }).streamEnd s
  else d

/-! ### Bring-up (R307) -/

/-- STO_PERST_N takes a level. -/
def Dev.perstTo (d : Dev) (high : Bool) : Dev :=
  if d.store.perstHigh = high then d else ({ d with store := { d.store with perstHigh := high } }).emit (.perst high)

/-- STORE_CTRL.EN = 1. -/
def Dev.storeEnable (d : Dev) : Dev :=
  if d.storeState = 0 then ({ d with store := { d.store with perstAt := some d.now } }).storeTo 1 else d

/-- The jobs that a stop of the store or a reset leaves: superblock updates, event blocks and the index. -/
def StoreJob.stays : StoreJob → Bool
  | .sb _ => true
  | .fmt _ => false
  | .flush whole => !whole
  | .block _ _ => true
  | .index _ => true
  | .dealloc _ => false
  | .erase => false
  | .read _ => false

/-- Formats, erases and reads are dropped. -/
def Dev.dropJobs (d : Dev) : Dev := { d with store := { d.store with jobs := d.store.jobs.filter StoreJob.stays } }

/-- No read is served any more (R313). -/
def Dev.dropReads (d : Dev) : Dev :=
  { d with store := { d.store with jobs := d.store.jobs.filter fun j => match j with
      | .read _ => false
      | _ => true } }

/-- Commands that wait for the store end with INTERNAL; `specific` tells that a message of STORE has been sent for it (R241). -/
def Dev.endJobs (d : Dev) (specific : Bool) : Dev := d.dropJobs.finishWaitAs .store .internal 0 0 specific

/-- STORE_CTRL.EN = 0: open segments are closed and the link stops. STO_PERST_N goes low with it (DESIGN CHOICE, log 175). -/
def Dev.storeDisable (d : Dev) : Dev :=
  if d.storeState = 0 then d
  else
    let d1 := (d.closeAll false).endJobs false
    let d2 := { d1 with store := { d1.store with perstAt := none, training := false, lbas := 0, lostAt := none, sb := none } }
    (((d2.set F.STORE_STATUS.LINK_UP 0).set F.STORE_STATUS.FLUSH_MODE 0).perstTo false).storeTo 0

/-- STO_PERST_N: driven high 100 ms after STO_REFCLK runs, and training starts. -/
def stoPerstN (d : Dev) : Dev :=
  match d.store.perstAt with
  | some t =>
    let d1 := d.till (t + 100 * msec)
    { d1 with store := { d1.store with perstAt := none, training := true } }.perstTo true
  | none => d

/-- What the near-end loopback of the store port (DBG_LOOP.STO_LB, R291) leaves of the SSD: nothing arrives from it (DESIGN CHOICE, log 173). -/
def Dev.ssdReached (d : Dev) : Bool := decide (d.get F.DBG_LOOP.STO_LB ≠ 1)

/-- NVMe commands issued on a queue (R306), shown as they complete (DESIGN CHOICE, log 175). -/
def Dev.nvmeOut (d : Dev) (queue : Nat) (l : List NvmeCmd) : Dev := l.foldl (fun d c => d.emit (.nvme queue c)) d

/-- The controller is enabled and asked, its queues are created, and a volatile write cache is turned off (R306, R307). -/
def Dev.bringUp (d : Dev) (cache : Bool) : Dev :=
  ((d.emit (.nvmeEnable 32 4096)).nvmeOut 0 [.identify false, .identify true]).nvmeOut 0
    ([.numQueues 2, .createCq 1 256, .createSq 1 256, .createCq 2 64, .createSq 2 64] ++ if cache then [.cacheOff] else [])

/-- The segments whose header the mount reads: those that no LBA of the index covers (R310). -/
def Dev.uncovered (d : Dev) : List Nat :=
  (List.range d.trSegCount).filter fun s => decide (slice (Tbl.getD d.store.indexW (s / 256) []) (16 * (s % 256)) 16 = List.replicate 16 0)

/-- What the mount reads: both superblocks, the index, and the headers it does not cover (R307, R310). -/
def Dev.mountReads (d : Dev) : List NvmeCmd :=
  [.read 0 1, .read 1 1] ++ match d.store.sb with
    | none => []
    | some z => .read 512 (indexLbas z.2.lbas) :: d.uncovered.map fun s => .read (d.segLba s) 1

/-- The index entry of a segment (R310). -/
def TraceSeg.entry (s : TraceSeg) : List Byte :=
  leBytes 8 s.first ++ leBytes 4 s.seq ++ leBytes 3 (min s.ticks.length (2 ^ 24 - 1)) ++ leBytes 1 s.stream

/-- The layout is mounted (R307, R308, R310): the windows of the superblock, unless those in force are still to be written, the next SEG_SEQ and the
write head behind the newest segment, and the index as the headers give it. What triggered a window is not stored (DESIGN CHOICE, log 2). -/
def Dev.mount (d0 : Dev) (first : Bool) : Dev :=
  let d1 := if first then d0.fresh.sbAdopt (d0.freeVal 128) else d0.sbAdopt d0.windowSources
  let d := d1.nvmeOut 2 d1.mountReads
  match d.store.sb with
  | none => d.storeTo 3
  | some x =>
    let newest := d.validSegs.getLast?
    let owed := d.store.jobs.any fun j => match j with
      | .sb _ => true
      | _ => false
    let s := { d.store with windows := if first ∧ !owed then x.2.windows else d.store.windows,
                            index := d.validSegs.foldl (fun t g => Tbl.put t g.slot g.entry) [],
                            segSeq := max d.store.segSeq ((newest.map (·.seq + 1)).getD 0),
                            head := if first then (newest.map (·.slot + 1)).getD 0 % max 1 d.trSegCount else d.store.head }
    ({ d with store := s }).storeTo 4

/-- The store is being brought up, or its controller initialised again. -/
def Dev.storeStarting (d : Dev) : Bool :=
  (decide (d.storeState = 1) || decide (d.storeState = 5)) && d.store.training && d.store.lostAt.isNone

/-- STORE_MOUNTED: the controller answers, and bring-up ends (R307); also the end of its re-initialisation (R312). Mounting is a task of the firmware (Table 14-1). -/
def storeMounted (i : NvmeIdent) (d : Dev) : Dev :=
  if d.storeStarting ∧ d.domainOn 20 ∧ d.ssdReached ∧ d.coresRun then
    let first := decide (d.store.lbas = 0)
    let lbas := min i.nsze (2 ^ 30)
    let d0 := { d with store := { d.store with gts := i.gts, width := i.width, cache := i.cache } }
    let d1 := d0.set F.STORE_STATUS.LINK_UP 1
    if !i.nsPresent ∨ !i.formatOk ∨ i.nsze < 2 ^ 18 then
      ((d1.emit (.nvmeEnable 32 4096)).nvmeOut 0 [.identify false, .identify true]).storeTo 2
    else
      let d2 := (({ d1 with store := { d1.store with lbas := lbas } }).bringUp i.cache).set64 R.STORE_CAPACITY_LO lbas
      (d2.set F.STORE_STATUS.FLUSH_MODE (b2n (i.cache && i.refused))).mount first
  else d

/-- STORE_LINK_DOWN: the root port link is lost (R312). -/
def storeLinkDown (d : Dev) : Dev :=
  if d.bit F.STORE_STATUS.LINK_UP then
    let d1 := ((d.set F.STORE_STATUS.LINK_UP 0).fresh.endJobs true).sendFault srcStore 0x03 .u d.noLba
    ({ d1 with store := { d1.store with lostAt := some d.now } }).storeTo 1
  else d

/-- STORE_RETRAIN: every second while the link is down (R312). -/
def storeRetrain (trained : Bool) (d : Dev) : Dev :=
  match d.store.lostAt with
  | some t =>
    let d1 := d.till (t + 1000 * msec)
    if trained then (({ d1 with store := { d1.store with lostAt := none } }).set F.STORE_STATUS.LINK_UP 1).storeLive
    else { d1 with store := { d1.store with lostAt := some d1.now } }
  | none => d

/-! ### Segment writes (R309) -/

/-- The store engine writes while it is READY; in HALT too (R313). -/
def Dev.storeWrites (d : Dev) : Bool := decide (d.storeState = 4)

/-- A segment in flight has something to write. -/
def TraceSeg.due (s : TraceSeg) : Bool := !s.zeroed || decide (0 < s.staged) || s.closed

/-- A segment leaves flight. -/
def Dev.landSeg (d : Dev) (s : TraceSeg) : Dev :=
  { d with store := { d.store with flight := d.store.flight.filter fun x => decide (x.slot ≠ s.slot) } }

/-- The image of a segment on the SSD is replaced. -/
def Dev.segPut (d : Dev) (slot : Nat) (header data : List Byte) : Dev :=
  { d with store := { d.store with segs := Tbl.put d.store.segs slot ⟨header, data⟩ } }

/-- A trace write on I/O pair 1, with the flush on pair 2 that follows it in flush mode (R306, R309). -/
def Dev.segOut (d : Dev) (lba n : Nat) (flush : Bool) : Dev :=
  let d1 := d.nvmeOut 1 [.write lba n]
  if flush && d.bit F.STORE_STATUS.FLUSH_MODE then d1.nvmeOut 2 [.flush] else d1

/-- A segment's write fails: it is abandoned (R312, DEDUCED, log 47). -/
def Dev.failSeg (d : Dev) (s : TraceSeg) : Dev := (((d.ioErr (d.segLba s.slot)).landSeg s).stageShow).streamEnd s.stream

/-- The header of a segment in flight is written with zeros: what stood there is invalid (R309). -/
def Dev.segZero (d : Dev) (s : TraceSeg) : Dev :=
  let old := ((Tbl.get? d.store.segs s.slot).map (·.data)).getD []
  let d1 := ((d.setFlight { s with zeroed := true }).segPut s.slot (List.replicate 89 0) old).segOut (d.segLba s.slot) 1 false
  { d1 with store := { d1.store with index := Tbl.del d1.store.index s.slot } }

/-- What is staged of a segment in flight is written (R309). -/
def Dev.segData (d : Dev) (s : TraceSeg) : Dev :=
  let lba := (s.bytes - s.staged) / 4096
  let d1 := ((d.setFlight { s with staged := 0 }).segPut s.slot (List.replicate 89 0) s.data).segOut (d.segLba s.slot + 1 + lba)
    ((s.bytes + 4095) / 4096 - lba) true
  ((d1.setStream s.stream { d1.streamOf s.stream with newest := some s.lastTick }).stageShow).windowsDone

/-- The header of a closed segment is written with MARK, and the segment is valid (R309, R310). -/
def Dev.segHeader (d : Dev) (s : TraceSeg) : Dev :=
  let d1 := ((d.landSeg s).segPut s.slot s.header s.data).segOut (d.segLba s.slot) 1 true
  let d2 := { d1 with store := { d1.store with index := Tbl.put d1.store.index s.slot s.entry } }
  (d2.jobsPut (d2.indexDue false)).streamEnd s.stream

/-- SEGMENT_WRITE: the next write of the oldest segment in flight completes: zeroed header, data, header with MARK (R309). (DESIGN CHOICE, log 87) -/
def segmentWrite (ok : Bool) (d : Dev) : Dev :=
  if !d.storeWrites ∨ !d.ssdReached then d
  else
    match d.store.flight.find? TraceSeg.due with
    | none => d
    | some s =>
      if !ok then d.failSeg s
      else if !s.zeroed then d.segZero s
      else if 0 < s.staged then d.segData s
      else d.segHeader s

/-! ### Other NVMe commands -/

/-- The block address of a command. -/
def NvmeCmd.lba : NvmeCmd → Option Nat
  | .identify _ => none
  | .numQueues _ => none
  | .cacheOff => none
  | .createCq _ _ => none
  | .createSq _ _ => none
  | .read lba _ => some lba
  | .write lba _ => some lba
  | .flush => none
  | .dealloc lba _ => some lba

/-- The NVMe commands that a job takes (R306, R308, R310). -/
def Dev.jobCmds (d : Dev) : StoreJob → List NvmeCmd
  | .sb _ => [.write d.sbNext 1]
  | .fmt _ => [.write d.sbNext 1]
  | .flush _ => [.flush]
  | .dealloc _ => [.dealloc 512 (up512 (indexLbas d.store.lbas)), .dealloc (evtLba d.store.lbas) 16384,
      .dealloc (dataLba d.store.lbas) (512 * segCountOf d.store.lbas)]
  | .erase => [.dealloc 0 d.store.lbas]
  | .read r => r.slots.map fun s => .read (d.segLba s) 512
  | .block pos _ => [.write (evtLba d.store.lbas + pos) 1]
  | .index g => [.write (512 + g) 1]

/-- A format or an erase is over: the state is what the superblock leaves (R308). -/
def Dev.formatOver (d : Dev) : Dev := if d.storeState = 6 then d.storeTo (if d.store.sb.isSome then 4 else 3) else d

/-- A job that fails: a format or erase ends with it, and the state is what the superblocks leave (R308, Table 13-8). -/
def Dev.jobFailed (d : Dev) (j : StoreJob) : Dev :=
  let d1 := d.fresh.ioErr (((d.jobCmds j).head?.bind NvmeCmd.lba).getD d.noLba)
  match j with
  | .sb _ => d1
  | .fmt _ => (d1.endJobs true).formatOver
  | .flush whole => if whole then (d1.endJobs true).formatOver else d1
  | .dealloc _ => (d1.endJobs true).formatOver
  | .erase => d1.formatOver
  | .read r => d1.finishCid (some r.cid) .internal 0 0
  | .block _ _ => d1
  | .index _ => d1

/-- A superblock is written to the slot that does not govern, with GEN one higher; in flush mode it governs once the flush is done (R308). -/
def Dev.sbWritten (d : Dev) (img : Superblock) : Dev :=
  let d1 := { d with store := { d.store with sbs := Tbl.put d.store.sbs d.sbNext ({ img with gen := d.sbGen + 1 }).bytes } }
  if d.bit F.STORE_STATUS.FLUSH_MODE then d1 else d1.sbAdopt d1.windowSources

/-- What a format leaves of the regions behind the superblocks. -/
def Dev.regionsGone (d : Dev) : Dev :=
  { d with store := { d.store with segs := [], blocks := [], index := [], indexW := [], head := 0, evPos := 0, evBlock := [], evSince := none } }

/-- Every window is free, as a format leaves them once an update of it is done (R308). -/
def Dev.windowsFreed (d : Dev) : Dev := { d with store := { d.store with windows := List.replicate 16 Window.free } }

/-- A job is done: an update of the superblock writes the window table of its time under the format in force (R308). -/
def Dev.jobDone (d : Dev) (j : StoreJob) : Dev :=
  match j with
  | .sb img => d.sbWritten { (d.store.sb.map (·.2)).getD img with windows := d.store.windows }
  | .fmt img => (if d.bit F.STORE_STATUS.FLUSH_MODE then d else d.windowsFreed).sbWritten img
  | .flush whole =>
    let e := if whole then d.windowsFreed else d
    e.sbAdopt e.windowSources
  | .dealloc cid => ((d.regionsGone).storeTo 4).finishCid cid .ok (d.sbGen % 2 ^ 32) 0
  | .erase =>
    let e := d.regionsGone
    ({ e with store := { e.store with sbs := [], sb := none, windows := List.replicate 16 Window.free } }).storeTo 3
  | .read r =>
    if r.addr = 0 then d.finishCid (some r.cid) .ok r.bytes.length r.next
    else if r.dmaOk then (d.emit (.hostWrite r.addr r.bytes)).finishCid (some r.cid) .ok r.bytes.length r.next
    else (d.sendFault 0x004 0x02 .c r.addr).finishCid (some r.cid) .internal 0 0
  | .block pos b => { d with store := { d.store with blocks := Tbl.put d.store.blocks pos b } }
  | .index g => { d with store := { d.store with indexW := Tbl.put d.store.indexW g (d.indexLba g) } }

/-- NVME_COMPLETION: the oldest command other than a segment write completes; one of bring-up, while the store is brought up (R307, R308, R310, R312,
R316). -/
def nvmeCompletion (ok : Bool) (d : Dev) : Dev :=
  if !d.ssdReached then d
  else if d.storeStarting then (if ok then d else d.fresh.ioErr d.noLba)
  else match d.store.jobs with
  | [] => d
  | j :: r =>
    if !d.bit F.STORE_STATUS.LINK_UP then d
    else
      let d1 := ({ d with store := { d.store with jobs := r } }).nvmeOut 2 (d.jobCmds j)
      if ok then d1.jobDone j else d1.jobFailed j

/-- NVME_TIMEOUT: a command has not completed within 1 s; the controller is reset and initialised again (R312). (DESIGN CHOICE, log 86) -/
def nvmeTimeout (d : Dev) : Dev :=
  if d.storeStarting then (d.fresh.ioErr d.noLba).storeTo 5
  else if !d.bit F.STORE_STATUS.LINK_UP then d
  else match d.store.jobs, d.store.flight.find? TraceSeg.due with
    | j :: r, _ => ((({ d with store := { d.store with jobs := r } }).nvmeOut 2 (d.jobCmds j)).jobFailed j).storeTo 5
    | [], some s => if d.storeWrites then (d.failSeg s).storeTo 5 else d
    | [], none => d

/-! ### Erase and release -/

/-- A completed STORE_ERASE pair (STORE_ERASE). -/
def Dev.storeEraseGo (d : Dev) : Dev :=
  (d.jobsPut [.erase]).storeTo 6

/-- STORE_RELEASE: windows are freed (R305). -/
def Dev.storeFree (d : Dev) (mask : Nat) : Dev :=
  let ws := (List.range 16).map fun i => let w := d.store.windows.getD i Window.free; if mask.testBit i then Window.free else w
  if ws = d.store.windows then d else ({ d with store := { d.store with windows := ws } }).sbUpdate

/-! ### Commands -/

/-- The newest tick of stream number `s` that is on the SSD (R317). -/
def Dev.newestTick (d : Dev) (s : Nat) : Nat :=
  let done := ((d.validSegs.filter fun x => decide (x.stream = s) && !x.ticks.isEmpty).map TraceSeg.lastTick)
  let part := if d.store.flight.any fun x => decide (x.stream = s) then ((d.streamOf s).newest).getD 0 else 0
  done.foldl max part

/-- STORE_INFO (R317). -/
def storeInfoSpec : CmdSpec where
  opcode := 0x0810
  params := [pu 8 64]
  hostAddr := some 0
  run := fun c _ d =>
    let s := d.store
    let held := (List.range 8).flatMap fun i => [(8, (d.oldestTick i).getD 0), (8, d.newestTick i)]
    let fs := [(1, d.storeState), (1, b2n s.cache + 2 * d.get F.STORE_STATUS.FLUSH_MODE), (1, s.gts), (1, s.width), (4, d.trSegCount),
      (4, d.preserved.length), (8, s.lbas), (8, d.fmtId), (8, d.sbGen), (8, s.segSeq)] ++ held ++
      [(512, leNat (s.windows.flatMap Window.image))]
    d.toHost c (c.p 0) (packBlock fs) (.ok d.storeState (d.trSegCount * 512))

/-- Whether a read is in progress. -/
def Dev.storeReading (d : Dev) : Bool := d.store.jobs.any fun j => match j with
  | .read _ => true
  | _ => false

/-- STORE_FORMAT (R308, Table 13-7): the windows stay until the first update is done. -/
def storeFormatSpec : CmdSpec where
  opcode := 0x0811
  modes := fun m => decide (m = .configure) || decide (m = .test)
  checks := fun _ d => [(.state, d.anyStream || !(decide (d.storeState = 3) || decide (d.storeState = 4) || decide (d.storeState = 6))),
    (.busy, d.storeReading || decide (d.storeState = 6))]
  waits := fun _ _ => true
  run := fun _ cid d =>
    let img := d.windowsFreed.sbImage (d.evt.pcc * 2 ^ 44 + d.optime) d.store.lbas
    let write := StoreJob.fmt img :: d.sbFlush true
    ((d.jobsPut (write ++ write ++ [.dealloc (some cid)])).storeTo 6, .wait .store 0 0)

/-- STREAM_CREATE (R302, R243). -/
def streamCreateSpec : CmdSpec where
  opcode := 0x0820
  params := [pu 1 8]
  checks := fun c d => [(.range, decide (8 ≤ c.p 0 ∧ c.p 0 ≠ 0xFF)),
    (.noResource, if c.p 0 = 0xFF then (lowestFree 8 d.streamFree).isNone else decide (c.p 0 < 8) && !d.streamFree (c.p 0))]
  run := fun c _ d =>
    let s := if c.p 0 = 0xFF then (lowestFree 8 d.streamFree).getD 0 else c.p 0
    (d.setStream s { Stream.reset with st := .created }, .ok (d.handle 8 s) 0)

/-- STREAM_DESTROY: its segments remain (Table 13-8). -/
def streamDestroySpec : CmdSpec where
  opcode := 0x0821
  ty := 8
  isFree := Dev.streamFree
  checks := fun c d => [(.state, (d.streamOf c.idx).st.moving)]
  run := fun c _ d =>
    ((({ d with store := { d.store with streams := Tbl.del d.store.streams c.idx } }).bumpGen 8 c.idx).endStale c.handle, .ok 0 0)

/-- STREAM_CONFIG (R302). -/
def streamConfigSpec : CmdSpec where
  opcode := 0x0822
  ty := 8
  isFree := Dev.streamFree
  params := [pu 1 8, pu 2 16, pu 2 16, pu 2 16, pu 4 32, pu 4 32]
  checks := fun c d =>
    [(.state, (d.streamOf c.idx).st.moving || (d.streamOf c.idx).start?.isSome),
     (.range, decide (2 < c.p 0) || decide (c.p 1 = 0) || decide (c.p 3 = 0) || decide (4096 < c.p 2 + c.p 3))]
  run := fun c _ d =>
    let x := d.streamOf c.idx
    (d.setStream c.idx { x with st := .configured, mode := c.p 0, decim := c.p 1, first := c.p 2, count := c.p 3, pre := c.p 4, post := c.p 5 },
      .ok 0 0)

/-- STREAM_START (R302, R369). -/
def streamStartSpec : CmdSpec where
  opcode := 0x0823
  ty := 8
  isFree := Dev.streamFree
  params := [pu 8 64]
  checks := fun c d =>
    let x := d.streamOf c.idx
    [(.state, !(decide (x.st = .configured) || decide (x.st = .stopped)) || x.start?.isSome || decide (d.storeState ≠ 4) || !d.tick.running),
     (.deadline, decide (c.p 0 ≠ 0) && d.tooNear (c.p 0))]
  waits := fun _ _ => true
  run := fun c cid d =>
    let k := d.bndOf (c.p 0)
    ((d.setStream c.idx { d.streamOf c.idx with start? := some (k, some cid) }).arm k (.streamStart c.idx) none, .wait .armed 0 k)

/-- STREAM_STOP (R302, R369). -/
def streamStopSpec : CmdSpec where
  opcode := 0x0824
  ty := 8
  isFree := Dev.streamFree
  params := [pu 8 64]
  checks := fun c d =>
    let x := d.streamOf c.idx
    [(.state, decide (x.st ≠ .running) || x.stop?.isSome || !d.tick.running), (.deadline, decide (c.p 0 ≠ 0) && d.tooNear (c.p 0))]
  waits := fun _ _ => true
  run := fun c _ d =>
    let k := d.bndOf (c.p 0)
    ((d.setStream c.idx { d.streamOf c.idx with stop? := some k }).arm k (.streamStop c.idx) none, .wait (.streamStop c.idx) 0 k)

/-- STREAM_TRIGGER (R305). -/
def streamTriggerSpec : CmdSpec where
  opcode := 0x0825
  ty := 8
  isFree := Dev.streamFree
  checks := fun c d => [(.state, decide ((d.streamOf c.idx).st ≠ .running))]
  run := fun c _ d =>
    let r := d.trigger c.idx 0
    (r.1, if r.2 then .ok 0 d.tick.index else .done .noResource 0 0 false)

/-- Whole ticks of a segment from tick `k` on, as far as `max` bytes allow: ticks and bytes. -/
def TraceSeg.ticksFrom (s : TraceSeg) (k max : Nat) : List (Nat × List Byte) :=
  let l := s.ticks.filter fun t => decide (k ≤ t.1)
  (l.foldl (fun (acc : List (Nat × List Byte) × Nat × Bool) t =>
    if acc.2.2 ∨ max < acc.2.1 + t.2.length then (acc.1, acc.2.1, true) else (acc.1 ++ [t], acc.2.1 + t.2.length, false)) ([], 0, false)).1

/-- One read block (R316). -/
def Dev.readBlock (d : Dev) (s : TraceSeg) (ts : List (Nat × List Byte)) : List Byte :=
  let first := (ts.head?.map (·.1)).getD 0
  let flags := b2n (s.gapBefore && decide (first = s.first)) + 2 * b2n (d.store.windows.any fun w => w.holds s) +
    4 * b2n s.corrupt + 8 * b2n s.halted
  leBytes 8 first ++ leBytes 4 ts.length ++ leBytes 2 flags ++ leBytes 2 s.folCount ++ ts.flatMap (·.2)

/-- The read blocks of stream number `n` from tick `k`: bytes, the next tick, and the segments read (R316). -/
def Dev.readTrace (d : Dev) (n k max : Nat) : List Byte × Nat × List Nat :=
  let segs := d.validSegs.filter fun s => decide (s.stream = n) && decide (k ≤ s.lastTick)
  let r := segs.foldl (fun (acc : List Byte × Nat × List Nat × Bool) s =>
    if acc.2.2.2 then acc
    else
      let ts := s.ticksFrom k (max - acc.1.length - 16)
      let all := decide (ts.length = (s.ticks.filter fun t => decide (k ≤ t.1)).length)
      match ts.getLast? with
      | none => (acc.1, acc.2.1, acc.2.2.1, true)
      | some t =>
        if max < acc.1.length + 16 then (acc.1, acc.2.1, acc.2.2.1, true)
        else (acc.1 ++ d.readBlock s ts, t.1 + 1, acc.2.2.1 ++ [s.slot], !all)) ([], k, [], false)
  (r.1, r.2.1, r.2.2.1)

/-- STORE_READ (R316). -/
def storeReadSpec : CmdSpec where
  opcode := 0x0830
  ty := 8
  isFree := Dev.streamFree
  params := [pu 8 64, pu 8 64, pu 4 32]
  hostAddr := some 0
  checks := fun _ d => [(.state, decide (d.storeState ≠ 4))]
  waits := fun _ _ => true
  run := fun c cid d =>
    let x := d.readTrace c.idx (c.p 1) (c.p 2)
    let job : ReadJob := ⟨cid, c.dma.isSome, c.p 0, x.1, x.2.1, x.2.2⟩
    (d.jobsPut [.read job], .wait .store 0 0)

def storeInfo (src : Source) (dmaOk : Bool) (d : Dev) : Dev := d.command storeInfoSpec src (dmaOf dmaOk)
def storeFormat (src : Source) (d : Dev) : Dev := d.command storeFormatSpec src none
def streamCreate (src : Source) (d : Dev) : Dev := d.command streamCreateSpec src none
def streamDestroy (src : Source) (d : Dev) : Dev := d.command streamDestroySpec src none
def streamConfig (src : Source) (d : Dev) : Dev := d.command streamConfigSpec src none
def streamStart (src : Source) (d : Dev) : Dev := d.command streamStartSpec src none
def streamStop (src : Source) (d : Dev) : Dev := d.command streamStopSpec src none
def streamTrigger (src : Source) (d : Dev) : Dev := d.command streamTriggerSpec src none
def storeRead (src : Source) (dmaOk : Bool) (d : Dev) : Dev := d.command storeReadSpec src (dmaOf dmaOk)

end Sys2Proof.Machine
end

