-- ==== Sys2Proof/Machine/Modes.lean ====
section
/-! DEFINITION. The six modes (R25, R26, R347): what entering and leaving a mode does, and mode requests (R245, R269, R281). -/

namespace Sys2Proof.Machine

/-- The mode of a code (R245). -/
def modeOfCode (c : Nat) : Option Mode :=
  match c with
  | 0 => some .boot | 1 => some .configure | 2 => some .run | 3 => some .degraded | 4 => some .test | 5 => some .halt
  | _ => none

/-- Leaving TEST: force bits and armed corruptions end, and every DBG field returns to its reset value (R285, R291). -/
def Dev.leaveTest (d : Dev) : Dev :=
  let d1 := { d with flt := { d.flt with force := 0, cbLeft := 0, checking := false } }
  ((d1.setWord R.DBG_LOOP 0).setWord R.DBG_CHECK 0).setWord R.DBG_CHECK_RESULT 0

/-- What a transition brings with it: TEST is left (R285, R291), degrade bits clear as RUN is entered (R280), followers stop as RUN is left for
CONFIGURE (R190), and CONFIGURE has been entered (R283). -/
def Dev.modeEffects (d : Dev) (old new : Mode) : Dev :=
  let d1 := if old = .test then d.leaveTest else d
  match new with
  | .run => { d1 with flt := { d1.flt with degrade := 0 } }
  | .configure =>
    let d2 := { d1 with flt := { d1.flt with configured := true } }
    if old = .run then d2.folStopAll else d2
  | .boot => d1
  | .degraded => d1.raise F.GLB_MODE_EVENT.DEGRADED_ENTER
  | .test => d1
  | .halt => d1

/-- A transition (R347): the mode, MODE_CHANGED, and its MODE record with CAUSE (0 request, 1 reaction, 2 start-up) and SOURCE. -/
def Dev.setMode (d : Dev) (new : Mode) (cause source : Nat) : Dev :=
  let old := d.glb.mode
  let d1 := d.modeEffects old new
  let d2 := { d1 with glb := { d1.glb with mode := new, prev := old } }
  (d2.raise F.GLB_MODE_EVENT.MODE_CHANGED).eventFree 0x002 [(1, old.code), (1, new.code), (1, cause), (1, 0), (2, source)]

/-- The entry into HALT (R282): channels stop and then rest at idle, the tick stops, runs of calibration end, nothing more is handed to the
switch link, field outputs and open segments end, no read of the store is served, and the fault is recorded in the Clay area. -/
def Dev.enterHalt (d : Dev) (m : FaultMsg) : Dev :=
  let d1 := (d.mgmtCount.setMode .halt 1 m.source).haltRecord m
  let d2 := (List.range 32).foldl Dev.chStop d1
  let d3 := { d2 with tick := { d2.tick with running := false, phase := 0, epochRem := 0, perReq := none }, link := { d2.link with queue := [] }, field := ⟨[], []⟩ }
  (((d3.set F.FIELD_STATUS.LEVEL 0).calHalt).closeAll true).dropReads

/-- Whether RUN may be entered from DEGRADED (R281): no record is being handled, and no source has both its degrade and its live bit. -/
def Dev.runAllowed (d : Dev) : Bool :=
  d.flt.rec?.isNone && decide (d.flt.degrade &&& (d.flt.live ||| d.flt.force) = 0)

/-- The outcome of a request from the mode in force (R245, R347): a final status, or the transition is allowed (none). -/
def Dev.judgeMode (d : Dev) (code : Nat) : Option Status :=
  match modeOfCode code with
  | none => some .range
  | some m =>
    if m = d.glb.mode then some .ok
    else match d.glb.mode, m with
      | .configure, .run => none
      | .configure, .test => none
      | .test, .configure => none
      | .run, .configure => if d.anyShaft then some .state else none
      | .degraded, .run => if d.runAllowed then none else some .state
      | _, _ => some .mode

/-- The result of a mode request: its command completes, or GLB_MODE_REQ_RESULT shows it (R269). -/
def Dev.endModeReq (d : Dev) (q : ModeReq) (st : Status) : Dev :=
  let d1 := { d with glb := { d.glb with modeReq := none } }
  match q.cid with
  | some c => d1.finishCid (some c) st (if st = .ok then q.code else 0) 0
  | none =>
    (((d1.set F.GLB_MODE_REQ_RESULT.STATUS st.code).set F.GLB_MODE_REQ_RESULT.MODE q.code).set F.GLB_MODE_REQ_RESULT.DONE 1).raise
      F.GLB_MODE_EVENT.REQ_DONE

/-- A request that is in progress is judged, again after every row (R245): TEST waits for PD23 (R333). (DESIGN CHOICE, log 96) -/
def Dev.serveModeReq (d : Dev) : Dev :=
  match d.glb.modeReq with
  | none => d
  | some q =>
    match d.judgeMode q.code with
    | some st => d.endModeReq q st
    | none =>
      match modeOfCode q.code with
      | none => d.endModeReq q .range
      | some m =>
        if m = .test ∧ !d.domainOn 23 then
          if q.asked then
            let waits := d.pwr.queue ++ d.pwr.cur.toList
            if waits.any fun r => decide (r.dom = 23) && r.on then d else d.endModeReq q .state
          else if d.pwr.queue.length < 8 then
            { d with glb := { d.glb with modeReq := some { q with asked := true } },
                     pwr := { d.pwr with queue := d.pwr.queue ++ [⟨23, true, none⟩] } }
          else d.endModeReq q .state
        else (d.setMode m 0 q.req).endModeReq q .ok

/-- MODE_REQUEST (R245): BUSY while another request is in progress; RANGE, MODE, STATE and OK as it is judged. -/
def modeRequestSpec : CmdSpec where
  opcode := 0x0010
  params := [pu 1 8]
  waits := fun c d => d.glb.modeReq.isNone && decide (d.judgeMode (c.p 0) = none)
  run := fun c cid d =>
    if d.glb.modeReq.isSome then (d, .done .busy 0 0 false)
    else match d.judgeMode (c.p 0) with
    | some st => (d, .done st (if st = .ok then c.p 0 else 0) 0 false)
    | none => ({ d with glb := { d.glb with modeReq := some ⟨c.p 0, Source.req c.src, some cid, false⟩ } }, .wait .mode 0 0)

def modeRequest (src : Source) (d : Dev) : Dev := d.command modeRequestSpec src none

/-- A completed GLB_MODE_REQ pair (R269): BUSY while a request is in progress. -/
def Dev.modeReqCommit (d : Dev) (req code : Nat) : Dev :=
  if d.glb.modeReq.isSome then
    (((d.set F.GLB_MODE_REQ_RESULT.STATUS Status.busy.code).set F.GLB_MODE_REQ_RESULT.MODE code).set F.GLB_MODE_REQ_RESULT.DONE 1).raise
      F.GLB_MODE_EVENT.REQ_DONE
  else
    let d1 := ((d.set F.GLB_MODE_REQ_RESULT.STATUS 0).set F.GLB_MODE_REQ_RESULT.MODE code).set F.GLB_MODE_REQ_RESULT.DONE 0
    { d1 with glb := { d1.glb with modeReq := some ⟨code, req, none, false⟩ } }

end Sys2Proof.Machine
end

