-- ==== Sys2Proof/Machine/Faults.lean ====
section
/-! DEFINITION. The fault collector (R270 to R291): capture, merging, reactions, acknowledgement, injection, SRAM errors, CROAK and FAULT_N,
checker tests, and the commands 0x0900 to 0x0911. -/

namespace Sys2Proof.Machine

/-! ### Sources and reactions -/

/-- The class of a kind of a source (Table 12-2); a kind of C or U is injected as U (R286), and a bank's kinds have the class of Table 12-3.
None for a source or kind that the table does not have. (DEDUCED, log 95) -/
def kindClass (source kind : Nat) : Option FClass :=
  let pick (l : List FClass) : Option FClass := if kind = 0 then none else l[kind - 1]?
  if 0x010 ≤ source ∧ source ≤ 0x013 then pick [.u, .c]
  else if 0x020 ≤ source ∧ source ≤ 0x03F then pick [.u, .c]
  else match source with
  | 0x001 => pick [.u, .f, .u, .u, .f]
  | 0x002 => pick [.c]
  | 0x003 => pick [.c, .c, .c]
  | 0x004 => pick [.u, .c, .c]
  | 0x005 => pick [.c]
  | 0x006 => pick [.c]
  | 0x008 => pick [.c]
  | 0x040 => pick [.c]
  | 0x041 => pick [.u, .u, .u, .u, .c]
  | 0x042 => pick [.u, .u]
  | 0x043 => pick [.u, .c]
  | 0x050 => pick [.u, .c, .u, .c, .c]
  | 0x051 => pick [.c, .u, .u]
  | 0x052 => pick [.u, .c]
  | 0x060 => pick [.c, .f, .f]
  | 0x061 => pick [.c, .u, .u]
  | 0x062 => pick [.c, .u, .u]
  | 0x063 => pick [.c, .f, .f]
  | 0x064 => pick [.u, .u]
  | 0x065 => pick [.f, .f]
  | 0x066 => pick [.u, .u]
  | 0x067 => pick [.u]
  | _ => none

/-- The reaction in force for a source and class (R275): codes of Table 12-4, 7 for HALT. -/
def Dev.reactionOf (d : Dev) (source : Nat) (cls : FClass) : Nat :=
  match cls with
  | .c => min 1 (d.get (F.FLT_REACT.REACT_C source))
  | .u => min 4 (d.get (F.FLT_REACT.REACT_U source))
  | .f => 7

/-- The effects of the rows above `done` up to reaction `r` (Table 12-4, R278), for a message of `source`. -/
def Dev.react (d : Dev) (source done r : Nat) : Dev :=
  let d1 := if done < 2 ∧ 2 ≤ r ∧ d.glb.mode = .run then d.setMode .degraded 1 source else d
  let d2 := if done < 3 ∧ 3 ≤ r then d1.quickStopAll 2 else d1
  if done < 4 ∧ 4 ≤ r then { d2 with flt := { d2.flt with croakStop := true } } else d2

/-- A bit of a set of sources. -/
def sourceBit (s : Nat) : BitVec 128 := 1#128 <<< s

/-- A sticky cause bit is set (R280). -/
def Dev.setCause (d : Dev) (s : Nat) : Dev :=
  d.setWord (R.FLT_CAUSE (s / 32)) (d.word (R.FLT_CAUSE (s / 32)) ||| (1#32 <<< (s % 32)))

/-- The effects of LOG (Table 12-4): cause bit, class counter, and the FAULT record, rate-limited per source but for class F. -/
def Dev.logFault (d : Dev) (m : FaultMsg) : Dev :=
  let d1 := d.setCause m.source
  let d2 := match m.cls with
    | .c => d1.count R.FLT_COUNT_C 1
    | .u => d1.count R.FLT_COUNT_U 1
    | .f => d1
  d2.event 0x010 (if m.cls = .f then none else some (0x1000 + m.source)) (packFields [(8, m.code)])

/-- The degrade bit of a message whose own reaction is DEGRADE or higher (R280). -/
def Dev.setDegrade (d : Dev) (source r : Nat) : Dev :=
  if 2 ≤ r then { d with flt := { d.flt with degrade := d.flt.degrade ||| sourceBit source } } else d

/-- Capture of a message (R276), with its reaction. -/
def Dev.captureFault (d : Dev) (m : FaultMsg) (r : Nat) : Dev :=
  let rec' : FaultRec :=
    { first := { m with merged := false }, lastSource := m.source, kindOr := m.kind, cls := m.cls, reaction := r, flagsOr := m.flags,
      mergeCount := 0, tick := d.tick.index, sec := secOf d.tod16 % 2 ^ 32, ns := nsOf d.tod16 }
  let d1 := ({ d with flt := { d.flt with rec? := some rec' } }.raise F.FLT_EVENT.CAPTURED).setDegrade m.source r
  let d2 := if m.cls = .u then { d1 with trigs := d1.trigs ++ [2] } else d1
  if m.cls = .f then d2.enterHalt m else d2.react m.source 0 r

/-- A merge (R277, R278): the record's sum, and the added effects where its reaction rises. A class that escalates to U is a trigger (R305). -/
def Dev.mergeFault (d : Dev) (x : FaultRec) (m : FaultMsg) (r : Nat) : Dev :=
  let cls := x.cls.max m.cls
  let top := if cls = .f then 7 else max x.reaction r
  let y := { x with lastSource := m.source, kindOr := x.kindOr ||| m.kind, flagsOr := x.flagsOr ||| m.flags ||| 4, cls := cls,
                    mergeCount := satAdd x.mergeCount 1, reaction := top }
  let d0 := ({ d with flt := { d.flt with rec? := some y } }.raise F.FLT_EVENT.MERGED).setDegrade m.source r
  let d1 := if x.cls = .c ∧ m.cls = .u then { d0 with trigs := d0.trigs ++ [2] } else d0
  if x.reaction < top then
    let d2 := d1.raise F.FLT_EVENT.ESCALATED
    if cls = .f then (if d.glb.mode = .halt then d2 else d2.enterHalt m) else d2.react m.source x.reaction top
  else d1

/-- A message taken by the collector (R276, R277, R280): merged while a record is handled; else captured, or only logged. -/
def Dev.takeFault (d : Dev) (m : FaultMsg) : Dev :=
  let r := d.reactionOf m.source m.cls
  let d1 := d.logFault m
  match d.flt.rec? with
  | some x => d1.mergeFault x m r
  | none => if m.cls = .c ∧ r = 0 then d1 else d1.captureFault m r

/-- The source whose message goes first: the lowest with one (R271). -/
def Dev.nextSource (d : Dev) : Option (Nat × FaultMsg × List FaultMsg) :=
  d.flt.queues.findSome? fun p => match p.2 with
    | m :: r => some (p.1, m, r)
    | [] => none

/-- FAULT_MESSAGE: the collector takes one message (R271, R276, R277). -/
def faultMessage (d : Dev) : Dev :=
  match d.nextSource with
  | none => d
  | some (s, m, r) => { d with flt := { d.flt with queues := Tbl.put d.flt.queues s r } }.takeFault m

/-! ### The record and its acknowledgement -/

/-- FLT_REC_SUM of a record, with ACTIVE. -/
def FaultRec.sum (x : FaultRec) (active : Bool) : Nat :=
  x.lastSource % 2 ^ 10 + x.kindOr % 64 * 2 ^ 10 + x.cls.code * 2 ^ 16 + x.reaction * 2 ^ 18 + x.flagsOr % 64 * 2 ^ 24 + b2n active * 2 ^ 31

/-- The eight words of a record, 0x010 to 0x02C of the FLT block. -/
def FaultRec.words (x : FaultRec) (active : Bool) : List Word :=
  [x.first.code, x.first.code / 2 ^ 32, x.sum active, x.mergeCount, x.tick, x.tick / 2 ^ 32, x.sec, x.ns].map (BitVec.ofNat 32)

/-- A record as the fields of a block or record: FIRST, TICK, SUM, MERGE_COUNT, SEC, NS (Tables 12-8 and 13-2). -/
def FaultRec.fields (x : FaultRec) (active : Bool) : List (Nat × Nat) :=
  [(8, x.first.code), (8, x.tick), (4, x.sum active), (4, x.mergeCount), (4, x.sec), (4, x.ns)]

/-- The acknowledgement (R279); none in HALT, or while no record is handled. -/
def Dev.ackFault (d : Dev) : Dev :=
  match d.flt.rec? with
  | none => d
  | some x =>
    if d.glb.mode = .halt then d
    else
      let d1 := ((x.words false).zipIdx).foldl (fun d w => d.setWord (R.FLT_PREV w.2) w.1) d
      ({ d1 with flt := { d1.flt with rec? := none, croakStop := false } }).eventFree 0x011 (x.fields true)

/-- FAULT_N is asserted (R283): until CONFIGURE is first entered, while a record of class U or F is handled, and in HALT. -/
def Dev.faultN (d : Dev) : Bool :=
  !d.flt.configured || decide (d.glb.mode = .halt) || d.flt.rec?.any fun x => decide (x.cls ≠ .c)

/-- FLT_STATUS. -/
def Dev.fltStatus (d : Dev) : Nat :=
  let x := d.flt.rec?
  b2n x.isSome + 2 * (x.map (·.cls.code)).getD 0 + 8 * (x.map (·.reaction)).getD 0 + 64 * b2n d.faultN + 128 * b2n (decide (d.glb.mode = .halt))

/-! ### SRAM errors (R273) -/

/-- Whether an error of a bank comes from injection, by its number of bits: at a recorded address it is injected, and real as well where its syndrome differs
from the injected one (R287, R288). -/
def Dev.cbMatch (d : Dev) (bank addr bits : Nat) : Bool × Bool :=
  match d.flt.cbHits.find? fun h => decide (h.1 = bank ∧ h.2.2 = addr) with
  | some h => (true, decide (h.2.1 ≠ bits))
  | none => (false, true)

/-- A message of a bank, injected or real or both (R273, R288). -/
def Dev.bankMsg (d : Dev) (bank kind : Nat) (cls : FClass) (addr : Nat) (f : Bool × Bool) : Dev :=
  d.pushFault ⟨0x060 + bank, kind, cls, addr, f.1 || d.flt.force.getLsbD (0x060 + bank), f.2, false⟩

/-- The class of ECC_UNCORR and BANK_OUT (Table 12-3, R273). -/
def Dev.bankClass (d : Dev) (bank : Nat) : FClass :=
  if bank = 1 then (if d.flt.banksOut.getLsbD 2 then .f else .u)
  else if bank = 2 then (if d.flt.banksOut.getLsbD 1 then .f else .u)
  else .f

/-- The function lost with bank B or C (Table 12-3): staging is halved, and with bank C the Sand area is not kept. -/
def Dev.loseBank (d : Dev) (bank : Nat) : Dev :=
  let d1 := if bank = 1 ∨ bank = 2 then d.set F.STORE_STATUS.STAGE_HALVED 1 else d
  if bank = 2 then ({ d1.set F.EVT_STATUS.SAND_OFF 1 with evt := { d1.evt with sand := [], sandNext := 0 } }).sandShow else d1

/-- A bank is taken out of service: BANK_OUT follows the message that caused it (R273). -/
def Dev.bankOut (d : Dev) (bank addr : Nat) (f : Bool × Bool) : Dev :=
  let d1 := d.bankMsg bank 0x03 (d.bankClass bank) addr f
  ({ d1 with flt := { d1.flt with banksOut := d1.flt.banksOut ||| (1#4 <<< bank) } }).loseBank bank

/-- A bank that is in service: its domain on, and not taken out. -/
def Dev.bankIn (d : Dev) (bank : Nat) : Bool :=
  decide (bank < 4) && !d.flt.banksOut.getLsbD bank && d.domainOn (bank + 2)

/-- ECC_CORR: a single-bit error is corrected; the seventeenth within one second takes the bank out (R273). -/
def eccCorr (bank addr : Nat) (d : Dev) : Dev :=
  if !d.bankIn bank then d
  else
    let a := addr % 2 ^ 40
    let f := d.cbMatch bank a 1
    let l := (d.now :: (Tbl.getD d.flt.eccAt bank []).filter fun t => decide (d.now < t + 1000 * msec)).take 17
    let d1 := { d with flt := { d.flt with eccAt := Tbl.put d.flt.eccAt bank l } }
    let d2 := d1.bankMsg bank 0x01 .c a f
    if l.length = 17 then d2.bankOut bank a f else d2

/-- The oldest segment with trace in staging is abandoned, as by a failed write (R273, R312). -/
def Dev.stageLost (d : Dev) : Dev :=
  match d.store.flight.find? fun s => decide (0 < s.staged) with
  | none => d
  | some s => ((d.landSeg s).stageShow).streamEnd s.stream

/-- The consumer of a word of bank B or C sees a failed read (R273): the command that is executing, where the bank holds the command and DMA buffers, or the
store engine, where it holds staged trace, or neither; which, is open (DESIGN CHOICE, log 177). Banks A and D bring HALT (Table 12-3). -/
def Dev.readFails (d : Dev) (bank : Nat) (src? : Option Source) : Dev :=
  let buffers := if d.flt.banksOut.getLsbD 1 then 2 else 1
  if bank = 1 ∨ bank = 2 then
    match d.freeVal 2 with
    | 0 => d.fresh
    | 1 => if bank = buffers then d.fresh.execCaught src? else d.fresh
    | _ => d.fresh.stageLost
  else d

/-- ECC_UNCORR: a double-bit error fails the read, and takes the bank out at once (R273). -/
def eccUncorr (bank addr : Nat) (d : Dev) : Dev :=
  if !d.bankIn bank then d
  else
    let a := addr % 2 ^ 40
    let f := d.cbMatch bank a 2
    ((d.bankMsg bank 0x02 (d.bankClass bank) a f).readFails bank d.turn).bankOut bank a f

/-! ### CROAK (R284) -/

/-- FLT_CROAK_CFG.REQ_RUN as PD00 has it at AON edge `n`: a write acts at the first edge after it (R263, R284). -/
def Dev.croakReq (d : Dev) (n : Nat) : Bool :=
  match d.flt.reqHeld with
  | some h => if n ≤ h.2 then h.1 else d.bit F.FLT_CROAK_CFG.REQ_RUN
  | none => d.bit F.FLT_CROAK_CFG.REQ_RUN

/-- The conditions of R284 that fail after AON edge `n`, but for the heartbeat: bits 0, 2 and 3. -/
def Dev.croakFailsAt (d : Dev) (n : Nat) : BitVec 4 :=
  let c1 := decide (d.glb.mode = .halt) || d.flt.rec?.any fun x => decide (x.cls = .f)
  let c4 := d.croakReq n && !(decide (d.glb.mode = .run) && d.tick.running)
  BitVec.ofNat 4 (b2n c1 + 4 * b2n d.flt.croakStop + 8 * b2n c4)

/-- The conditions that fail at this instant. -/
def Dev.croakFails (d : Dev) : BitVec 4 := d.croakFailsAt d.clk.aonN

/-- What fails now has not held throughout the half-period in progress. -/
def Dev.croakWatch (d : Dev) : Dev :=
  { d with flt := { d.flt with croakBad := d.flt.croakBad ||| d.croakFails } }

/-- Whether a heartbeat has arrived within the last 10 ms (R284, R321). -/
def Dev.heartbeatOk (d : Dev) : Bool :=
  d.mgmt.beat.any fun t => decide (d.now ≤ t + 10 * msec)

/-- The instant at which the half-period of CROAK in progress ends: 125 AON periods after it began (R284, R338). -/
def Dev.croakEnd (d : Dev) : Nat := d.clk.aonAt + (d.flt.croakSince + 125 - d.clk.aonN) * d.aonPeriod

/-- CROAK_EDGE: at the end of a half-period of 125 AON periods CROAK changes level if every condition has held throughout it (R284). -/
def croakEdge (d : Dev) : Dev :=
  if !d.flt.croakOn then d
  else
    let d1 := d.till d.croakEnd
    let bad := d1.flt.croakBad ||| d1.croakFailsAt (d1.clk.aonN - 1) ||| (if d1.heartbeatOk then 0 else 2)
    let go := decide (bad = 0)
    let level := if go then !d1.flt.croakLevel else d1.flt.croakLevel
    let f := { d1.flt with croakLevel := level, croakSince := d.flt.croakSince + 125, croakBad := 0 }
    { d1 with flt := f }.setWord R.FLT_CROAK_STATUS
      (BitVec.ofNat 32 (b2n go + 2 * b2n level + 4 * (15 - bad.toNat)))

/-! ### Injection (R285 to R288) -/

/-- The injection mechanism in force: 0 OFF, 1 FORCE, 2 CHECKBIT (R285). -/
def Dev.injMode (d : Dev) : Nat :=
  let m := d.get F.FLT_INJ_MODE.MODE
  if m = 3 then 0 else m

/-- A completed FLT_INJ_MODE pair: a change of MODE ends force bits and armed corruptions (R285). -/
def Dev.injModeCommit (d : Dev) (v : Word) : Dev :=
  let old := d.injMode
  let mask := F.FLT_INJ_MODE.MODE.mask ||| F.FLT_INJ_MODE.CB_TARGET.mask ||| F.FLT_INJ_MODE.CB_BITS.mask ||| F.FLT_INJ_MODE.CB_COUNT.mask
  let d1 := d.setWord R.FLT_INJ_MODE (v &&& mask)
  if d1.injMode = old then d1 else { d1 with flt := { d1.flt with force := 0, cbLeft := 0 } }

/-- The outcome of an injection operation shown (R286). -/
def Dev.injAccept (d : Dev) : Dev := d.set F.FLT_INJ_STATUS.LAST_REJECTED 0
def Dev.injReject (d : Dev) : Dev := (d.set F.FLT_INJ_STATUS.LAST_REJECTED 1).sendFault 0x002 0x01 .c 0

/-- ADDRESS of a forced message where Table 12-2 gives it without a real condition: 0, the band in use, the tick index, REF_MS. -/
def Dev.forceAddress (d : Dev) (source kind : Nat) : Option Nat :=
  if source = 0x002 ∨ (0x020 ≤ source ∧ source ≤ 0x040) ∨ source = 0x052 ∨ source = 0x064 then some 0
  else if 0x010 ≤ source ∧ source ≤ 0x013 then some (d.get (F.MSn_STATUS.BAND (source - 0x010)))
  else if source = 0x041 then some (d.tick.index % 2 ^ 40)
  else if source = 0x050 ∧ (kind = 1 ∨ kind = 3) then some 0
  else if source = 0x050 ∧ kind = 2 then some (d.get F.LINK_CTRL.REF_MS)
  else none

/-- A source is forced for a kind (R286): its force bit, and one message; where Table 12-2 names an object that no real condition gives, its ADDRESS is open
(DESIGN CHOICE, log 94). -/
def Dev.forceGo (d : Dev) (source kind : Nat) (cls : FClass) : Dev :=
  let m : FaultMsg := ⟨source, kind, cls, (d.forceAddress source kind).getD (d.freeVal 40), true, false, false⟩
  ({ d.fresh with flt := { d.flt with force := d.flt.force ||| sourceBit source } }).pushFault m

/-- A completed FLT_INJ_CTRL pair (R286, R287). -/
def Dev.injCtrlCommit (d : Dev) (v : Word) : Dev :=
  let mask := F.FLT_INJ_CTRL.SOURCE.mask ||| F.FLT_INJ_CTRL.KIND.mask ||| F.FLT_INJ_CTRL.OP.mask
  let d1 := d.setWord R.FLT_INJ_CTRL (v &&& mask)
  let source := F.FLT_INJ_CTRL.SOURCE.ofWord v
  match F.FLT_INJ_CTRL.OP.ofWord v with
  | 0 => d1.injAccept
  | 1 =>
    match kindClass source (F.FLT_INJ_CTRL.KIND.ofWord v) with
    | some cls => if d1.injMode = 1 then (d1.forceGo source (F.FLT_INJ_CTRL.KIND.ofWord v) cls).injAccept else d1.injReject
    | none => d1.injReject
  | 2 => ({ d1 with flt := { d1.flt with force := d1.flt.force &&& ~~~sourceBit source } }).injAccept
  | 3 => ({ d1 with flt := { d1.flt with force := 0 } }).injAccept
  | 4 =>
    if d1.injMode = 2 ∧ d1.get F.FLT_INJ_MODE.CB_TARGET ≤ 4 then
      ({ d1 with flt := { d1.flt with
          cbTarget := d1.get F.FLT_INJ_MODE.CB_TARGET, cbBits := if d1.get F.FLT_INJ_MODE.CB_BITS = 2 then 2 else 1,
          cbLeft := min 16 (max 1 (d1.get F.FLT_INJ_MODE.CB_COUNT)) } }).injAccept
    else d1.injReject
  | 5 => ({ d1 with flt := { d1.flt with cbLeft := 0 } }).injAccept
  | _ => d1.injReject

/-- FLT_INJ_STATUS. -/
def Dev.injStatus (d : Dev) : Nat :=
  d.flt.cbLeft + 256 * b2n (decide (0 < d.flt.cbLeft)) + 65536 * d.get F.FLT_INJ_STATUS.LAST_REJECTED

/-! ### Checker tests (R291) -/

/-- DBG_CHECK.START: a test of TARGET begins, unless one runs, TARGET is reserved, or the debug domain is off. (DEDUCED, log 97) -/
def Dev.checkerStart (d : Dev) : Dev :=
  if d.flt.checking ∨ d.get F.DBG_CHECK.TARGET = 7 ∨ !d.domainOn 23 then d
  else ({ d with flt := { d.flt with checking := true } }).set F.DBG_CHECK_RESULT.DONE 0

/-- CHECKER_TEST_DONE (R291). -/
def checkerTestDone (missed falseFlags : Nat) (d : Dev) : Dev :=
  if d.flt.checking then
    let d1 := ({ d with flt := { d.flt with checking := false } }).set F.DBG_CHECK_RESULT.DONE 1
    let d2 := d1.set F.DBG_CHECK_RESULT.PASS (b2n (decide (missed = 0 ∧ falseFlags = 0)))
    (d2.set F.DBG_CHECK_RESULT.MISSED (min 255 missed)).set F.DBG_CHECK_RESULT.FALSE (min 255 falseFlags)
  else d

/-! ### Commands -/

/-- The four words of a set of sources as bytes. -/
def sourceBytes (s : BitVec 128) : List Byte := leBytes 16 s.toNat

/-- The block of Table 12-8. -/
def Dev.fltBlock (d : Dev) : List Byte :=
  let cur := match d.flt.rec? with
    | some x => packFields (x.fields true)
    | none => List.replicate 32 0
  let prev := packFields [(8, d.get64 (R.FLT_PREV 0)), (8, d.get64 (R.FLT_PREV 4)), (4, (d.word (R.FLT_PREV 2)).toNat),
    (4, (d.word (R.FLT_PREV 3)).toNat), (4, (d.word (R.FLT_PREV 6)).toNat), (4, (d.word (R.FLT_PREV 7)).toNat)]
  cur ++ prev ++ ((List.range 4).flatMap fun i => leBytes 4 (d.word (R.FLT_CAUSE i)).toNat) ++ sourceBytes (d.flt.live ||| d.flt.force) ++
    sourceBytes d.flt.degrade ++ sourceBytes d.flt.force ++ leBytes 4 (d.word R.FLT_COUNT_C).toNat ++ leBytes 4 (d.word R.FLT_COUNT_U).toNat ++
    leBytes 4 (d.word R.FLT_COMBINED_COUNT).toNat ++ leBytes 4 0

/-- FLT_READ (R290). -/
def fltReadSpec : CmdSpec where
  opcode := 0x0900
  params := [pu 8 64]
  hostAddr := some 0
  run := fun c _ d =>
    let x := d.flt.rec?
    d.toHost c (c.p 0) d.fltBlock (.ok ((x.map (·.mergeCount)).getD 0) ((x.map (·.first.code)).getD 0))

/-- FLT_ACK (R279). -/
def fltAckSpec : CmdSpec where
  opcode := 0x0901
  checks := fun _ d => [(.state, d.flt.rec?.isNone)]
  run := fun _ _ d => (d.ackFault, .ok 0 0)

/-- FLT_REACTION (R275). -/
def fltReactionSpec : CmdSpec where
  opcode := 0x0902
  params := [pu 2 10, pu 1 2, pu 1 3]
  checks := fun c _ =>
    [(.range, !faultSources.contains (c.p 0) || decide (c.p 1 ≠ 1 ∧ c.p 1 ≠ 2) || decide (4 < c.p 2) || decide (c.p 1 = 1 ∧ 1 < c.p 2))]
  run := fun c _ d =>
    (d.set (if c.p 1 = 1 then F.FLT_REACT.REACT_C (c.p 0) else F.FLT_REACT.REACT_U (c.p 0)) (c.p 2), .ok 0 0)

/-- FLT_INJECT (R286, R290). -/
def fltInjectSpec : CmdSpec where
  opcode := 0x0910
  params := [pu 2 10, pu 1 6]
  modes := fun m => decide (m = .test)
  checks := fun c d => [(.state, decide (d.injMode ≠ 1)), (.range, (kindClass (c.p 0) (c.p 1)).isNone)]
  run := fun c _ d =>
    match kindClass (c.p 0) (c.p 1) with
    | some cls => (d.forceGo (c.p 0) (c.p 1) cls, .ok 0 0)
    | none => (d, .ok 0 0)

/-- FLT_INJECT_CLEAR (R290). -/
def fltInjectClearSpec : CmdSpec where
  opcode := 0x0911
  params := [pu 2 16]
  modes := fun m => decide (m = .test)
  checks := fun c _ => [(.range, !faultSources.contains (c.p 0) && decide (c.p 0 ≠ 0xFFFF))]
  run := fun c _ d =>
    ({ d with flt := { d.flt with force := if c.p 0 = 0xFFFF then 0 else d.flt.force &&& ~~~sourceBit (c.p 0) } }, .ok 0 0)

def fltRead (src : Source) (dmaOk : Bool) (d : Dev) : Dev := d.command fltReadSpec src (dmaOf dmaOk)
def fltAck (src : Source) (d : Dev) : Dev := d.command fltAckSpec src none
def fltReaction (src : Source) (d : Dev) : Dev := d.command fltReactionSpec src none
def fltInject (src : Source) (d : Dev) : Dev := d.command fltInjectSpec src none
def fltInjectClear (src : Source) (d : Dev) : Dev := d.command fltInjectClearSpec src none

end Sys2Proof.Machine
end

