-- ==== Sys2Proof/Machine/Power.lean ====
section
/-! DEFINITION. Power domains (R331 to R333), rails and temperature (R335, R336, R358), clocks (R337 to R340), and the two commands of
Table 15-10. -/

namespace Sys2Proof.Machine

/-- SOURCE of PWR and of CLK. -/
def srcPwr : Nat := 0x001
def srcClk : Nat := 0x064

/-! ### Domains -/

/-- Whether domain `n` may be switched off in the state at hand (Table 15-1). (DEDUCED, log 109) -/
def Dev.offAllowed (d : Dev) (n : Nat) : Bool :=
  let calm := decide (d.glb.mode = .configure) || decide (d.glb.mode = .test) || decide (d.glb.mode = .boot)
  if n = 3 ∨ n = 4 then calm && !d.anyStream && d.domainOn (7 - n)
  else if n = 6 then calm && d.fo.fols.all fun p => decide (p.2.st = .free)
  else if n = 7 then calm && d.sh.shafts.all fun p => decide (p.2.st = .free)
  else if n = 9 then
    ((List.range 8).all fun r => !(d.refOf r).bound) && [0, 1, 2, 3].all fun m => !d.bit (F.MSn_DPLL_CTRL.DPLL_EN m)
  else if 10 ≤ n ∧ n ≤ 13 then
    !d.bit (F.MSn_CTRL.EN (n - 10)) && !(d.bit F.LINK_CTRL.EN && decide (d.get F.LINK_CTRL.REF_MS = n - 10))
  else if 14 ≤ n ∧ n ≤ 17 then (List.range 8).all fun i => !(d.outOf (8 * (n - 14) + i)).st.moving
  else if n = 18 then !d.bit F.LINK_CTRL.EN
  else if n = 20 then !d.bit F.STORE_CTRL.EN
  else if n = 21 then (List.range 8).all fun i => !d.bit (F.FIELDn_CTRL.EN i)
  else if n = 23 then decide (d.glb.mode ≠ .test)
  else false

/-- What banks B and C still do (Table 12-3): a bank taken out or switched off does nothing. -/
def Dev.banksShow (d : Dev) : Dev :=
  let b := d.flt.banksOut.getLsbD 1 || !d.domainOn 3
  let c := d.flt.banksOut.getLsbD 2 || !d.domainOn 4
  let d1 := (d.set F.STORE_STATUS.STAGE_HALVED (b2n (b || c))).set F.EVT_STATUS.SAND_OFF (b2n c)
  if c then ({ d1 with evt := { d1.evt with sand := [], sandNext := 0 } }).sandShow else d1

/-- The outputs of bank `b` high impedance, or, with a channel that has been configured, idle (R62). -/
def Dev.bankOutputs (d : Dev) (b : Nat) (on : Bool) : Dev :=
  (List.range 8).foldl (fun d i =>
    let o := 8 * b + i
    let x := d.outOf o
    if x.st = .free then d else d.setOut o { x with sub := if on && decide (x.st ≠ .created) then .idle else .highZ, goal := none, held := false, waitH := none, waitAt := none, guard := none }) d

/-- The live state of a domain at its reset value, as it reads while the domain is off and starts when it is switched on (R331). -/
def Dev.domainReset (d : Dev) (n : Nat) (on : Bool) : Dev :=
  if n = 3 ∨ n = 4 then d.banksShow
  else if n = 9 then
    let d1 := (List.range 8).foldl (fun d r =>
      if on ∧ d.bit (F.REFn_CTRL.EN r) then d.refEnable r else d.setWord (R.REFn_STATUS r) 0) d
    [0, 1, 2, 3].foldl (fun d m => ((d.vcoMark m).setWord (R.MSn_DPLL_STATUS m) 0).set64 (R.MSn_STEER_LO m) 0) d1
  else if 10 ≤ n ∧ n ≤ 13 then
    let m := n - 10
    let d1 := (d.setWord (R.MSn_STATUS m) 0).setWord (R.MSn_PHERR m) 0
    let d2 := if on ∧ d1.bit (F.MSn_CTRL.EN m) then (d1.msStartGo m).1 else d1
    if on ∧ (d2.msOf m).surveyAt.isSome then d2.surveyBegin m else d2
  else if 14 ≤ n ∧ n ≤ 17 then
    let b := n - 14
    let d1 := (d.set (F.OUT_BANKb_STATUS.PD_ON b) (b2n on)).bankOutputs b on
    if on then { d1 with pwr := { d1.pwr with nom := Tbl.put d1.pwr.nom b (d1.get (F.OUT_BANKb_STATUS.VDDO_LEVEL b)) } } else d1
  else if n = 18 then { d with link := { LinkState.powerOn with saCounters := d.link.saCounters } }.setWord R.LINK_STATUS 0
  else if n = 21 then ({ d with field := ⟨[], []⟩ }).set F.FIELD_STATUS.LEVEL 0
  else if n = 23 then ({ d with flt := { d.flt with checking := false } }).setWord R.DBG_CHECK_RESULT 0
  else d

/-- A domain takes its state. -/
def Dev.domainPut (d : Dev) (n : Nat) (on : Bool) : Dev :=
  let w := d.word R.PWR_DOMAIN_STATUS
  (d.setWord R.PWR_DOMAIN_STATUS (if on then w ||| (1#32 <<< n) else w &&& ~~~(1#32 <<< n))).domainReset n on

/-- LAST_DOMAIN and LAST_RESULT: 1 done, 2 refused, 3 failed. -/
def Dev.switchShow (d : Dev) (n result : Nat) : Dev :=
  (d.set F.PWR_SWITCH_STATUS.LAST_DOMAIN n).set F.PWR_SWITCH_STATUS.LAST_RESULT result

/-- A request is refused (R333): a command ends with STATE, a register pair raises REFUSED. -/
def Dev.switchRefuse (d : Dev) (q : PwrReq) : Dev :=
  let d1 := d.switchShow q.dom 2
  if q.cid.isSome then d1.finishCid q.cid .state 0 0 else d1.raise F.PWR_EVENT.REFUSED

/-- A request for the state that the domain has completes with no switch (R332). -/
def Dev.switchSame (d : Dev) (q : PwrReq) : Dev := (d.switchShow q.dom 1).finishCid q.cid .ok 0 0

/-- A request from a register pair at its edge of the AON clock (R332, R333). -/
def Dev.domainRequest (d : Dev) (n : Nat) (on : Bool) : Dev :=
  if 23 < n then d.switchRefuse ⟨n, on, none⟩
  else if d.domainOn n = on then d.switchSame ⟨n, on, none⟩
  else if 8 ≤ d.pwr.queue.length then d.switchRefuse ⟨n, on, none⟩
  else { d with pwr := { d.pwr with queue := d.pwr.queue ++ [⟨n, on, none⟩] } }

/-- A completed PWR_DOMAIN_CTRL pair acts at the first edge of the AON clock after it (R263). -/
def Dev.domainCtrl (d : Dev) (n : Nat) (on : Bool) : Dev :=
  { d with pwr := { d.pwr with asked := d.pwr.asked ++ [(⟨n, on, none⟩, d.clk.aonAt + d.aonPeriod)] } }

/-- The requests of PWR_DOMAIN_CTRL whose edge has come. -/
def Dev.ctrlRun (d : Dev) : Dev :=
  let due := d.pwr.asked.filter fun a => decide (a.2 ≤ d.now)
  if due = [] then d
  else due.foldl (fun d a => d.domainRequest a.1.dom a.1.on)
    { d with pwr := { d.pwr with asked := d.pwr.asked.filter fun a => !decide (a.2 ≤ d.now) } }

/-- The requests are served in order until one starts a switch: those for the state at hand complete, those not allowed are refused (R332). -/
def Dev.serveDomains (d : Dev) (q : List PwrReq) : Dev :=
  match q with
  | [] => { d with pwr := { d.pwr with queue := [] } }
  | r :: rest =>
    if d.domainOn r.dom = r.on then (d.switchSame r).serveDomains rest
    else if !r.on && !d.offAllowed r.dom then (d.switchRefuse r).serveDomains rest
    else { d with pwr := { d.pwr with queue := rest, cur := some r, curAt := d.now } }

/-- The device at the edge that the first request of PWR_DOMAIN_CTRL waits for, where nothing else waits. -/
def Dev.ctrlAwait (d : Dev) : Dev :=
  match d.pwr.queue, d.pwr.asked with
  | [], a :: _ => (d.till a.2).ctrlRun
  | _, _ => d

/-- DOMAIN_SWITCH_START: no earlier than 20 µs after the previous switch (R332), nor than the edge at which its request acts (R263). -/
def domainSwitchStart (d : Dev) : Dev :=
  if d.pwr.cur.isSome then d
  else
    let d0 := d.ctrlAwait
    if d0.pwr.queue = [] then d0
    else
      let d1 := d0.after d0.pwr.lastAt (20 * usec)
      d1.serveDomains d1.pwr.queue

/-- The switch in progress ends. -/
def Dev.switchEnd (d : Dev) (result : Nat) (q : PwrReq) : Dev :=
  ({ d with pwr := { d.pwr with cur := none, lastAt := some d.now } }).switchShow q.dom result

/-- SWITCH_DONE: the domain has its new state (R332). -/
def switchDone (d : Dev) : Dev :=
  match d.pwr.cur with
  | none => d
  | some q =>
    let d1 := ((d.switchEnd 1 q).domainPut q.dom q.on).raise F.PWR_EVENT.SWITCH_DONE
    (d1.eventLimited 0x0B0 [(1, q.dom), (1, b2n q.on)]).finishCid q.cid .ok 0 0

/-- SWITCH_FAIL: a switch-on without power good within 50 µs leaves the domain off (R332, R333). -/
def switchFail (d : Dev) : Dev :=
  match d.pwr.cur with
  | none => d
  | some q =>
    if q.on then
      let d1 := (((d.till (d.pwr.curAt + 50 * usec)).switchEnd 3 q).raise F.PWR_EVENT.SWITCH_FAIL).sendFault srcPwr 0x03 .u q.dom
      d1.finishCid q.cid .internal 0 0
    else d

/-- PWR_DOMAIN_SET (R332, R333). -/
def pwrDomainSetSpec : CmdSpec where
  opcode := 0x0A00
  params := [pu 1 8, pu 1 1]
  checks := fun c _ => [(.range, decide (23 < c.p 0))]
  waits := fun c d => d.domainOn (c.p 0) != decide (c.p 1 = 1) && decide (d.pwr.queue.length < 8)
  run := fun c cid d =>
    let on := decide (c.p 1 = 1)
    if d.domainOn (c.p 0) = on then (d.switchShow (c.p 0) 1, .ok 0 0)
    else if 8 ≤ d.pwr.queue.length then (d.switchShow (c.p 0) 2, .done .state 0 0 false)
    else ({ d with pwr := { d.pwr with queue := d.pwr.queue ++ [⟨c.p 0, on, some cid⟩] } }, .wait (.domain (c.p 0) (c.p 1)) 0 0)

/-- The valid sensors with their readings, in 1/16 °C. -/
def Dev.validTemps (d : Dev) : List (Nat × Int) :=
  ((List.range 8).filter fun i => d.bit (F.TEMPn.VALID i)).map fun i => (i, signedN 16 (d.get (F.TEMPn.TEMP i)))

/-- The hottest of some readings, the lowest sensor of equals. -/
def hottest (l : List (Nat × Int)) : Option (Nat × Int) :=
  l.foldl (fun m x => match m with
    | none => some x
    | some y => if y.2 < x.2 then some x else m) none

/-- PWR_STATUS (R351): with no valid sensor the reading of the hottest one is a free value (DESIGN CHOICE, log 62). -/
def pwrStatusSpec : CmdSpec where
  opcode := 0x0A01
  run := fun _ _ d =>
    let t := ((hottest d.validTemps).map fun x => wrapN 16 x.2).getD (d.freeVal 16)
    (d.fresh, .ok (d.get F.PWR_DOMAIN_STATUS.ON) (d.get F.PWR_TOTAL.POWER + 2 ^ 32 * t))

def pwrDomainSet (src : Source) (d : Dev) : Dev := d.command pwrDomainSetSpec src none
def pwrStatus (src : Source) (d : Dev) : Dev := d.command pwrStatusSpec src none

/-! ### Rails (R335) -/

/-- The nominal value of a rail in mV (Table 16-6); for VDDO_A to VDDO_D the level measured as the domain was switched on, 0 where absent. (DEDUCED, log 102) -/
def Dev.railNom (d : Dev) (r : Nat) : Nat :=
  if 11 ≤ r ∧ r ≤ 14 then [0, 1800, 2500, 3300].getD (Tbl.getD d.pwr.nom (r - 11) 0) 0
  else [750, 800, 800, 1200, 1200, 1200, 1200, 850, 1200, 850, 1200, 0, 0, 0, 0, 1800, 3300].getD r 0

/-- Whether a rail is monitored: VDDO and VDDF only while their domain is on. -/
def Dev.railWatched (d : Dev) (r : Nat) : Bool :=
  if 11 ≤ r ∧ r ≤ 14 then d.domainOn (r + 3) else if r = 16 then d.domainOn 21 else decide (r < 17)

/-- The PWR live bit: a rail out of range, or a temperature too high (R280). -/
def Dev.pwrLive (d : Dev) : Dev := d.setLive srcPwr (decide (d.pwr.railBad ≠ 0) || d.pwr.hot || d.pwr.crit)

/-- A reading of a rail is shown. (DESIGN CHOICE, log 98) -/
def Dev.railRead (d : Dev) (r mv mw : Nat) : Dev :=
  let d1 := d.setWord (R.PWR_RAIL r) (BitVec.ofNat 32 (mv % 65536 + 65536 * mw))
  (d1.set F.PWR_TOTAL.POWER (d.fitU 16 ((List.range 17).foldl (fun n i => n + d1.get (F.PWR_RAIL.POWER i)) 0 : Nat))).fresh

/-- A rail found within range, or out of it; the message is sent as it leaves its range. -/
def Dev.railJudge (d : Dev) (r : Nat) (bad : Bool) (kind : Nat) (cls : FClass) : Dev :=
  let was := d.pwr.railBad.getLsbD r
  let set := if bad then d.pwr.railBad ||| (1#17 <<< r) else d.pwr.railBad &&& ~~~(1#17 <<< r)
  let d1 := { d with pwr := { d.pwr with railBad := set } }.set F.PWR_RAIL_STATUS.GOOD
    (BitVec.toNat (if bad then BitVec.ofNat 17 (d.get F.PWR_RAIL_STATUS.GOOD) &&& ~~~(1#17 <<< r)
      else BitVec.ofNat 17 (d.get F.PWR_RAIL_STATUS.GOOD) ||| (1#17 <<< r)))
  (if bad ∧ (!was ∨ cls = .f) then (d1.raise F.PWR_EVENT.RAIL).sendFault srcPwr kind cls r else d1).pwrLive

/-- Whether a reading lies below 92 %, or above 110 %, of nominal. -/
def Dev.railLow (d : Dev) (r mv : Nat) : Bool := decide (mv * 100 < 92 * d.railNom r)
def Dev.railHigh (d : Dev) (r mv : Nat) : Bool := decide (0 < d.railNom r ∧ 110 * d.railNom r < mv * 100)

/-- RAIL_UV: a rail below 92 % of nominal for 20 µs; a reading within range shows it good again (DEDUCED, log 63). -/
def railUv (r mv mw : Nat) (d : Dev) : Dev :=
  if d.railWatched r ∧ !d.railHigh r mv then (d.railRead r mv mw).railJudge r (d.railLow r mv) 0x01 .u else d

/-- RAIL_OV: a rail above 110 % of nominal for 20 µs (DEDUCED, log 63). -/
def railOv (r mv mw : Nat) (d : Dev) : Dev :=
  if d.railWatched r ∧ !d.railLow r mv then (d.railRead r mv mw).railJudge r (d.railHigh r mv) 0x02 .f else d

/-- VDDO_LEVEL: the reading of a bank supply after 100 µs in a new window (R358). -/
def vddoLevel (bank mv : Nat) (d : Dev) : Dev :=
  if bank < 4 then
    let code := if 1620 ≤ mv ∧ mv ≤ 1980 then 1 else if 2250 ≤ mv ∧ mv ≤ 2750 then 2 else if 3000 ≤ mv ∧ mv ≤ 3600 then 3 else 0
    d.set (F.OUT_BANKb_STATUS.VDDO_LEVEL bank) code
  else d

/-! ### Temperature (R336) -/

/-- TEMP_HIGH, at most 123 °C. -/
def Dev.tempHigh (d : Dev) : Int := min 1968 (signedN 16 (d.get F.TEMP_HIGH.HIGH))

/-- Whether a reading may be VALID: within range, and within 20 °C of the median of the other valid sensors. -/
def Dev.tempOk (d : Dev) (s : Nat) (t : Int) : Bool :=
  let others := (d.validTemps.filter fun x => x.1 != s).map (·.2)
  decide (-880 ≤ t ∧ t ≤ 2400) && (others.isEmpty || decide ((t - medianOf others (d.freeVal 16)).natAbs ≤ 320))

/-- Since when sensor `s` has exceeded a limit. (DEDUCED, log 103) -/
def overSince (l : Tbl Nat) (s now : Nat) (above : Bool) : Tbl Nat :=
  if above then (if (Tbl.get? l s).isSome then l else Tbl.put l s now) else Tbl.del l s

/-- TEMP_MAX follows the valid readings. -/
def Dev.tempMax (d : Dev) : Dev :=
  match hottest d.validTemps with
  | some x => d.setWord R.TEMP_MAX (BitVec.ofNat 32 (wrapN 16 x.2 + 65536 * x.1))
  | none => d

/-- TEMP_CONVERSION: sensor `s` converts every 250 µs (R336). -/
def tempConversion (s : Nat) (reading : Int) (d : Dev) : Dev :=
  if 8 ≤ s then d
  else
    let d0 := d.till (Tbl.getD d.pwr.convAt s 0 + 250 * usec)
    let ok := d0.tempOk s reading
    let one : BitVec 8 := 1#8 <<< s
    let failed := d0.pwr.tempFail.getLsbD s
    let d1 := d0.fresh.setWord (R.TEMPn s) (BitVec.ofNat 32 (wrapN 16 reading + 65536 * b2n ok))
    let p := { d1.pwr with
      convAt := Tbl.put d1.pwr.convAt s d1.now, tempRead := d1.pwr.tempRead ||| one,
      tempFail := (if ok then d1.pwr.tempFail &&& ~~~one else d1.pwr.tempFail ||| one),
      highAt := overSince d1.pwr.highAt s d1.now (ok && decide (d1.tempHigh < reading)),
      critAt := overSince d1.pwr.critAt s d1.now (ok && decide (2000 < reading)) }
    let d2 := { d1 with pwr := p }.tempMax
    let d3 := (if !ok ∧ !failed then d2.sendFault 0x006 0x01 .c s else d2).setLive 0x006 (decide (p.tempFail ≠ 0))
    let hot := d3.pwr.hot && !(d3.validTemps.all fun x => decide (x.2 ≤ d3.tempHigh - 32))
    ({ d3 with pwr := { d3.pwr with hot := hot, crit := d3.pwr.crit && !p.critAt.isEmpty } }).pwrLive

/-- TJ_HIGH: a valid sensor above TEMP_HIGH for 10 ms (R336). -/
def tjHigh (s : Nat) (d : Dev) : Dev :=
  match Tbl.get? d.pwr.highAt s with
  | some t =>
    if d.pwr.hot then d
    else
      let d1 := d.till (t + 10 * msec)
      ({ d1 with pwr := { d1.pwr with hot := true } }.sendFault srcPwr 0x04 .u s).pwrLive
  | none => d

/-- TJ_CRIT: a valid sensor above 125 °C for 1 ms (R336). -/
def tjCrit (s : Nat) (d : Dev) : Dev :=
  match Tbl.get? d.pwr.critAt s with
  | some t =>
    if d.pwr.crit then d
    else
      let d1 := d.till (t + msec)
      ({ d1 with pwr := { d1.pwr with crit := true } }.sendFault srcPwr 0x05 .f s).pwrLive
  | none => d

/-! ### Clocks (R337 to R340) -/

/-- The core clock changes its source; the counters of the cores are brought up to the change. The edges of OSCIN bypass are counted from here, whatever the phase of OSCIN
(R337, R339; DESIGN CHOICE, log 206). -/
def Dev.coreTo (d : Dev) (src : Nat) : Dev :=
  let d1 := d.mgmtCount.set F.PWR_CLK_STATUS.CORE_SRC src
  if src = 1 then { d1 with clk := { d1.clk with bypAt := d1.now }, time := { d1.time with shown := d1.time.tod } } else d1

/-- CORE_PLL_LOST: the core clock goes to OSCIN bypass (R339). A lock that is lost again before the return only cancels it. -/
def corePllLost (d : Dev) : Dev :=
  let d1 := (d.set F.PWR_CLK_STATUS.PLL_LOCKED 0)
  let d2 := { d1 with clk := { d1.clk with pllSince := none } }
  if d.get F.PWR_CLK_STATUS.CORE_SRC = 0 then
    let d3 := (d2.coreTo 1).set F.TIME_STATUS.BYPASS_CLK 1
    let d4 := (d3.sendFault srcClk 0x01 .u 0).setLive srcClk true
    { d4 with sh := { d4.sh with clkLoss := some (d4.sh.clkLoss.getD false) } }
  else d2

/-- The core clock returns to the core PLL (R339, R340). -/
def Dev.coreReturn (d : Dev) : Dev :=
  if d.clk.pllSince.isSome ∧ d.get F.PWR_CLK_STATUS.CORE_SRC = 1 then
    let d1 := ((d.coreTo 0).set F.TIME_STATUS.BYPASS_CLK 0).setLive srcClk false
    { d1 with clk := { d1.clk with pllSince := none } }
  else d

/-- CORE_PLL_RELOCKED: locked for 1 ms; the return follows at the next boundary, or at once (R339). (DEDUCED, log 105) -/
def corePllRelocked (d : Dev) : Dev :=
  if d.get F.PWR_CLK_STATUS.CORE_SRC = 1 ∧ d.clk.pllSince.isNone ∧ d.bit F.REF_OSC_STATUS.OSC_ACTIVE then
    { d with clk := { d.clk with pllSince := some d.now } }.set F.PWR_CLK_STATUS.PLL_LOCKED 1
  else d

/-- The host PCIe link is lost (R362). -/
def Dev.hpeFall (d : Dev) : Dev :=
  if d.boot.hpeUp then
    let d1 := { d with boot := { d.boot with hpeUp := false, hpeLost := !d.boot.perst } }
    if d.boot.perst then d1 else (d1.sendFault 0x052 0x01 .u 0).setLive 0x052 true
  else d

/-- OSC_ACTIVE in both of its places. -/
def Dev.oscShow (d : Dev) (on : Nat) : Dev := (d.set F.REF_OSC_STATUS.OSC_ACTIVE on).set F.PWR_CLK_STATUS.OSC_ACTIVE on

/-- The rate error of ToD on the ring oscillator: free within ±0.2 % (Table 15-2, DESIGN CHOICE, log 2). -/
def Dev.ringRate (d : Dev) : Dev :=
  { d with clk := { d.clk with rateErr := clampTo 562949953421 (signedN 48 (d.freeVal 48)) } }.fresh

/-- The time engine without a disciplined rate: ACQUIRING (Table 15-2). -/
def Dev.timeAstray (d : Dev) : Dev :=
  if d.time.st = .unset then d
  else
    let d1 := d.timeTo .acquiring
    { d1 with time := { d1.time with astray := true } }

/-- OSCIN_LOST: the cascade of Table 15-2 (R340). (DEDUCED, log 104) -/
def oscinLost (d : Dev) : Dev :=
  if !d.bit F.REF_OSC_STATUS.OSC_ACTIVE then { d with clk := { d.clk with oscSince := some d.now } }
  else
    let late := decide (d.get F.PWR_CLK_STATUS.CORE_SRC ≠ 2)
    let d1 := ((((d.oscShow 0).coreTo 2).set F.PWR_CLK_STATUS.AON_SRC 1).set F.PWR_CLK_STATUS.PLL_LOCKED 0).set F.TIME_STATUS.BYPASS_CLK 1
    let d2 := { d1 with clk := { d1.clk with oscSince := some d1.now, pllSince := none, oscLost := late } }.ringRate
    let d3 := (d2.sendFault srcClk 0x02 .u 0).setLive srcClk true
    let d4 := [0, 1, 2, 3].foldl (fun d n => if d.bit (F.MSn_STATUS.LOCKED n) then d.msLose n false else d) d3
    let d7 := (storeLinkDown (d4.outSources.timeAstray.linkFall false)).hpeFall
    { d7 with sh := { d7.sh with clkLoss := some true } }

/-- OSCIN_RETURNED: OSCIN has stayed active for 10 ms (R340). -/
def oscinReturned (d : Dev) : Dev :=
  if d.bit F.REF_OSC_STATUS.OSC_ACTIVE then d
  else
    let d0 := d.after d.clk.oscSince (10 * msec)
    let d1 := (d0.oscShow 1).set F.PWR_CLK_STATUS.AON_SRC 0
    let d2 := if d1.clk.oscLost then d1.coreTo 1 else d1
    let d3 := { d2 with clk := { d2.clk with oscLost := false, rateErr := 0, ringAt := some d2.now } }
    let d4 := [0, 1, 2, 3].foldl (fun d n =>
      if d.bit (F.MSn_STATUS.ACQUIRING n) then d.setMs n { d.msOf n with acqAt := some d.now } else d) d3
    d4.outSources

/-- RING_OSCILLATOR_MEASUREMENT: once per millisecond while OSCIN is active (R337). -/
def ringOscillatorMeasurement (hz : Nat) (d : Dev) : Dev :=
  if d.bit F.REF_OSC_STATUS.OSC_ACTIVE then
    let d1 := d.after d.clk.ringAt msec
    { d1 with clk := { d1.clk with ringAt := some d1.now } }.set F.PWR_RING_FREQ.FREQ hz
  else d

end Sys2Proof.Machine
end

