-- ==== Sys2Proof/Machine/Tick.lean ====
section
/-! DEFINITION. The tick (R123 to R142, R369): what becomes live at a boundary, the deadline checks, snapshots and field pulses tied to the
tick, the boundary itself in the order of Table 6-4, and the commands 0x0400 to 0x0403. -/

namespace Sys2Proof.Machine

/-- SOURCE of TICK. -/
def srcTick : Nat := 0x041

/-! ### What becomes live -/

/-- What a change of a register word brings with it, by its offset: monitors (R42), DPLLs (R43, R51), PTP (R117), the time source (R103). -/
def Dev.wordHook (d : Dev) (off : Nat) (old : Word) : Dev :=
  if 0x8000 ≤ off ∧ off < 0x8200 then
    let r := (off - 0x8000) / 0x40
    if off ≠ R.REFn_CTRL r ∨ (F.REFn_CTRL.EN r).ofWord old = d.get (F.REFn_CTRL.EN r) then d
    else if !d.bit (F.REFn_CTRL.EN r) then d.refDisable r
    else if d.domainOn 9 then d.refEnable r else d
  else if 0x10000 ≤ off ∧ off < 0x14000 then
    let n := (off - 0x10000) / 0x1000
    if (off = R.MSn_DPLL_CTRL n ∨ off = R.MSn_DPLL_PRIO n) ∧ d.domainOn 9 then d.dpllEval n
    else if off = R.MSn_DPLL_LIMITS n ∧ d.domainOn 9 then d.steerRelimit n
    else if off = R.MSn_HOLD_A0_HI n ∨ off = R.MSn_HOLD_A1_HI n ∨ off = R.MSn_HOLD_A2_HI n ∨ off = R.MSn_HOLD_D_HI n then d.modelRestored n
    else if off = R.MSn_HOLD_EXT_TEMP n then
      let d1 := d.setMs n { d.msOf n with extAt := d.now, extOld := false }
      if (d.msOf n).extOld then
        d1.set (F.MSn_DPLL_STATUS.EXTRAP n) (b2n (decide (d1.dpllState n = 3) && d1.bit (F.MSn_DPLL_STATUS.MODEL_VALID n) && d1.extrapolates n))
      else d1
    else d
  else if off = R.FLT_CROAK_CFG then
    let was := { d with regs := Tbl.put d.regs off old }.croakReq d.clk.aonN
    { d with flt := { d.flt with reqHeld := some (was, d.clk.aonN) } }
  else if off = R.TIME_CTRL then d.srcChange old
  else if off = R.PTP_CFG then
    if F.PTP_CFG.PROFILE.ofWord old = d.get F.PTP_CFG.PROFILE ∧ F.PTP_CFG.DOMAIN.ofWord old = d.get F.PTP_CFG.DOMAIN then d.ptpDecide
    else d.ptpRestart
  else if off = R.PTP_CLASS then d.ptpDecide
  else if 0x30100 ≤ off ∧ off < 0x30120 then d.ptpEnableChanged ((off - 0x30100) / 4) old
  else d

/-- Before a phase target or a slew rate changes, the phase applied so far is kept (R64). -/
def Dev.wordBefore (d : Dev) (off : Nat) : Dev :=
  let o := (off - 0x20000) / 0x400
  if 0x20000 ≤ off ∧ off < 0x28000 ∧ (off = R.OUTn_PHASE_LO o ∨ off = R.OUTn_PHASE_LO o + 4 ∨ off = R.OUTn_PH_SLEW o) then d.phaseRebase o else d

/-- A register word takes a new live value. -/
def Dev.wordLive (d : Dev) (off : Nat) (w : Word) : Dev :=
  ((d.wordBefore off).setWord off w).wordHook off (d.word off)

/-- A phase target becomes live; its command answers the duration of the slew in µs, one that is no whole number rounded down or up (R63; DESIGN CHOICE, log 64). -/
def Dev.phaseLive (d : Dev) (o target : Nat) (slew cid : Option Nat) (k : Nat) : Dev :=
  let d1 := (d.phaseRebase o).set64 (R.OUTn_PHASE_LO o) target
  let d2 := match slew with
    | some v => d1.set (F.OUTn_PH_SLEW.PH_SLEW o) v
    | none => d1
  let left := if (d2.outOf o).st.moving then (d2.phTarget o - (d2.outOf o).applied).natAbs else 0
  let up := if left % d2.phSlew o = 0 then 0 else d.freeVal 1
  d2.fresh.finishCid cid .ok (min 0xFFFFFFFF (left / d2.phSlew o + up)) k

/-- A speed trim becomes live (R155); a sum beyond 64 bits is free (DESIGN CHOICE, log 23). -/
def Dev.trimLive (d : Dev) (s : Nat) (rel : Bool) (trim : Int) (rate : Nat) : Dev :=
  let x := d.shaftOf s
  d.fresh.setShaft s { x with trim := if rel then signedN 64 (d.fitS 64 (x.trim + trim)) else trim, trimRate := if rate = 0 then x.trimRate else rate }

/-- An offset target becomes live (R172); a sum beyond 64 bits is free (DESIGN CHOICE, log 23). -/
def Dev.folOffsetLive (d : Dev) (f : Nat) (rel : Bool) (target : Int) (rate : Option Nat) : Dev :=
  let x := d.folOf f
  let t := if rel then signedN 64 (d.fitS 64 (x.offTarget + target)) else target
  d.fresh.setFol f { x with offTarget := t, offRate := rate.getD x.offRate }

/-- A shaft's window shows a change that becomes live while no tick runs (R168; DEDUCED, log 172). -/
def Dev.shaftIdle (d : Dev) (s : Nat) : Dev := if d.tick.running then d else d.shaftShow s

/-- One change becomes live at boundary `k`, 0 where no tick runs (R135, R136). -/
def Dev.applyChange (d : Dev) (k : Nat) (c : Change) : Dev :=
  match c with
  | .done => d
  | .word off mask val => d.wordLive off ((d.word off &&& ~~~mask) ||| (val &&& mask))
  | .phase o target slew cid => d.phaseLive o target slew cid k
  | .model n => d.modelRestored n
  | .shaftCfg s cfg target rate preset => (d.setShaft s ((d.shaftOf s).configure cfg target rate preset)).shaftIdle s
  | .shaftTarget s target => (d.shaftTo s ((d.shaftOf s).retarget target) 0).shaftIdle s
  | .shaftTrim s rel trim rate => (d.trimLive s rel trim rate).shaftIdle s
  | .folBind f b => d.folBindLive f b
  | .folOffset f rel target rate => d.folOffsetLive f rel target rate
  | .folLimits f warn trip miss act => d.setFol f { d.folOf f with warn := warn, trip := trip, missLimit := miss, tripAct := act }
  | .cam c => d.camLive c
  | .grpCfg g mask cls latMode => d.grpCfgLive g mask cls latMode
  | .grpLatency g latency margin => d.grpLatencyLive g latency margin
  | .grpWant g want => d.setGrp g { d.grpOf g with want := want }
  | .ptpPort p _ p2p ext asym => d.portCfgLive p p2p ext asym

/-- A change of what bank A holds: shafts, followers, cams and groups. -/
def Change.bankA : Change → Bool
  | .done => false
  | .word _ _ _ => false
  | .phase _ _ _ _ => false
  | .model _ => false
  | .shaftCfg _ _ _ _ _ => true
  | .shaftTarget _ _ => true
  | .shaftTrim _ _ _ _ => true
  | .folBind _ _ => true
  | .folOffset _ _ _ _ => true
  | .folLimits _ _ _ _ _ => true
  | .cam _ => true
  | .grpCfg _ _ _ _ => true
  | .grpLatency _ _ _ => true
  | .grpWant _ _ => true
  | .ptpPort _ _ _ _ _ => false

/-- A change becomes live, and the command that waits for it completes (R136). -/
def Dev.applyOne (k : Nat) (d : Dev) (b : Buffered) : Dev :=
  let d1 := d.applyChange k b.change
  (if b.change.bankA then d1.sramSome 0 else d1).finishCid b.cid .ok 0 k

/-! ### Schedule settings (R130) -/

/-- A change of a schedule register. -/
def Buffered.isSched (b : Buffered) : Bool :=
  match b.change with
  | .word off _ _ => decide (off = R.TICK_SCHED0) || decide (off = R.TICK_SCHED1)
  | _ => false

/-- Whether a set of schedule settings is valid for a period (R130). -/
def schedValid (fbCut cs pub margin num den : Nat) : Bool :=
  let csOff := num * cs / (1000 * den)
  let pubOff := num * pub / (1000 * den)
  decide (fbCut ≤ cs) && decide (50 ≤ cs) && decide (cs ≤ 800) && decide (pub ≤ 950) && decide (100 ≤ margin) && decide (margin ≤ 10000) &&
    decide (csOff + (2 * margin + 1000) * 65536 ≤ pubOff) && decide ((pubOff + 1250 * 65536) * den ≤ num)

/-- The schedule words that a list of changes leads to. -/
def Dev.schedWords (d : Dev) (l : List Buffered) : Word × Word :=
  l.foldl (fun w b => match b.change with
    | .word off mask val =>
      if off = R.TICK_SCHED0 then ((w.1 &&& ~~~mask) ||| (val &&& mask), w.2) else (w.1, (w.2 &&& ~~~mask) ||| (val &&& mask))
    | _ => w) (d.word R.TICK_SCHED0, d.word R.TICK_SCHED1)

/-- Whether the settings of two schedule words are valid for a period. -/
def wordsValid (w : Word × Word) (num den : Nat) : Bool :=
  schedValid (F.TICK_SCHED0.FB_CUT.ofWord w.1) (F.TICK_SCHED0.CS.ofWord w.1) (F.TICK_SCHED1.PUB.ofWord w.2) (F.TICK_SCHED1.PUB_MARGIN.ofWord w.2) num den

/-- The schedule settings that wait are checked: they become live, or stay pending; the first failure of an episode is reported (R130). -/
def Dev.applySched (d : Dev) (k : Nat) (l : List Buffered) : Dev :=
  let all := d.schedPend ++ l
  if all.isEmpty then d
  else if wordsValid (d.schedWords all) d.tick.num d.tick.den then
    all.foldl (Dev.applyOne k) { d with schedPend := [], tick := { d.tick with schedRej := false } }
  else
    let d1 := { d with schedPend := all }
    if d.tick.schedRej then d1
    else (({ d1 with tick := { d1.tick with schedRej := true } }).raise F.TICK_EVENT2.SCHED_REJECTED).eventLimited 0x061 [(8, k)]

/-- Changes become live in the order of their arrival, schedule settings among them as one set. -/
def Dev.applyList (d : Dev) (k : Nat) (l : List Buffered) : Dev :=
  ((l.filter fun b => !b.isSched).foldl (Dev.applyOne k) d).applySched k (l.filter Buffered.isSched)

/-! ### Snapshots (R247) -/

/-- The state of boundary `k` copied for snapshot `i`. -/
def Dev.snapTake (d : Dev) (k i : Nat) : Dev :=
  match Tbl.get? d.snaps i with
  | none => d
  | some s =>
    let fols := d.fo.fols.keys.filter fun f => !d.folFree f
    let shafts := d.sh.shafts.keys.filter fun x => !d.shaftFree x
    let t := d.tick.bound
    let head := packFields [(4, 0x4E535554), (4, 1), (8, k), (8, secOf t), (4, nsOf t), (2, fracOf t), (2, fols.length), (1, shafts.length),
      (1, d.lineDevice), (4, d.evt.pcc), (8, d.optime), (2, d.lineId)]
    ({ d with snaps := Tbl.put d.snaps i { s with
        header := head ++ List.replicate (256 - head.length) 0, fols := fols,
        shafts := shafts.flatMap fun x => recordBytes (d.shaftRecord x k) leBytes } }).sramWrite 0 (32 + 8 * shafts.length)

/-- The snapshots of tick `k` are complete at its end; their follower records are the windows refreshed in it. -/
def Dev.snapsEnd (d : Dev) (k : Nat) : Dev :=
  d.snaps.keys.foldl (fun d i =>
    match Tbl.get? d.snaps i with
    | some s =>
      if s.k = k ∧ s.header ≠ [] ∧ s.image.isNone then
        let wins := s.fols.flatMap fun f => (List.range 8).flatMap fun j => leBytes 4 (d.folWord f j).toNat
        (({ d with snaps := Tbl.put d.snaps i { s with image := some (s.header ++ wins ++ s.shafts) } }).sramWrite 0 (4 * s.fols.length)).finishWait
          (.snapshot i) .ok (d.handle 9 i) k
      else d
    | none => d) d

/-! ### The tick in progress -/

/-- Device time passes until an offset after T0 of the tick in progress, in 2^-16 ns. -/
def Dev.toPoint (d : Dev) (off : Nat) : Dev := d.tillTod ((d.tick.bound + off) * 2 ^ 32)

/-- Compute complete after T0, in 2^-16 ns (R129). -/
def Dev.compOff (d : Dev) : Nat := d.pubOff - d.get F.TICK_SCHED1.PUB_MARGIN * 65536

/-- The event bit of a kind of miss, and its counter. -/
def missBit (kind : Nat) : Fld := ⟨R.TICK_EVENT, 8 * (kind - 1), 1⟩
def missCount (kind : Nat) : Nat := R.TICK_FB_MISS_COUNT + 4 * (kind - 1)

/-- A deadline miss is noted: its event bit, its counter and its index (R132). -/
def Dev.missNote (d : Dev) (kind : Nat) : Dev :=
  let d1 := { d with tick := { d.tick with missed := kind :: d.tick.missed }, trigs := d.trigs ++ [3] }
  ((d1.raise (missBit kind)).count (missCount kind) 1).set64 R.TICK_MISS_INDEX_LO d.tick.index

/-- A deadline miss with its message, at most once per kind in a tick (R132). -/
def Dev.tickMiss (d : Dev) (kind : Nat) : Dev :=
  if d.tick.missed.contains kind then d else (d.missNote kind).sendFault srcTick kind .u d.tick.index

/-- The path-delay samples of a tick are kept as its feedback closes (R175). -/
def Dev.samplesKeep (d : Dev) : Dev :=
  { d with fo := { d.fo with grps := d.fo.grps.each fun _ x =>
      if x.sample.isEmpty then x else { x with samples := (x.sample :: x.samples).take 64, sample := [] } } }

/-- The feedback cutoff (Table 6-3, R182): followers without feedback are counted; `left` are those whose frames were not evaluated. -/
def Dev.doCutoff (d : Dev) (left : List Nat) : Dev :=
  if !d.tickLive ∨ d.tick.cutDone then d
  else
    let d1 := { d with tick := { d.tick with cutDone := true } }
    if d.glb.mode.publishes then
      let d2 := (d1.fo.fols.keys.foldl Dev.folAbsent d1).samplesKeep
      if left.isEmpty then d2 else d2.tickMiss 1
    else d1

/-- The compute-start point: shafts advance, whatever the mode, and their windows follow (R144, R168); followers are computed and frames assembled where the device publishes
(R170, R195, R209, Table 1-7). -/
def Dev.doCompute (d : Dev) : Dev :=
  if !d.tickLive ∨ d.tick.phase ≠ 1 then d
  else
    let d1 := d.doCutoff []
    let d2 := { d1 with tick := { d1.tick with phase := 2 } }
    let d3 := d2.advanceShafts
    if d.glb.mode.publishes then (((d3.folComputeAll).ssFrames).groupFrames).sramSome 0 else d3

/-- Followers that are computed in a tick. -/
def Dev.computing (d : Dev) (f : Nat) : Bool :=
  let x := d.folOf f
  decide (x.st = .running) && decide (x.lock ≠ 1) && x.bind.isSome

/-- Followers that were not computed: with a shaft that did not advance, none was (R160; DEDUCED, log 65). -/
def Dev.uncomputed (d : Dev) (w : ComputeWork) : List Nat :=
  if w.shaftsLeft.isEmpty then w.followersLeft.filter d.computing else d.fo.fols.keys.filter d.computing

/-- The groups with a follower of a list whose frame still waits. -/
def Dev.groupsOf (d : Dev) (left : List Nat) : List Nat :=
  d.fo.grps.keys.filter fun g =>
    ((d.members g).any fun f => left.contains f) &&
      d.link.queue.any fun (f : LinkFrame) => decide (f.kind = FrameKind.pub g) && decide (f.k = d.tick.index)

/-- The frame of a group is not assembled and not sent (Table 6-3). -/
def Dev.dropGroup (d : Dev) (g : Nat) : Dev :=
  ({ d with link := { d.link with queue := d.link.queue.filter fun (f : LinkFrame) => decide (f.kind ≠ FrameKind.pub g) } }).groupMiss g

/-- A compute miss whose message is TRUNCATED in place of COMPUTE (R132, R134). -/
def Dev.truncate (d : Dev) (left : List Nat) : Dev :=
  let d1 := (d.groupsOf left).foldl (fun d g => d.reframe g left) (d.missNote 2)
  ((d1.raise F.TICK_EVENT2.TRUNCATED).count R.TICK_TRUNC_COUNT left.length).sendFault srcTick 0x05 .c d.tick.index

/-- The work that compute complete finds: its followers not computed, and what follows from them (Table 6-3, R134, R160). -/
def Dev.computeCheck (d : Dev) (w : ComputeWork) : Dev × List Nat × Bool :=
  let left := d.uncomputed w
  if !d.glb.mode.publishes ∨ (left.isEmpty ∧ w.shaftsLeft.isEmpty) then (d, [], false)
  else
    let d0 := w.shaftsLeft.foldl Dev.unfinishedShaft d
    let d1 := left.foldl Dev.folUndo (if w.shaftsLeft.isEmpty then d0 else d0.ssAnew)
    if d.glb.mode = .degraded ∧ d.bit F.TICK_CTRL.DEG_HOLD then (d1.truncate left, left, true)
    else (((d1.groupsOf left).foldl Dev.dropGroup d1).tickMiss 2, [], true)

/-- A free end of work, no later than a limit in ns (DESIGN CHOICE, log 2). -/
def Dev.freeEnd (d : Dev) (limit : Nat) : Nat := min 0xFFFFFE (d.freeTo limit)

/-- Compute complete: the check, the windows, the trace (R131, R198, R303). -/
def Dev.doComplete (d : Dev) (w? : Option ComputeWork) : Dev :=
  if !d.tickLive ∨ d.tick.compEnd.isSome ∨ 2 < d.tick.phase then d
  else
    let d0 := d.doCompute
    let lim := d0.compOff / 65536
    let w := w?.getD ⟨[], [], d0.freeEnd lim⟩
    let r := (if w?.isSome then d0 else d0.fresh).computeCheck w
    let d1 := r.1.folRefresh.traceTick r.2.1
    { d1 with tick := { d1.tick with compEnd := some (if r.2.2 then 0xFFFFFF else min w.endNs lim) } }

/-- The line frames that wait are discarded (R23, R162, R186, R208, R215, R219). -/
def Dev.discardFrames (d : Dev) : Dev :=
  let gone := d.link.queue.filter fun (f : LinkFrame) => f.kind.line
  let d1 := { d with link := { d.link with queue := d.link.queue.filter fun (f : LinkFrame) => !f.kind.line } }
  gone.foldl (fun d f => match f.kind with
    | .pub g => d.groupMiss g
    | .shaft => d
    | .ptpEvent => d
    | .ptpGeneral => d
    | .tsync => d
    | .response => d) d1

/-- The publish deadline (Table 6-3). -/
def Dev.doPublish (d : Dev) (ended? : Option Nat) : Dev :=
  if !d.tickLive ∨ 2 < d.tick.phase then d
  else
    let d0 := d.doComplete none
    let lim := d0.pubOff / 65536
    let late := (d0.link.queue.any fun (f : LinkFrame) => f.kind.line) && d0.linkUp && decide (d0.lineId ≠ 0)
    let e := ended?.getD (d0.freeEnd lim)
    let d1 := (if ended?.isSome then d0 else d0.fresh).discardFrames
    let d2 := { d1 with tick := { d1.tick with phase := 3, pubEnd := some (if late then 0xFFFFFF else min e lim) } }.calOpen
    if late then d2.tickMiss 3 else d2

/-- The calibration window of the gap closes (R83): it lasted from the publish deadline to 250 ns before the boundary. -/
def Dev.calGap (d : Dev) : Dev :=
  if d.tickLive then d.calWindow (d.tick.num / d.tick.den - 250 * 65536 - d.pubOff) else d

/-- Gap-work complete: the apply window opens; a miss holds back what waits (Table 6-3, R135). -/
def Dev.doGap (d : Dev) (staged : Bool) : Dev :=
  if !d.tick.running ∨ d.tick.phase = 4 then d
  else
    let d0 := d.doPublish none
    let d1 := ({ d0 with tick := { d0.tick with phase := 4 } }).calGap
    if d1.tickLive ∧ !staged then ({ d1 with tick := { d1.tick with gapMiss := true } }).tickMiss 4 else d1

/-! ### Rows within a tick -/

/-- FEEDBACK_CUTOFF (R131). -/
def feedbackCutoff (left : List Nat) (d : Dev) : Dev :=
  if d.tickLive ∧ !d.tick.cutDone then (d.toPoint d.fbCutOff).doCutoff left else d

/-- COMPUTE_START (R144). -/
def computeStart (d : Dev) : Dev :=
  if d.tickLive ∧ d.tick.phase = 1 then (d.toPoint d.csOff).doCompute else d

/-- COMPUTE_COMPLETE (R131, R134, R160). -/
def computeComplete (w : ComputeWork) (d : Dev) : Dev :=
  if d.tickLive ∧ d.tick.compEnd.isNone ∧ d.tick.phase ≤ 2 then (d.doCompute.toPoint d.compOff).doComplete (some w) else d

/-- PUBLISH_DEADLINE (R131). -/
def publishDeadline (endNs : Nat) (d : Dev) : Dev :=
  if d.tickLive ∧ d.tick.phase ≤ 2 then ((d.doComplete none).toPoint d.pubOff).doPublish (some endNs) else d

/-- The instant of the coming boundary, in 2^-16 ns of ToD (R124). -/
def Dev.nextTime (d : Dev) : Nat := d.gridTime d.tick.nextK

/-- GAP_WORK_COMPLETE (R129, R131). -/
def gapWorkComplete (staged : Bool) (d : Dev) : Dev :=
  if d.tick.running ∧ d.tick.phase ≠ 4 then ((d.doPublish none).tillTod ((d.nextTime - 250 * 65536) * 2 ^ 32)).doGap staged else d

/-! ### Field tick outputs (R348, R349) -/

/-- Whether the start of FTICKn lies too late in a tick of the period in force (R348). -/
def Dev.offsetLate (d : Dev) (n : Nat) : Bool :=
  decide (d.tick.num < (min 7999900 (d.get (F.FIELDn_OFFSET.OFFSET n)) + 150) * 65536 * d.tick.den)

/-- Whether the start of FTICKn lies later than 150 ns before the boundary that ends the tick in progress, be it shorter than the period (R115, R348). -/
def Dev.startLate (d : Dev) (n : Nat) : Bool :=
  decide (d.nextTime < d.tick.bound + (min 7999900 (d.get (F.FIELDn_OFFSET.OFFSET n)) + 150) * 65536)

/-- FIELD_STATUS.OFFSET_LATE: of the outputs that are enabled. -/
def Dev.lateMask (d : Dev) : Nat :=
  ((List.range 8).filter fun n => d.bit (F.FIELDn_CTRL.EN n) && d.offsetLate n).foldl (fun m n => m + 2 ^ n) 0

/-- FTICKn active, or not. -/
def Dev.fieldLevel (d : Dev) (n : Nat) (on : Bool) : Dev := d.set ⟨R.FIELD_STATUS, n, 1⟩ (b2n on)

/-- FTICK_PULSE: the pulse of a selected tick begins OFFSET after its boundary (R348). -/
def ftickPulse (n : Nat) (d : Dev) : Dev :=
  let div := max 1 (d.get (F.FIELDn_DIV.DIV n))
  if n < 8 ∧ d.bit (F.FIELDn_CTRL.EN n) ∧ d.domainOn 21 ∧ d.tick.running ∧ !d.offsetLate n ∧ !d.startLate n ∧
      d.tick.index % div = d.get (F.FIELDn_DIV.PHASE n) % div ∧ Tbl.get? d.field.last n ≠ some d.tick.index then
    let d1 := d.toPoint (min 7999900 (d.get (F.FIELDn_OFFSET.OFFSET n)) * 65536)
    { d1 with field := ⟨Tbl.put d1.field.pulses n d1.now, Tbl.put d1.field.last n d1.tick.index⟩ }.fieldLevel n true
  else d

/-- FTICK_PULSE_END: after WIDTH, or 50 ns before the next boundary (R348). -/
def ftickPulseEnd (n : Nat) (d : Dev) : Dev :=
  if (Tbl.get? d.field.pulses n).isSome then
    let width := min 1000000 (max 100 (d.get (F.FIELDn_WIDTH.WIDTH n)))
    let t := min (d.tick.bound + (min 7999900 (d.get (F.FIELDn_OFFSET.OFFSET n)) + width) * 65536) (d.nextTime - 50 * 65536)
    let d1 := d.tillTod (t * 2 ^ 32)
    { d1 with field := { d1.field with pulses := Tbl.del d1.field.pulses n } }.fieldLevel n false
  else d

/-- OVERCURRENT: an output at its limit for 100 µs is turned off (R349). (DESIGN CHOICE, log 99) -/
def overcurrent (n : Nat) (d : Dev) : Dev :=
  if n < 8 ∧ d.bit (F.FIELDn_CTRL.EN n) ∧ d.glb.mode ≠ .halt then
    let d1 := (d.set (F.FIELDn_CTRL.EN n) 0).fieldLevel n false
    let d2 := { d1 with field := { d1.field with pulses := Tbl.del d1.field.pulses n } }
    (d2.raise ⟨R.FIELD_EVENT0 + 4 * (n / 4), 8 * (n % 4), 1⟩).sendFault 0x067 0x01 .u n
  else d

/-- Every pulse has ended by the boundary (R348). -/
def Dev.fieldClose (d : Dev) : Dev := ({ d with field := { d.field with pulses := [] } }).set F.FIELD_STATUS.LEVEL 0

/-! ### The boundary -/

/-- LAST_COMPUTE_END, LAST_PUBLISH_END and MAX_PUBLISH_END of the tick that ends. -/
def Dev.endsShow (d : Dev) : Dev :=
  if d.tickLive then
    let p := d.tick.pubEnd.getD 0
    let d1 := (d.setWord R.TICK_LAST_COMPUTE_END (BitVec.ofNat 32 (d.tick.compEnd.getD 0))).setWord R.TICK_LAST_PUBLISH_END (BitVec.ofNat 32 p)
    if d.get F.TICK_MAX_PUBLISH_END.MAX_END < p then d1.set F.TICK_MAX_PUBLISH_END.MAX_END p else d1
  else d.samplesKeep

/-- The tick in progress ends: what is still to be checked in it is checked, and its snapshots are complete (R131, R247). -/
def Dev.tickClose (d : Dev) : Dev :=
  if d.tick.running then (((d.doGap true).endsShow).fieldClose).snapsEnd d.tick.index else d

/-- The epoch rewrite of a period change at boundary `k` (R127, R128). -/
def Dev.periodChange (d : Dev) (q : PeriodReq) (k : Nat) : Dev :=
  let t := d.tick
  let a := (d.time.epoch * t.den + t.epochRem + k * t.num) * q.den / t.den - k * q.num
  let d1 := { d with time := { d.time with epoch := a / q.den },
                     tick := { t with num := q.num, den := q.den, epochRem := a % q.den, perReq := none } }
  let d2 := (d1.closeAll false).raise F.TICK_EVENT2.PERIOD_CHANGED
  (d2.eventFree 0x060 ([(8, k), (8, t.num), (2, t.den), (2, q.den), (8, q.num)] ++ todFields (a / q.den) ++ [(2, a % q.den)])).finishCid q.cid .ok 0 k

/-- Order 1 of Table 6-4: a pending step, or the epoch rewrite of a period change. -/
def Dev.boundStep (d : Dev) (k : Nat) : Dev :=
  let d1 := match d.time.stepReq with
    | some q => if q.k ≤ k then (d.closeAll false).applyStep q (d.gridTime k) (some k) else d
    | none => d
  match d1.tick.perReq with
  | some q => if q.k ≤ k then d1.periodChange q k else d1
  | none => d1

/-- A new epoch takes effect: the transitional tick `k` opens at `bound` (R115). (DEDUCED, log 106) -/
def Dev.epochTake (d : Dev) (e : Nat) (cid : Option Nat) (k bound : Nat) : Dev :=
  let first := d.firstFull e
  { d.closeAll false with time := { d.time with epoch := e }, tick := { d.tick with
      transitional := true, epochReq := none, epochLive := true, epochCid := cid, epochRem := 0, index := k, nextK := first, bound := bound } }

/-- The first full tick on a new epoch opens: its command completes (R115). -/
def Dev.epochDone (d : Dev) (k : Nat) : Dev :=
  if d.tick.epochLive then
    let d1 := { d with tick := { d.tick with epochLive := false, epochCid := none, transitional := false } }
    (d1.eventFree 0x052 (todFields d.time.epoch ++ [(8, k)])).finishCid d.tick.epochCid .ok 0 k
  else d

/-- Order 2 of Table 6-4: the new epoch, and the index of the tick that opens. -/
def Dev.boundIndex (d : Dev) (k : Nat) : Dev :=
  let b := d.gridTime k
  match d.tick.epochReq with
  | some (e, cid) => d.epochTake e cid k b
  | none => ({ d with tick := { d.tick with index := k, nextK := k + 1, bound := b } }).epochDone k

/-- The place of an armed operation in order 4 of Table 6-4; FOL_CLEAR and TICK_WAIT follow (DEDUCED, log 66). -/
def ArmOp.rank : ArmOp → Nat
  | .chStop _ => 0 | .chStart _ => 1 | .rampStart _ => 2 | .lineStop _ => 3 | .shaftStop _ => 3 | .lineStart => 4 | .shaftStart _ => 4
  | .folStop _ => 5 | .folStart _ => 6 | .folClear _ => 7 | .streamStop _ => 8 | .streamStart _ => 9 | .snapshot _ => 10 | .tickWait => 11

/-- An armed operation is carried out at its boundary `k` (R137). -/
def Dev.armedGo (k : Nat) (d : Dev) (a : Armed) : Dev :=
  match a.op with
  | .chStop o => d.chStopAt o k
  | .chStart o => d.chStartAt o k
  | .rampStart n => d.rampStartAt n k a.cid
  | .lineStop quick => d.lineStopAt k quick a.cid
  | .shaftStop s => d.shaftStopAt k s
  | .lineStart => d.lineStartAt k a.cid
  | .shaftStart s => d.shaftStartAt k s
  | .folStop f => d.folStopAt k f
  | .folStart f => d.folStartAt k f
  | .folClear f => (d.folClearAt f).finishCid a.cid .ok 0 k
  | .streamStop s => d.streamStopAt k s
  | .streamStart s => d.streamStartAt k s
  | .snapshot i => d.snapTake k i
  | .tickWait => d.finishCid a.cid .ok (k % 2 ^ 32) (d.tick.bound / 65536 % 2 ^ 48)

/-- Order 4 of Table 6-4. (DEDUCED, log 107) -/
def Dev.boundArmed (d : Dev) (k : Nat) : Dev :=
  let mine := d.armed.filter fun a => decide (a.k = k)
  let d1 := { d with armed := d.armed.filter fun a => decide (a.k ≠ k) }
  (List.range 12).foldl (fun d r =>
    let d2 := (mine.filter fun a => decide (a.op.rank = r)).foldl (Dev.armedGo k) d
    if r = 1 then d2.chLateStarts k else d2) d1

/-- The object that a command's change or an armed operation is about, by handle type and index (R236). -/
def Change.object : Change → Option (Nat × Nat)
  | .phase o _ _ _ => some (1, o)
  | .shaftTarget s _ => some (3, s)
  | .shaftTrim s _ _ _ => some (3, s)
  | .folBind f _ => some (4, f)
  | .folOffset f _ _ _ => some (4, f)
  | .folLimits f _ _ _ _ => some (4, f)
  | _ => none

def ArmOp.object : ArmOp → Option (Nat × Nat)
  | .chStop o => some (1, o)
  | .chStart o => some (1, o)
  | .shaftStop s => some (3, s)
  | .shaftStart s => some (3, s)
  | .folStop f => some (4, f)
  | .folStart f => some (4, f)
  | .folClear f => some (4, f)
  | _ => none

/-- The command that a change completes. -/
def Buffered.owner (b : Buffered) : Option Nat :=
  match b.change with
  | .phase _ _ _ cid => cid
  | _ => b.cid

/-- Whether a command in progress waits for an armed operation. -/
def Dev.armedBy (d : Dev) (a : Armed) (t : Ticket) : Bool :=
  decide (a.cid = some t.cid) || (match a.op with
    | .chStop o => decide (t.wait = .chStop o)
    | .chStart o => decide (t.wait = .chStart o)
    | .shaftStop s => decide (t.wait = .shaftStop s)
    | .folStop f => decide (t.wait = .folStop f)
    | .shaftStart s => (d.shaftOf s).start?.any fun z => decide (z.cid = some t.cid)
    | .folStart f => (d.folOf f).start?.any fun z => decide (z.cid = some t.cid)
    | _ => false)

/-- Whether a command's change must wait at boundary `k` for an operation that an earlier command of its source armed on the same object: it becomes live at the
boundary after that of the operation (R236; DEDUCED, log 203). -/
def Dev.waitsTurn (d : Dev) (k : Nat) (b : Buffered) : Bool :=
  b.change.object.isSome && (d.cmd.inProgress.any fun t => decide (b.owner = some t.cid) &&
    (d.armed.any fun a => decide (k ≤ a.k) && decide (a.op.object = b.change.object) &&
      (d.cmd.inProgress.any fun u => decide (u.src = t.src) && decide (u.cid < t.cid) && d.armedBy a u)))

/-- Order 3 of Table 6-4: what waits becomes live, unless its turn has not come or a GAP miss defers it, and with it the starts of calibration runs and their ends by
CAL_ABORT. (DEDUCED, log 108) -/
def Dev.boundApply (d : Dev) (k : Nat) : Dev :=
  if d.tick.gapMiss then [0, 1, 2, 3].foldl Dev.calPass { d with pendNow := d.pendNow ++ d.pendLate, pendLate := [] }
  else
    let go := d.pendNow.filter fun b => !d.waitsTurn k b
    let d1 := ({ d with pendNow := d.pendNow.filter (d.waitsTurn k) ++ d.pendLate, pendLate := [] }).applyList k go
    ([0, 1, 2, 3].foldl (fun d n => d.calBoundary k n) d1).grpLatchAll

/-- What a tick has seen of each follower is forgotten (R182). -/
def Dev.boundClear (d : Dev) : Dev :=
  { d with fo := { d.fo with fols := d.fo.fols.each fun _ x => { x with seen := false, present := false, evald := false } },
           tick := { d.tick with running := true, phase := 1, startK := none, gapMiss := false, missed := [], cutDone := false,
                                 compEnd := none, pubEnd := none } }

/-- Boundary `k` opens (R137): the actions of Table 6-4 in their order. -/
def Dev.boundary (d : Dev) (k : Nat) : Dev :=
  let d1 := d.tickClose.coreReturn
  let d2 := (d1.boundStep k).boundIndex k
  let d3 := ((d2.shaftEnds k).folEnds k).boundApply k
  ((d3.boundArmed k).saveSnap).boundClear

/-- The boundary that comes next: that of the tick in progress, or the one at which the tick starts (R125, R126). -/
def Dev.comingK (d : Dev) : Option Nat := if d.tick.running then some d.tick.nextK else d.tick.startK

/-- The index that the coming boundary opens, where it opens one: never one that is not greater than the last (R110, R125). -/
def Dev.opensK (last : Option Nat) (d : Dev) : Option Nat :=
  if d.glb.mode = .halt then none else d.comingK.filter fun k => last.all fun l => decide (l < k)

/-- TICK_BOUNDARY: the coming boundary opens at its instant (R124, R137). -/
def Dev.tickBoundary (last : Option Nat) (d : Dev) : Dev :=
  match d.opensK last with
  | some k => (d.tillTod (d.gridTime k * 2 ^ 32)).boundary k
  | none => d

/-- The first boundary that may open while the tick does not run: ToD has been valid since reset (R105, R126). -/
def Dev.tickStart (d : Dev) : Dev :=
  let k := if d.tick.running ∨ !d.time.everValid ∨ d.glb.mode = .halt ∨ d.tick.num = 0 ∨ d.tick.den = 0 then none
    else some (d.tick.startK.getD (d.firstFull d.time.epoch))
  { d with tick := { d.tick with startK := k } }

/-- What waits becomes live at once while the tick does not run (R255). -/
def Dev.applyIdle (d : Dev) : Dev :=
  if d.tick.running ∨ (d.pendNow = [] ∧ d.pendLate = [] ∧ d.schedPend = []) then d
  else ({ d with pendNow := [], pendLate := [] }).applyList 0 (d.pendNow ++ d.pendLate)

/-! ### Commands -/

/-- TICK_STATUS as a register. -/
def Dev.tickStatusWord (d : Dev) : Nat :=
  let t := d.tick
  b2n t.running + 2 * b2n t.transitional + 4 * b2n t.perReq.isSome + 8 * b2n t.schedRej + 16 * t.phase + 128 * b2n (t.epochReq.isSome || t.epochLive)

/-- TICK_STATUS (R142, Table 10-6). -/
def tickStatusSpec : CmdSpec where
  opcode := 0x0400
  params := [pu 8 64]
  hostAddr := some 0
  run := fun c _ d =>
    d.toHost c (c.p 0)
      (packBlock [(8, d.tick.index), (8, d.tick.num), (2, d.tick.den), (2, d.get F.TICK_SCHED0.FB_CUT), (2, d.get F.TICK_SCHED0.CS),
        (2, d.get F.TICK_SCHED1.PUB), (2, d.get F.TICK_SCHED1.PUB_MARGIN), (1, d.get F.TICK_CTRL.DEG_HOLD), (4, d.tickStatusWord)])
      (.ok d.tickStatusWord d.tick.index)

/-- A period that the device accepts (R123). -/
def periodOk (num den : Nat) : Bool :=
  decide (den ≠ 0) && decide (num < 2 ^ 56) && decide (1024000000 * den ≤ num) && decide (num ≤ 524288000000 * den)

/-- Whether the rewritten epoch is held exactly, and is not negative (R128; DEDUCED, log 67). -/
def Dev.periodFits (d : Dev) (num den k : Nat) : Bool :=
  let t := d.tick
  let a := d.time.epoch * t.den + t.epochRem + k * t.num
  decide (den * (t.epochRem + k * t.num) % t.den = 0) && decide (k * num * t.den ≤ a * den)

/-- TICK_PERIOD_SET (R127, R128). -/
def tickPeriodSetSpec : CmdSpec where
  opcode := 0x0401
  params := [pu 8 64, pu 2 16, pu 8 64]
  checks := fun c d =>
    [(.state, d.anyShaft || d.tickBusy),
     (.range, !periodOk (c.p 0) (c.p 1) || !wordsValid (d.word R.TICK_SCHED0, d.word R.TICK_SCHED1) (c.p 0) (c.p 1) ||
       (d.tick.running && !d.periodFits (c.p 0) (c.p 1) (c.p 2))),
     (.deadline, d.tick.running && d.tooNear (c.p 2))]
  waits := fun _ d => d.tick.running
  run := fun c cid d =>
    if d.tick.running then ({ d with tick := { d.tick with perReq := some ⟨c.p 0, c.p 1, c.p 2, some cid⟩ } }, .wait .armed 0 0)
    else ({ d with tick := { d.tick with num := c.p 0, den := c.p 1, epochRem := 0, startK := none } }, .ok 0 0)

/-- TICK_SCHED_SET (R130). -/
def tickSchedSetSpec : CmdSpec where
  opcode := 0x0402
  params := [pu 2 10, pu 2 10, pu 2 10, pu 2 14, pu 1 1]
  checks := fun c d => [(.range, !schedValid (c.p 0) (c.p 1) (c.p 2) (c.p 3) d.tick.num d.tick.den)]
  waits := fun _ d => d.tick.running
  run := fun c cid d =>
    let deg := chg F.TICK_CTRL.DEG_HOLD (c.p 4)
    let s0 := Change.word R.TICK_SCHED0 (BitVec.allOnes 32) (BitVec.ofNat 32 (c.p 0 + 65536 * c.p 1))
    let s1 := Change.word R.TICK_SCHED1 (BitVec.allOnes 32) (BitVec.ofNat 32 (c.p 2 + 65536 * c.p 3))
    (([deg, s0, s1].foldl Dev.pendChange d).arrive [⟨deg, none⟩, ⟨s0, none⟩, ⟨s1, some cid⟩], .wait .live 0 0)

/-- TICK_WAIT (R142). -/
def tickWaitSpec : CmdSpec where
  opcode := 0x0403
  params := [pu 8 64]
  checks := fun c d =>
    [(.deadline, d.tick.running && decide (c.p 0 ≤ d.tick.index)), (.range, decide (d.tick.index + 2 ^ 32 < c.p 0))]
  waits := fun _ _ => true
  run := fun c cid d => (d.arm (c.p 0) .tickWait (some cid), .wait .armed 0 0)

def tickStatus (src : Source) (dmaOk : Bool) (d : Dev) : Dev := d.command tickStatusSpec src (dmaOf dmaOk)
def tickPeriodSet (src : Source) (d : Dev) : Dev := d.command tickPeriodSetSpec src none
def tickSchedSet (src : Source) (d : Dev) : Dev := d.command tickSchedSetSpec src none
def tickWait (src : Source) (d : Dev) : Dev := d.command tickWaitSpec src none

end Sys2Proof.Machine
end

