-- ==== Sys2Proof/Machine/Boot.lean ====
section
/-! DEFINITION. Power good, resets and start-up (R283, R324, R334, R342 to R346, R362, R365). -/

namespace Sys2Proof.Machine

/-- SOURCE of BOOT. -/
def srcBoot : Nat := 0x065

/-! ### Resets of the whole device -/

/-- The domains that are never off (Table 15-1): PD00, PD01, PD02, PD05, PD08, PD19 and PD22. -/
def alwaysOn : Word := 0x00480127#32

/-- A Clay clear that is interrupted leaves a prefix of the old records valid (R299); how long it is, is open (DESIGN CHOICE, log 2). (DESIGN CHOICE, log 115) -/
def Dev.clayBroken (d : Dev) : Dev :=
  if d.evt.clearing.isSome then { d.fresh with evt := { d.evt with clay := d.evt.clay.filter fun x => decide (x.1 < d.freeTo 1040) } } else d

/-- A Clay slot that is being programmed is spoilt, or still erased (Table 13-6); whether one was being programmed, and which of the two, is open
(DESIGN CHOICE, log 115). -/
def Dev.clayTorn (d : Dev) : Dev :=
  let slot? := if d.evt.haltQueue ≠ [] then d.haltSlot
    else if d.evt.clayQueue ≠ [] ∧ d.get F.EVT_STATUS.CLAY_USED < 1024 then some (d.get F.EVT_STATUS.CLAY_USED) else none
  match slot? with
  | none => d
  | some s => if d.freeVal 1 = 1 then d.fresh.slotBroken s else d.fresh

/-- A superblock update that is cut off leaves the other superblock valid (Table 13-6); that the slot written is then invalid is the model's choice. An event
block being written is invalid by its CRC (DESIGN CHOICE, log 178). -/
def Dev.storeTorn (d : Dev) : Dev :=
  let s := d.store
  if d.storeState = 0 then d
  else match s.jobs.head? with
  | some (.sb _) => { d with store := { s with sbs := Tbl.del s.sbs d.sbNext } }
  | some (.fmt _) => { d with store := { s with sbs := Tbl.del s.sbs d.sbNext } }
  | some (.block pos b) =>
    let torn := b.take 4092 ++ (slice b 4092 4).map (255#8 - ·)
    { d with store := { s with blocks := Tbl.put s.blocks pos torn } }
  | _ => d

/-- The device after a reset of everything in it (R11, R346): what the flash and the SSD hold stays, the pins stay as they are, and device time goes
on. STO_PERST_N is low again. -/
def Dev.coldReset (d0 : Dev) (b : BootState) : Dev :=
  let d := (d0.saveLost.clayTorn.clayBroken.storeTorn).perstTo false
  { Dev.powerOn with
    regs := resetRegs
    now := d.now
    out := d.out
    free := d.free
    tap := d.tap
    boot := { b with perst := d.boot.perst, perstUp := d.boot.perstUp, ppsIn := d.boot.ppsIn }
    clk := { ClkState.powerOn with aonAt := d.now }
    evt := { EvtState.powerOn with clay := d.evt.clay, ckpt := d.evt.ckpt, optAt := d.now }
    cal := { CalState.powerOn with slots := d.cal.slots }
    store := { StoreState.powerOn with sbs := d.store.sbs, segs := d.store.segs, blocks := d.store.blocks, indexW := d.store.indexW } }

/-- BOOT_SEL, with the reserved code taken as it stands (R342). -/
def Dev.bootSample (d : Dev) (sel : Nat) : Dev := { d with glb := { d.glb with bootSel := sel % 4 } }

/-- The always-on domain leaves reset: CROAK drives low and its half-periods begin, OSCIN is watched, and the domains that are never off are on
(R284, R331, R340). (DEDUCED, log 117) -/
def Dev.aonStart (d : Dev) : Dev :=
  let d1 := { d with flt := { d.flt with croakOn := true, croakSince := d.clk.aonN, croakBad := 0 },
                     clk := { d.clk with oscSince := some d.now, aonAt := d.now } }
  d1.setWord R.PWR_DOMAIN_STATUS alwaysOn

/-- A step of start-up begins (R344). -/
def Dev.stepTo (d : Dev) (n : Nat) : Dev :=
  { d with glb := { d.glb with step := n }, boot := { d.boot with since := d.now } }

/-- The transition to BOOT that power-on or RST_N makes (R347): CAUSE is start-up, and the mode it leaves is the one in force before; the old mode of a power-on is not
stated, and is BOOT (DESIGN CHOICE, log 207). -/
def Dev.toBoot (d : Dev) (old : Mode) : Dev := { d with glb := { d.glb with mode := old } }.setMode .boot 2 0

/-- The sensors begin to convert at power good, and anew as RST_N rises (R336). -/
def Dev.sensorsStart (d : Dev) : Dev := { d with pwr := { d.pwr with convAt := (List.range 8).map fun s => (s, d.now) } }

/-- POWER_GOOD: the core supplies have been in range for 1 ms (R334). Step 1 begins; RST_N may be high already (R365). -/
def powerGood (rstHigh : Bool) (bootSel : Nat) (d : Dev) : Dev :=
  if d.boot.powered then d
  else
    let d1 := (((d.coldReset { BootState.powerOn with powered := true, rstLow := !rstHigh }).toBoot .boot).stepTo 1).sensorsStart
    if rstHigh then (d1.bootSample bootSel).aonStart else d1

/-- SUPPLY_FALL: VDD_CORE falls below its range, and every output is high impedance (R334). Whether VDD_AON and VDDIO stay is open (R357; DESIGN CHOICE, log 209). -/
def supplyFall (d : Dev) : Dev :=
  if d.boot.powered then
    { d.fresh.coldReset { BootState.powerOn with vddAon := (d.freeVal 2).testBit 0, vddio := (d.freeVal 2).testBit 1 } with tap := TapState.reset }
  else d

/-- Whether a low pulse on a reset input is taken: never below 1 µs, always from 10 µs on, and open in between (R365, DESIGN CHOICE, log 2). (DEDUCED, log 116) -/
def Dev.pulseTaken (d : Dev) (lowNs : Nat) : Bool :=
  decide (1000 ≤ lowNs) && (decide (10000 ≤ lowNs) || decide (d.freeVal 1 = 1))

/-- RST_N_ASSERT: a low pulse resets the whole device, PD00 included (R346, R365); before power good RST_N is ignored. -/
def rstNAssert (lowNs : Nat) (d : Dev) : Dev :=
  if d.boot.powered ∧ !d.boot.rstLow ∧ d.pulseTaken lowNs then
    let d1 := { d with now := d.now + lowNs * perNs }
    let d2 := ((d1.fresh.coldReset { BootState.powerOn with powered := true, rstLow := true }).toBoot d.glb.mode).stepTo 2
    { d2 with glb := { d2.glb with resetCause := 1 } }
  else if d.boot.powered ∧ !d.boot.rstLow then d.fresh
  else d

/-- RST_N_RELEASE: RST_N rises and BOOT_SEL is sampled (R365). -/
def rstNRelease (bootSel : Nat) (d : Dev) : Dev :=
  if d.boot.powered ∧ d.boot.rstLow then
    let d1 := ({ d with boot := { d.boot with rstLow := false, since := d.now } }).bootSample bootSel
    d1.aonStart.sensorsStart
  else d

/-! ### PERST_N (R346, R362, R365) -/

/-- Words of a range of offsets at their reset values. -/
def Dev.resetWords (d : Dev) (lo hi : Nat) : Dev :=
  let inside (o : Nat) : Bool := decide (lo ≤ o) && decide (o < hi)
  { d with regs := (resetRegs.filter fun p => inside p.1).foldl (fun t p => Tbl.put t p.1 p.2) (d.regs.filter fun p => !inside p.1),
           pend := d.pend.filter fun p => !inside p.1 }

/-- The completions of commands of the rings will be discarded (R362). -/
def Ticket.drop (t : Ticket) : Ticket :=
  match t.src with
  | .ring _ => { t with lost := true }
  | .inband => t
  | .list => t

/-- PERST_N: the host endpoint and the CMD block are reset, and the rings are disabled. Commands in progress run on, without completions; the
open pair and the write stage of host function 0 are dropped (R346, R362). (DEDUCED, log 122) Before power good and while RST_N is low the pin has its level all the
same (R365). -/
def perstN (lowNs : Nat) (d : Dev) : Dev :=
  if d.boot.perst then d
  else if d.pulseTaken lowNs then
    if !d.boot.powered ∨ d.boot.rstLow then { d.fresh with boot := { d.boot with perst := true } }
    else
    let d1 := { d.fresh with
      cmd := { d.cmd with rings := [], inProgress := d.cmd.inProgress.map Ticket.drop },
      glb := { d.glb with guards := Tbl.del d.glb.guards 0, stages := Tbl.del d.glb.stages 0 },
      boot := { d.boot with perst := true, hpeUp := false } }
    d1.resetWords 0x4000 0x5000
  else d.fresh

/-- PERST_N rises: the endpoint leaves reset (R365). -/
def perstNRelease (d : Dev) : Dev := if d.boot.perst then { d with boot := { d.boot with perst := false, perstUp := d.now } } else d

/-- Whether configuration requests are answered: 20 ms after the later of the rise of PERST_N and the reset release (R365). -/
def Dev.configAnswered (d : Dev) : Bool :=
  !d.boot.perst && d.boot.released.any fun t => decide (max t d.boot.perstUp + 20 * msec ≤ d.now)

/-- HPE_LINK_DOWN (R362). -/
def hpeLinkDown (d : Dev) : Dev := d.hpeFall

/-- HPE_LINK_UP: the link is in L0 (R362). -/
def hpeLinkUp (d : Dev) : Dev :=
  if d.boot.perst then d
  else ({ d with boot := { d.boot with hpeUp := true, hpeLost := false } }).setLive 0x052 false

/-! ### The boot configuration (R342, R343) -/

/-- What a boot configuration gives. -/
structure BootCfg where
  oscNom   : Nat
  num      : Nat
  den      : Nat
  device   : Nat
  priv     : Bool
  oscSe    : Bool
  pdMask   : Nat
  mac      : Nat
  refWait  : Nat
  timeWait : Nat
  calWait  : Nat
  list     : List (List Byte)
  fixed    : Nat
  deriving DecidableEq, Repr

/-- The defaults of R342. -/
def BootCfg.default : BootCfg :=
  ⟨25000000, 65536000000, 1, 0, false, false, 0xFFFFFF, 0, 0, 0, 0, [], 0⟩

/-- A valid block (R342). -/
def cfgValid (b : List Byte) : Bool :=
  decide (leAt b 0 4 = 0x43425554) && decide (leAt b 4 4 = 1) && decide (leAt b 0x26 2 ≤ 62) && decide (leAt b 0xFFC 1 = 0x5A) &&
    decide (leAt b 0xFF8 4 = crc32 (slice b 0 0xFF8))

/-- The fields of a valid block, each out of its range replaced by its default (R343). -/
def cfgOf (b : List Byte) : BootCfg :=
  let osc := leAt b 0xC 4
  let oscBad := decide (osc < 10000000) || decide (160000000 < osc)
  let num := leAt b 0x10 8
  let den := leAt b 0x18 2
  let perBad := !periodOk num den
  let dev := leAt b 0x1A 1
  let devBad := decide (63 < dev)
  let flags := leAt b 0x1B 1
  let pd := leAt b 0x1C 4
  { oscNom := if oscBad then 25000000 else osc
    num := if perBad then 65536000000 else num
    den := if perBad then 1 else den
    device := if devBad then 0 else dev
    priv := flags.testBit 0
    oscSe := flags.testBit 1
    pdMask := pd % 2 ^ 24
    mac := leAt b 0x20 6
    refWait := leAt b 0x28 4
    timeWait := leAt b 0x2C 4
    calWait := leAt b 0x30 4
    list := (List.range (leAt b 0x26 2)).map fun i => slice b (0x40 + 64 * i) 64
    fixed := b2n oscBad + 2 * b2n perBad + 4 * b2n devBad + 8 * b2n (decide (2 ^ 24 ≤ pd)) }

/-- The configuration that governs: of two valid blocks the one of higher GEN (R342); of equals either, as `tie` says (DESIGN CHOICE, log 118). -/
def bootCfg (sel : Nat) (a b : List Byte) (tie : Bool) : BootCfg :=
  if sel = 2 then BootCfg.default
  else if cfgValid b ∧ (!cfgValid a ∨ leAt a 8 4 < leAt b 8 4 ∨ tie ∧ leAt a 8 4 = leAt b 8 4) then cfgOf b
  else if cfgValid a then cfgOf a
  else BootCfg.default

/-- The fields of a boot configuration take effect (R126, R248, R342, R343). (DEDUCED, log 121) -/
def Dev.cfgLoad (d : Dev) (c : BootCfg) : Dev :=
  let d1 := ((d.set F.REF_OSC_NOM.OSC_NOM c.oscNom).set F.REF_OSC_STATUS.OSC_SE (b2n c.oscSe)).set F.LINK_LINE.DEVICE c.device
  let d2 := d1.set64 R.LINK_MAC_LO c.mac
  { d2 with
    tick := { d2.tick with num := c.num, den := c.den }
    glb := { d2.glb with priv := c.priv, cfgFixed := c.fixed }
    boot := { d2.boot with pdMask := c.pdMask, refWait := c.refWait, timeWait := c.timeWait, calWait := c.calWait }
    cmd := { d2.cmd with list := c.list.map fun b => ⟨b, d.now, 0, 0, 0, 0, false⟩ } }

/-! ### Start-up -/

/-- The BOOT record (Table 13-2). -/
def Dev.bootRecord (d : Dev) : Dev :=
  d.eventFree 0x001 [(1, d.glb.resetCause), (1, d.glb.bootSel), (1, d.get F.GLB_FW_REV.MAJOR), (1, d.get F.GLB_FW_REV.MINOR),
    (2, d.get F.GLB_FW_REV.PATCH), (2, d.get F.EVT_STATUS.CLAY_USED), (2, d.glb.cfgFixed)]

/-- The generation of every object at a boot (R242). -/
def Dev.genBoot (d : Dev) : Dev := { d with baseGen := d.evt.pcc % 255 + 1, gens := [] }

/-- A step of start-up is in progress, and start-up has not failed. -/
def Dev.inStep (d : Dev) (n : Nat) : Bool :=
  decide (d.glb.mode = .boot) && decide (d.glb.step = n) && !d.boot.warm && decide (Tbl.getD d.flt.queues srcBoot [] = [])

/-- A failure of start-up: its message, whose class takes the device into HALT; the flash address is open (R324, R344; DESIGN CHOICE, log 2). (DESIGN CHOICE, log 114) -/
def Dev.bootFail (d : Dev) (kind : Nat) : Dev := (d.fresh).sendFault srcBoot kind .f (d.freeVal 40)

/-- RAIL_CHECK: step 1 ends when VDDA_MS0 to VDDA_MS3, VDD_SWL and VDD_PCIE are in range (R344). It runs with RST_N at either level (R365). -/
def railCheck (good : BitVec 17) (d : Dev) : Dev :=
  if d.boot.powered ∧ d.inStep 1 then
    let d1 := d.set F.PWR_RAIL_STATUS.GOOD good.toNat
    if good &&& 0x7F8#17 = 0x7F8#17 then d1.stepTo 2 else d1
  else d

/-- RESET_RELEASE: step 2 takes 1.0 ms from the rise of RST_N, and follows power good (R344, R365). -/
def resetRelease (d : Dev) : Dev :=
  if d.inStep 2 then
    let d1 := d.till (d.boot.since + msec)
    { d1 with boot := { d1.boot with released := some d1.now } }.stepTo 3
  else d

/-- The image slot that step 3 tries: B first where BOOT_SEL says so, and the other one second (R342, R344). -/
def Dev.bootSlot (d : Dev) : Nat := b2n (d.boot.second != decide (d.glb.bootSel = 1))

/-- IMAGE_COPY: the flash is discovered by its SFDP tables and the slot is copied to bank D, or a read fails (R324, R341, R344). What the slot holds comes with
the row that checks it. -/
def imageCopy (flash : Option FlashInfo) (d : Dev) : Dev :=
  if d.inStep 3 then
    let d1 := d.emit (.flash .sfdp)
    match flash with
    | some f => { d1 with boot := { d1.boot with flash := some f } }.stepTo 4
    | none => d1.bootFail 0x02
  else d

/-- The header is read from the slot in use, and the image after it where the header came (R324, R341; DEDUCED, log 180). -/
def Dev.imageFetch (d : Dev) (header : Option (List Byte)) : Dev :=
  match d.boot.flash with
  | some f =>
    let a := flashImage f d.bootSlot
    let d1 := d.flashRead a imageHeader
    match header with
    | some h => d1.flashRead (a + imageHeader) (imageLen h)
    | none => d1
  | none => d

/-- What the slot in use holds, once it has been read. -/
def Dev.imageRead (d : Dev) (header body : List Byte) : Dev :=
  let d1 := d.imageFetch (some header)
  { d1 with boot := { d1.boot with image := header ++ body } }

/-- The cores start with the image that was verified (R324): its release and BUILD_ID are shown. -/
def Dev.imageStart (d : Dev) : Dev :=
  ((d.setWord R.GLB_FW_REV (BitVec.ofNat 32 (imageRev d.boot.image))).set64 R.MGMT_FW_BUILD_LO (imageBuild d.boot.image)).coresStart

/-- SIGNATURE_CHECK: a verified image is started; a failed first slot makes step 3 repeat with the second, and a slot that cannot be read ends start-up
(R324, R344). -/
def signatureCheck (header body : Option (List Byte)) (d : Dev) : Dev :=
  if d.inStep 4 then
    match header, body with
    | some h, some b =>
      let d1 := d.imageRead h b
      if imageVerified d1.boot.image then d1.imageStart.stepTo 5
      else if d.boot.second then d1.bootFail 0x01
      else { d1 with boot := { d1.boot with second := true } }.stepTo 3
    | some h, none => (d.imageFetch (some h)).bootFail 0x02
    | none, _ => (d.imageFetch none).bootFail 0x02
  else d

/-- Coefficients and band tables loaded (R96); with BOOT_SEL = 0b10 as if no slot were valid (R342). -/
def Dev.calLoad (d : Dev) : Dev :=
  if d.glb.bootSel = 2 then
    let e := ({ d with cal := { d.cal with slots := [] } }).calBoot
    ({ e with cal := { e.cal with slots := d.cal.slots } }).slotShow
  else d.calBoot

/-- The frequency words that firmware loads (Reset FW of MSn_NINT and MSn_NFRAC): the spec gives no value, so each is free (DESIGN CHOICE, log 170). -/
def Dev.wordLoad (d : Dev) (n : Nat) : Dev :=
  ((d.set (F.MSn_NINT.N_INT n) (d.freeVal 13)).set64 (R.MSn_NFRAC_LO n) (d.fresh.freeVal 48)).fresh.fresh

/-- The two boot configurations are read (R341, R342). -/
def Dev.cfgRead (d : Dev) : Dev := (d.flashRead (flashConfig 0) 0x1000).flashRead (flashConfig 1) 0x1000

/-- SRAM_INITIALISATION: step 5 ends with REGS_READY (R256, R301, R343, R344), or a read of the flash fails (R344). -/
def sramInitialisation (cfgA cfgB : Option (List Byte)) (d : Dev) : Dev :=
  if d.inStep 5 then
    match cfgA, cfgB with
    | some a, some b =>
      let d1 := ((d.fresh.cfgRead.cfgLoad (bootCfg d.glb.bootSel a b (decide (d.freeVal 1 = 1)))).ckptBoot false).genBoot
      let d2 := [0, 1, 2, 3].foldl Dev.wordLoad d1.calLoad
      ({ d2 with glb := { d2.glb with regsReady := true } }).clayScan.bootRecord.stepTo 6
    | none, _ => d.cfgRead.bootFail 0x02
    | some _, none => d.cfgRead.bootFail 0x02
  else d

/-- CORE_PLL_LOCK: step 6 waits for OSCIN; the core clock is switched to the PLL (R344). -/
def corePllLock (d : Dev) : Dev :=
  if d.inStep 6 ∧ d.bit F.REF_OSC_STATUS.OSC_ACTIVE then
    let d1 := ((d.coreTo 0).set F.PWR_CLK_STATUS.PLL_LOCKED 1).set F.TIME_STATUS.BYPASS_CLK 0
    (({ d1 with clk := { d1.clk with pllSince := none } }).setLive srcClk false).stepTo 7
  else d

/-- Step 7 asks for the domains of PD_MASK, up to the eight that may wait (R332). -/
def Dev.bootFeed (d : Dev) : Dev :=
  if d.inStep 7 ∧ !d.boot.begun then
    (List.range 24).foldl (fun d n =>
      if !d.boot.pdMask.testBit n ∨ 8 ≤ d.pwr.queue.length then d
      else
        let d1 := { d with boot := { d.boot with pdMask := d.boot.pdMask - 2 ^ n } }
        if d1.domainOn n then d1 else { d1 with pwr := { d1.pwr with queue := d1.pwr.queue ++ [⟨n, true, none⟩] } }) d
  else d

/-- Once the domains are switched, step 7 surveys every MS that is on and has no VALID band, all together, and then takes up the list (R344). -/
def Dev.bootWatch (d : Dev) : Dev :=
  if d.inStep 7 ∧ !d.boot.begun ∧ d.boot.pdMask = 0 ∧ d.pwr.queue = [] ∧ d.pwr.cur.isNone then
    let d1 := { d with boot := { d.boot with begun := true }, cmd := { d.cmd with list := d.cmd.list.map fun e => { e with seen := d.now } } }
    [0, 1, 2, 3].foldl (fun d n => if d.domainOn (10 + n) ∧ d.bandCount n = 0 then d.surveyBegin n else d) d1
  else d

/-- START_UP_LIST: step 7 ends with its last entry (R345). -/
def startUpList (d : Dev) : Dev :=
  if d.inStep 7 ∧ d.boot.begun ∧ d.cmd.list = [] ∧ !(d.cmd.inProgress.any fun t => decide (t.src = .list)) ∧ !(d.ms.any fun p => p.2.surveyAt.isSome) then
    d.stepTo 8
  else d

/-- A step with a limit of so many ms ends: at once if its condition holds, else at its limit (R344). -/
def Dev.stepWait (d : Dev) (done : Bool) (ms next : Nat) : Dev :=
  (if done then d else d.till (d.boot.since + ms * msec)).stepTo next

/-- REFERENCE_QUALIFICATION: every bound monitor VALID, or REF_WAIT_MS passed. -/
def referenceQualification (d : Dev) : Dev :=
  if d.inStep 8 then d.stepWait ((List.range 8).all fun r => !(d.refOf r).bound || d.refValid r) d.boot.refWait 9 else d

/-- TIME_ACQUISITION: TIME_VALID, or TIME_WAIT_MS passed. -/
def timeAcquisition (d : Dev) : Dev :=
  if d.inStep 9 then d.stepWait d.time.st.valid d.boot.timeWait 10 else d

/-- Whether no START-triggered run of MSn runs or waits without having been deferred (R84, R87). -/
def Dev.startRunOver (d : Dev) (n : Nat) : Bool :=
  (!d.calRunning n || decide (d.get (F.CALn_STATUS.TRIGGER n) ≠ 1)) &&
    ((d.calOf n).pending.all fun p => decide (p.trigger ≠ 1) || d.bit (F.CALn_STATUS.DEFERRED n))

/-- CONFIGURE is entered at the end of step 11 (R344, R347). (DEDUCED, log 119) -/
def Dev.toConfigure (d : Dev) : Dev := (d.setMode .configure 2 0).stepTo 12

/-- INITIAL_CALIBRATION: the START runs have ended or been deferred, or CAL_WAIT_MS has passed; step 11 follows. -/
def initialCalibration (d : Dev) : Dev :=
  if d.inStep 10 then (d.stepWait ([0, 1, 2, 3].all d.startRunOver) d.boot.calWait 11).toConfigure else d

/-- Step 13 is reached as RUN comes into force for the first time after a boot (Table 15-5). -/
def Dev.stepRun (d : Dev) : Dev :=
  if d.glb.step = 12 ∧ d.glb.mode = .run then { d with glb := { d.glb with step := 13 } } else d

/-! ### The warm reset (R346, Table 15-7) -/

/-- The collector: record, cause, live, degrade and force bits, reactions and counters; CROAK goes on (R284). -/
def Dev.warmFaults (d : Dev) : Dev :=
  let f := d.flt
  let g := { FltState.powerOn with croakLevel := f.croakLevel, croakOn := f.croakOn, croakSince := f.croakSince, croakBad := f.croakBad,
                                   fatal := f.fatal, banksOut := f.banksOut, eccAt := f.eccAt, configured := f.configured }
  let croak := d.word R.FLT_CROAK_STATUS
  (({ d with flt := g }).resetWords 0x2000 0x3000).setWord R.FLT_CROAK_STATUS croak

/-- The recorder: the Sand area is cleared and SEQ restarts at 0; the Clay area, PCC and OPTIME are kept. -/
def Dev.warmEvents (d : Dev) : Dev :=
  let e := d.evt
  let g := { EvtState.powerOn with clay := e.clay, clearing := e.clearing, clearUsed := e.clearUsed, optBase := e.optBase, optAt := e.optAt,
                                   pcc := e.pcc, ckpt := e.ckpt, lastCkpt := e.lastCkpt }
  let st := d.word R.EVT_STATUS
  (({ d with evt := g }).resetWords 0x3000 0x4000).setWord R.EVT_STATUS st

/-- Buffered changes of objects that a warm reset frees. -/
def Change.freed : Change → Bool
  | .done => true
  | .word off _ _ => (decide (0x2000 ≤ off) && decide (off < 0x5000))
  | .phase _ _ _ _ => false
  | .model _ => false
  | .shaftCfg _ _ _ _ _ => true
  | .shaftTarget _ _ => true
  | .shaftTrim _ _ _ _ => true
  | .folBind _ _ => true
  | .folOffset _ _ _ _ => true
  | .folLimits _ _ _ _ _ => true
  | .cam _ => true
  | .grpCfg _ _ _ _ => true
  | .grpLatency _ _ _ => true
  | .grpWant _ _ => true
  | .ptpPort _ _ _ _ _ => false

/-- Armed operations that a warm reset leaves: those of output channels and ramps. -/
def ArmOp.kept : ArmOp → Bool
  | .chStop _ => true
  | .chStart _ => true
  | .rampStart _ => true
  | .lineStop _ => false
  | .shaftStop _ => false
  | .lineStart => false
  | .shaftStart _ => false
  | .folStop _ => false
  | .folStart _ => false
  | .folClear _ => false
  | .streamStop _ => false
  | .streamStart _ => false
  | .snapshot _ => false
  | .tickWait => false

/-- Shafts, profiles, followers, cams, groups and snapshots are FREE, and what waits for them is gone. -/
def Dev.warmObjects (d : Dev) : Dev :=
  { d with sh := ShaftState.empty, fo := FolState.empty, snaps := [], trigs := []
           pendNow := d.pendNow.filter fun b => !b.change.freed, pendLate := d.pendLate.filter fun b => !b.change.freed
           armed := d.armed.filter fun a => a.op.kept
           link := { d.link with queue := d.link.queue.filter fun f => !f.kind.line } }

/-- Open segments are closed as at a stop, the streams are FREE, and the store is mounted again. -/
def Dev.warmStore (d : Dev) : Dev :=
  let d1 := (d.closeAll false).dropJobs
  let d2 := { d1 with store := { d1.store with streams := [], training := d1.store.training || d1.bit F.STORE_STATUS.LINK_UP } }
  if 3 ≤ d2.storeState ∧ d2.bit F.STORE_STATUS.LINK_UP then d2.storeTo 1 else d2

/-- The rings are disabled and no command is in progress; the access log is empty. -/
def Dev.warmCommands (d : Dev) : Dev :=
  (({ d with cmd := { CmdState.empty with nextCid := d.cmd.nextCid } }).resetWords 0x4000 0x5000).resetWords 0x30 0x50

/-- A warm reset (R346), asked for by a requester of Table 11-1: the MODE record is the first of the new boot (R293). (DEDUCED, log 120) -/
def Dev.warmReset (d : Dev) (req : Nat) : Dev :=
  let d1 := ((d.saveLost.mgmtCount.warmStore.warmObjects).warmCommands.warmFaults).warmEvents
  let d2 := ((d1.ckptBoot true).genBoot.setMode .boot 0 req).set F.MGMT_STATUS.ONLINE 15
  { d2 with glb := { d2.glb with regsReady := false, step := 5, resetCause := 2 }, boot := { d2.boot with warm := true, since := d2.now } }

/-- WARM_RESET_DONE: the short form of step 5 ends, and CONFIGURE is entered (R346). -/
def warmResetDone (d : Dev) : Dev :=
  if d.glb.mode = .boot ∧ d.boot.warm then
    (({ d with boot := { d.boot with warm := false }, glb := { d.glb with regsReady := true } }).bootRecord).toConfigure
  else d

end Sys2Proof.Machine
end

