-- ==== Sys2Proof/Machine/RegRead.lean ====
section
/-! DEFINITION. Reading a register (R248, R249, R251, R256, R260, R261, R263, R266): the map, the word that each location holds at this
instant, and what a read returns and brings about. -/

namespace Sys2Proof.Machine

/-! ### The map (R268) -/

/-- Whether an offset lies in a register, or in one of a family. -/
def RegDesc.hits (r : RegDesc) (off : Nat) : Bool :=
  decide (r.base ≤ off) && decide ((off - r.base) / r.s1 < r.n1) && decide ((off - r.base) % r.s1 % r.s2 = 0) &&
    decide ((off - r.base) % r.s1 / r.s2 < r.n2)

/-- The register at an offset; none at a reserved location (R10). -/
def findReg (off : Nat) : Option RegDesc := regMap.find? fun r => r.hits off

/-- The bits of a field in place. -/
def FieldDesc.mask (f : FieldDesc) : Word := (BitVec.ofNat 32 (2 ^ f.len - 1)) <<< f.lo

/-- The bits of a register whose access codes are among some. -/
def RegDesc.mask (r : RegDesc) (p : Access → Bool) : Word := r.fields.foldl (fun m f => if p f.acc then m ||| f.mask else m) 0

/-- The bits with one access code. -/
def RegDesc.bits (r : RegDesc) (a : Access) : Word := r.mask fun x => decide (x = a)

/-- A guarded register (R257). -/
def RegDesc.guarded (r : RegDesc) : Bool := r.fields.any fun f => decide (f.acc = .gp)

/-- The value offset X of the guarded pair that an offset belongs to: X itself, or X + 4 (R257). -/
def gpBase (off : Nat) : Option Nat :=
  match findReg off with
  | some r => if r.guarded then some off else none
  | none => if 4 ≤ off ∧ ((findReg (off - 4)).any RegDesc.guarded) then some (off - 4) else none

/-- The LO offsets of the LO/HI pairs (R261, R262); HI is 4 above. -/
def loPairs : List RegDesc := [
  ⟨0x2010, 4, 1, 4, 1, []⟩, ⟨0x2020, 4, 1, 4, 1, []⟩, ⟨0x2030, 0x10, 2, 4, 1, []⟩, ⟨0x3020, 4, 1, 4, 1, []⟩,
  ⟨0x4100, 0x40, 4, 4, 1, []⟩, ⟨0x4114, 0x40, 4, 4, 1, []⟩, ⟨0x4128, 0x40, 4, 4, 1, []⟩, ⟨0x8004, 0x40, 8, 4, 1, []⟩,
  ⟨0x10008, 0x1000, 4, 8, 2, []⟩, ⟨0x10030, 0x1000, 4, 4, 1, []⟩, ⟨0x10048, 0x1000, 4, 4, 1, []⟩, ⟨0x10080, 0x1000, 4, 8, 4, []⟩,
  ⟨0x10200, 0x1000, 4, 0x10, 16, []⟩,
  ⟨0x20010, 0x400, 32, 8, 3, []⟩, ⟨0x20034, 0x400, 32, 4, 1, []⟩, ⟨0x20048, 0x400, 32, 4, 1, []⟩,
  ⟨0x30010, 4, 1, 4, 1, []⟩, ⟨0x30020, 8, 2, 4, 1, []⟩, ⟨0x30040, 8, 2, 4, 1, []⟩,
  ⟨0x34010, 0x10, 2, 4, 1, []⟩, ⟨0x34070, 4, 1, 4, 1, []⟩,
  ⟨0x40008, 0x80, 64, 8, 2, []⟩, ⟨0x40020, 0x80, 64, 8, 3, []⟩, ⟨0x40044, 0x80, 64, 4, 1, []⟩, ⟨0x40060, 0x80, 64, 8, 2, []⟩,
  ⟨0x42000, 4, 1, 4, 1, []⟩, ⟨0x50008, 0x20, 4096, 8, 2, []⟩, ⟨0x70018, 8, 3, 4, 1, []⟩, ⟨0x78018, 4, 1, 4, 1, []⟩,
  ⟨0x78108, 0x20, 8, 8, 2, []⟩, ⟨0x78208, 0x20, 16, 8, 3, []⟩, ⟨0x7C028, 4, 1, 4, 1, []⟩, ⟨0x7C100, 0x40, 4, 8, 8, []⟩]

/-- LO of a pair. -/
def isLo (off : Nat) : Bool := loPairs.any fun r => r.hits off

/-- HI of a pair. -/
def isHi (off : Nat) : Bool := decide (4 ≤ off) && isLo (off - 4)

/-! ### The words of the blocks -/

/-- Word `i` of a number of several words. -/
def wordAt (v i : Nat) : Word := BitVec.ofNat 32 (v / 2 ^ (32 * i))

/-- A set of numbers as bits. -/
def maskOf (n : Nat) (p : Nat → Bool) : Nat := ((List.range n).filter p).foldl (fun m i => m + 2 ^ i) 0

/-- Whether an event bit is 1 in one of some registers. -/
def Dev.anyEvent (d : Dev) (offs : List Nat) : Bool := offs.any fun o => decide (d.word o ≠ 0)

/-- GLB_EVENT_SUMMARY (R269). -/
def Dev.eventSummary (d : Dev) : Nat :=
  b2n (d.anyEvent ((List.range 4).map R.CALn_EVENT)) + 2 * b2n (d.anyEvent ((List.range 8).map R.REFn_EVENT)) +
    4 * maskOf 4 (fun n => d.anyEvent [R.MSn_EVENT n, R.MSn_EVENT2 n, R.MSn_DPLL_EVENT n]) +
    64 * b2n (d.anyEvent ((List.range 32).flatMap fun o => [R.OUTn_EVENT o, R.OUTn_EVENT2 o])) +
    128 * b2n (d.anyEvent [R.TIME_EVENT]) + 256 * b2n (d.anyEvent [R.TICK_EVENT, R.TICK_EVENT2]) +
    512 * b2n (d.anyEvent [R.LINK_EVENT, R.LINK_EVENT2]) + 1024 * b2n (d.anyEvent [R.CMD_EVENT]) +
    2048 * b2n (d.anyEvent [R.PWR_EVENT]) + 4096 * b2n (d.anyEvent [R.FIELD_EVENT0, R.FIELD_EVENT1])

/-- The GLB block (R269). -/
def Dev.glbWord (d : Dev) (off : Nat) : Word :=
  if off = R.GLB_MODE then BitVec.ofNat 32 (d.glb.mode.code + 16 * d.glb.prev.code + 128 * b2n d.glb.modeReq.isSome)
  else if off = R.GLB_BOOT_STATUS then
    BitVec.ofNat 32 (d.glb.bootSel + 4 * b2n d.glb.regsReady + 8 * b2n d.glb.priv + 16 * d.glb.step + 256 * b2n (decide (d.glb.cfgFixed ≠ 0)))
  else if off = R.GLB_EVENT_SUMMARY then BitVec.ofNat 32 d.eventSummary
  else d.word off

/-- The PWR block. -/
def Dev.pwrWord (d : Dev) (off : Nat) : Word :=
  if off = R.PWR_SWITCH_STATUS then
    F.PWR_SWITCH_STATUS.QUEUED.into (F.PWR_SWITCH_STATUS.BUSY.into (d.word off) (b2n d.pwr.cur.isSome)) d.pwr.queue.length
  else d.word off

/-- The FLT block; the record reads zero while none is being handled (DEDUCED, log 70). -/
def Dev.fltWord (d : Dev) (off : Nat) : Word :=
  if off = R.FLT_STATUS then BitVec.ofNat 32 d.fltStatus
  else if 0x2010 ≤ off ∧ off < 0x2030 then (d.flt.rec?.map fun x => (x.words true).getD ((off - 0x2010) / 4) 0).getD 0
  else if 0x2080 ≤ off ∧ off < 0x2090 then wordAt d.flt.force.toNat ((off - 0x2080) / 4)
  else if off = R.FLT_INJ_STATUS then BitVec.ofNat 32 d.injStatus
  else if 0x2110 ≤ off ∧ off < 0x2120 then wordAt (d.flt.live ||| d.flt.force).toNat ((off - 0x2110) / 4)
  else if 0x2120 ≤ off ∧ off < 0x2130 then wordAt d.flt.degrade.toNat ((off - 0x2120) / 4)
  else d.word off

/-- The EVT block. -/
def Dev.evtWord (d : Dev) (off : Nat) : Word :=
  if off = R.EVT_STATUS then F.EVT_STATUS.FIFO_DEPTH.into (d.word off) d.evt.fifo.length
  else if off = R.EVT_OPTIME_LO then wordAt d.optime 0
  else if off = R.EVT_OPTIME_HI then wordAt d.optime 1
  else if off = R.EVT_PCC then BitVec.ofNat 32 d.evt.pcc
  else d.word off

/-- CMD_RINGr_STATUS: CQ_FULL tells that R226 holds fetching. -/
def Dev.ringStatus (d : Dev) (r : Nat) : Nat :=
  let x := d.ring r
  b2n x.enabled + 2 * b2n x.draining + 4 * b2n (x.enabled && decide (d.cqRoom r = 0)) + 16 * x.err + 65536 * d.outstanding r

/-- The CMD block. -/
def Dev.cmdWord (d : Dev) (off : Nat) : Word :=
  let r := (off - 0x4100) / 0x40
  let x := d.ring r
  if off = R.CMD_CTRL then BitVec.ofNat 32 (maskOf 4 fun r => (d.ring r).enabled)
  else if off = R.CMD_STATUS then BitVec.ofNat 32 (d.cmd.inProgress.length + 65536 * d.cmd.inband.length)
  else if off < 0x4100 then d.word off
  else if off = R.CMD_SQr_TAIL r then BitVec.ofNat 32 x.sqTail
  else if off = R.CMD_SQr_HEAD r then BitVec.ofNat 32 x.sqHead
  else if off = R.CMD_CQr_TAIL r then BitVec.ofNat 32 x.cqTail
  else if off = R.CMD_CQr_HEAD r then BitVec.ofNat 32 x.cqHead
  else if off = R.CMD_RINGr_STATUS r then BitVec.ofNat 32 (d.ringStatus r)
  else d.word off

/-- The blocks OUT0 to OUT31: the live words. -/
def Dev.outLive (d : Dev) (off : Nat) : Word :=
  let rel := (off - 0x20000) % 0x400
  if rel = 0x40 ∨ rel = 0x48 ∨ rel = 0x4C then d.outWord ((off - 0x20000) / 0x400) rel else d.word off

/-- The TIME block. -/
def Dev.timeWord (d : Dev) (off : Nat) : Word :=
  if off = R.TIME_STATUS then BitVec.ofNat 32 d.timeStatus
  else if off = R.TIME_EPOCH_SEC_LO then wordAt (secOf d.time.epoch) 0
  else if off = R.TIME_EPOCH_SEC_HI then wordAt (secOf d.time.epoch) 1
  else if off = R.TIME_EPOCH_NS then BitVec.ofNat 32 (nsOf d.time.epoch)
  else if off = R.TIME_EPOCH_FRAC then BitVec.ofNat 32 (fracOf d.time.epoch)
  else d.word off

/-- The TICK block. -/
def Dev.tickWord (d : Dev) (off : Nat) : Word :=
  if off = R.TICK_STATUS then BitVec.ofNat 32 d.tickStatusWord
  else if off = R.TICK_PERIOD_LO then wordAt d.tick.num 0
  else if off = R.TICK_PERIOD_HI then wordAt d.tick.num 1
  else if off = R.TICK_PERIOD_DEN then BitVec.ofNat 32 d.tick.den
  else if off = R.TICK_EPOCH_REM then BitVec.ofNat 32 d.tick.epochRem
  else if off = R.TICK_INDEX_LO then wordAt d.tick.index 0
  else if off = R.TICK_INDEX_HI then wordAt d.tick.index 1
  else d.word off

/-- The SHAFT and FOL blocks: status windows. -/
def Dev.windowWord (d : Dev) (off : Nat) : Word :=
  if off < 0x42000 then d.shaftWord ((off - 0x40000) / 0x80) ((off - 0x40000) % 0x80 / 4)
  else if off < 0x42008 then wordAt d.shaftActive ((off - 0x42000) / 4)
  else d.folWord ((off - 0x50000) / 0x20) ((off - 0x50000) % 0x20 / 4)

/-- The LINK block. -/
def Dev.linkWord (d : Dev) (off : Nat) : Word :=
  if off = R.LINK_STATUS then
    F.LINK_STATUS.PAUSED.into (F.LINK_STATUS.BP_ACTIVE.into (d.word off) (b2n d.bpActive)) d.pausedMask
  else d.word off

/-- A word of STORE_STREAMs. -/
def Dev.streamWord (d : Dev) (s rel : Nat) : Word :=
  let x := d.streamOf s
  if rel = 0 then BitVec.ofNat 32 (x.st.code + 16 * x.mode + 65536 * d.gen 8 s)
  else if rel = 4 then BitVec.ofNat 32 (x.first + 65536 * x.count)
  else if rel = 8 ∨ rel = 0xC then wordAt ((d.oldestTick s).getD 0) ((rel - 8) / 4)
  else if rel = 0x10 ∨ rel = 0x14 then wordAt (d.newestTick s) ((rel - 0x10) / 4)
  else d.word (0x78100 + 0x20 * s + rel)

/-- A word of STORE_WINDOWw. -/
def Dev.windowRegWord (d : Dev) (w rel : Nat) : Word :=
  let x := d.store.windows.getD w Window.free
  if rel = 0 then BitVec.ofNat 32 (b2n x.inUse + 2 * b2n x.isDone + 256 * x.stream)
  else if rel = 8 ∨ rel = 0xC then wordAt x.first ((rel - 8) / 4)
  else if rel = 0x10 ∨ rel = 0x14 then wordAt x.last ((rel - 0x10) / 4)
  else wordAt x.kt ((rel - 0x18) / 4)

/-- The STORE block. -/
def Dev.storeWord (d : Dev) (off : Nat) : Word :=
  if off = R.STORE_STATUS then
    F.STORE_STATUS.WINDOWS.into (F.STORE_STATUS.STREAMS_RUNNING.into (d.word off) (maskOf 8 fun s => (d.streamOf s).st.moving))
      (maskOf 16 fun w => (d.store.windows.getD w Window.free).inUse)
  else if off < 0x78100 then d.word off
  else if off < 0x78200 then d.streamWord ((off - 0x78100) / 0x20) (off % 0x20)
  else d.windowRegWord ((off - 0x78200) / 0x20) (off % 0x20)

/-- The MGMT block. -/
def Dev.mgmtWord (d : Dev) (off : Nat) : Word :=
  if off = R.MGMT_STATUS then F.MGMT_STATUS.HEARTBEAT_OK.into (d.word off) (b2n d.heartbeatOk)
  else if 0x7C100 ≤ off ∧ off < 0x7C200 then wordAt (d.coreCnt ((off - 0x7C100) / 0x40) (off % 0x40 / 8)) (off % 8 / 4)
  else if 0x7C210 ≤ off then d.sampleWord ((off - 0x7C210) / 4)
  else d.word off

/-- The FIELD block. -/
def Dev.fieldWord (d : Dev) (off : Nat) : Word :=
  if off = R.FIELD_STATUS then F.FIELD_STATUS.OFFSET_LATE.into (d.word off) d.lateMask else d.word off

/-- The live word at a register (R268). -/
def Dev.liveWord (d : Dev) (off : Nat) : Word :=
  if off < 0x1000 then d.glbWord off
  else if off < 0x2000 then d.pwrWord off
  else if off < 0x3000 then d.fltWord off
  else if off < 0x4000 then d.evtWord off
  else if off < 0x5000 then d.cmdWord off
  else if off < 0x20000 then d.word off
  else if off < 0x28000 then d.outLive off
  else if off < 0x30000 then d.word off
  else if off < 0x34000 then d.timeWord off
  else if off < 0x38000 then d.tickWord off
  else if off < 0x70000 then d.windowWord off
  else if off < 0x78000 then d.linkWord off
  else if off < 0x7C000 then d.storeWord off
  else if off < 0x7E000 then d.mgmtWord off
  else if off < 0x7F000 then d.fieldWord off
  else d.word off

/-- What a read of a register returns: pending copies of RWP fields, or their live ones; the copies of SL fields (before the first edge of
the AON clock the reset values); zero for WO fields (R12, R252, R263). (DEDUCED, log 132) -/
def Dev.viewWord (d : Dev) (r : RegDesc) (live : Bool) (off : Nat) : Word :=
  let p := r.bits .rwp
  let s := r.bits .sl
  let w := d.liveWord off
  let a := if live then w else (w &&& ~~~p) ||| (d.pendWord off &&& p)
  ((a &&& ~~~s) ||| (Tbl.getD d.clk.slow off (Tbl.getD resetRegs off 0) &&& s)) &&& r.mask fun x => decide (x ≠ .wo)

/-! ### Requesters and reads -/

/-- A requester as an access carries it: its own number, its code of Table 11-1, whether it is privileged (R248), and whether the
mode counts as CONFIGURE for it, as for the start-up list (R345). -/
structure Req where
  key    : Nat
  code   : Nat
  priv   : Bool
  asConf : Bool
  deriving DecidableEq, Repr

/-- The requester of a register access (R248). -/
def Dev.reqOf (d : Dev) (q : Requester) : Req :=
  match q with
  | .host => ⟨0, 0, d.glb.priv, false⟩
  | .ring r => ⟨1 + r % 4, 1 + r % 4, false, false⟩
  | .inband sa => ⟨8 + sa, 5, false, false⟩
  | .smbus => ⟨6, 6, false, false⟩

/-- The requester of a command (R248, R345). -/
def Cmd.reqOf (c : Cmd) : Req :=
  match c.src with
  | .ring r => ⟨1 + r % 4, 1 + r % 4, false, false⟩
  | .inband => ⟨8 + c.entry.sa, 5, false, false⟩
  | .list => ⟨7, 0, false, true⟩

/-- The mode that an access is judged in. -/
def Req.mode (q : Req) (d : Dev) : Mode := if q.asConf then .configure else d.glb.mode

/-- The registers of the keys (R260). -/
def isKey (x : Nat) : Bool := decide (0x70800 ≤ x) && decide (x < 0x70900)

/-- Whether a location is hidden: during BOOT, until REGS_READY, all but the GLB and CMD blocks are (R256); in HALT every read is served (R26). -/
def Dev.hidden (d : Dev) (off : Nat) : Bool :=
  decide (d.glb.mode = .boot) && !d.glb.regsReady && decide (0x1000 ≤ off) && !(decide (0x4000 ≤ off) && decide (off < 0x5000))

/-- The word that a requester sees at an aligned offset (R10, R256, R259, R260). -/
def Dev.busWord (d : Dev) (q : Req) (live : Bool) (off : Nat) : Word :=
  if d.hidden off then 0
  else match gpBase off with
  | some x =>
    if isKey x ∧ !q.priv then 0
    else
      let w := d.word x &&& ((findReg x).map fun r => r.bits .gp).getD 0
      if off = x then w else ~~~w
  | none => ((findReg off).map fun r => d.viewWord r live off).getD 0

/-- The bits of the bytes that are enabled (R249, R250). -/
def beMask (be : BitVec 4) : Word :=
  (if be.getLsbD 0 then 0xFF#32 else 0) ||| (if be.getLsbD 1 then 0xFF00#32 else 0) ||| (if be.getLsbD 2 then 0xFF0000#32 else 0) |||
    (if be.getLsbD 3 then 0xFF000000#32 else 0)

/-- RC bits cleared in the bytes that a read returns (R249). -/
def Dev.clearRc (d : Dev) (off : Nat) (m : Word) : Dev :=
  match findReg off with
  | none => d
  | some r => if r.bits .rc = 0 then d else d.setWord off (d.word off &&& ~~~(r.bits .rc &&& m))

/-- The value that a read of HI returns in place of the current one: the shadow, where the requester's last LO read was of the same pair (R261). -/
def Dev.shadowOf (d : Dev) (q : Req) (off : Nat) : Option Word :=
  if isHi off then (Tbl.get? d.glb.shadows q.key).bind fun s => if s.1 + 4 = off then some s.2 else none else none

/-- HI latched by a read of LO (R261). -/
def Dev.latchHi (d : Dev) (q : Req) (off : Nat) : Dev :=
  if isLo off then { d with glb := { d.glb with shadows := Tbl.put d.glb.shadows q.key (off, d.busWord q false (off + 4)) } } else d

/-- The registers that SMBus can read (R266). -/
def smbusReadable (off : Nat) : Bool :=
  [R.GLB_ID, R.GLB_FW_REV, R.GLB_MODE, R.GLB_BOOT_STATUS, R.PWR_DOMAIN_STATUS, R.PWR_CLK_STATUS, R.PWR_RAIL_STATUS, R.PWR_TOTAL].contains off ||
    ((List.range 17).map R.PWR_RAIL).contains off || ((List.range 4).map R.OUT_BANKb_STATUS).contains off ||
    (decide (0x6000 ≤ off) && decide (off < 0x7000))

/-- What a read over SMBus returns: nothing is cleared and nothing latched (R266). -/
def Dev.smbusWord (d : Dev) (off : Nat) : Word :=
  if off % 4 = 0 ∧ smbusReadable off then d.busWord (d.reqOf .smbus) false off else 0

/-- A read of one register by a requester (R249, R256, R261): the word returned, RC bits cleared, and HI latched. A read with no byte enabled
does nothing, and one over SMBus changes nothing (R266). (DEDUCED, log 148) -/
def Dev.readOne (d0 : Dev) (q : Req) (off : Nat) (be : BitVec 4) : Dev × Word :=
  if be = 0 then (d0, 0)
  else if q.code = 6 then (d0, d0.smbusWord off &&& beMask be)
  else
    let d := if 0x7C100 ≤ off ∧ off < 0x7C200 then d0.mgmtCount else d0
    if d.hidden off then (d.latchHi q off, 0)
    else ((d.latchHi q off).clearRc off (beMask be), (d.shadowOf q off).getD (d.busWord q false off) &&& beMask be)

end Sys2Proof.Machine
end

