-- ==== Sys2Proof/Machine/RegBus.lean ====
section
/-! DEFINITION. Writing a register (R250 to R255, R257 to R262): access errors, guarded pairs, write stages, the effect of a write by
access code and mode, what the registers with command meaning do, the rings (R224 to R229), and the rows of the register interface. -/

namespace Sys2Proof.Machine

/-! ### Access errors (R253) -/

/-- The status bit of a cause (Table 11-2). -/
def causeBit (cause : Nat) : Fld :=
  match cause with
  | 1 => F.GLB_ACCESS_STATUS.WRITE_WHILE_ENABLED
  | 4 => F.GLB_ACCESS_STATUS.GUARD_ERR
  | 5 => F.GLB_ACCESS_STATUS.DENIED
  | 6 => F.GLB_ACCESS_STATUS.DENIED
  | _ => F.GLB_ACCESS_STATUS.ACCESS_ERR

/-- The counter of a cause (Table 11-2). -/
def causeCount (cause : Nat) : Nat :=
  match cause with
  | 1 => R.GLB_WWE_COUNT
  | 4 => R.GLB_GUARD_ERR_COUNT
  | _ => R.GLB_ACCESS_ERR_COUNT

/-- An access error is recorded (R253). -/
def Dev.accessError (d : Dev) (q : Req) (off cause : Nat) : Dev :=
  let w := BitVec.ofNat 32 (off % 2 ^ 20 + cause * 2 ^ 20 + q.code * 2 ^ 24 + 2 ^ 31)
  let d1 := ((d.raise (causeBit cause)).count (causeCount cause) 1).setWord R.GLB_ACCESS_LAST w
  if d1.bit F.GLB_ACCESS_FIRST.VALID then d1 else d1.setWord R.GLB_ACCESS_FIRST w

/-! ### The rings (R225 to R229) -/

/-- A ring error (R228): fetching stops, its event and its message; causes 2 and 4 lie in CQr. -/
def Dev.ringError (d : Dev) (r cause : Nat) : Dev :=
  let x := d.ring r
  ((d.setRing r { x with err := cause, cqBad := x.cqBad || decide (cause = 2) || decide (cause = 4) }).raise ⟨R.CMD_EVENT, 8 * r, 1⟩).sendFault 0x004 0x01 .u r

/-- CMD_SQr_TAIL written (R225): the entries up to it are visible from now on. An index out of range is an error, and changes nothing else
(DEDUCED, log 71). -/
def Dev.doorbell (d : Dev) (r v : Nat) : Dev :=
  let n := d.sqLen r
  let x := d.ring r
  if n ≤ v then d.ringError r 1
  else d.setRing r { x with sqTail := v, seen := x.seen ++ List.replicate ((v + n - x.sqTail % n) % n) d.now }

/-- CMD_CQr_HEAD written (R225). -/
def Dev.cqConsume (d : Dev) (r v : Nat) : Dev :=
  if d.cqLen r ≤ v then d.ringError r 2 else d.setRing r { d.ring r with cqHead := v }

/-- RING_EN[r] written (R229). (DEDUCED, log 136) -/
def Dev.ringEnable (d : Dev) (r : Nat) (on : Bool) : Dev :=
  let x := d.ring r
  if on = x.enabled then d
  else if on then
    d.setRing r { x with enabled := true, draining := false, err := 0, cqBad := false, sqHead := 0, sqTail := 0, cqTail := 0, cqHead := 0, seen := [] }
  else d.setRing r { x with enabled := false, draining := decide (0 < d.outstanding r) }

/-- The host address of the entry at HEAD of SQr (R224). -/
def Dev.entryAddr (d : Dev) (r : Nat) : Nat := d.get64 (R.CMD_SQr_BASE_LO r) + 64 * (d.ring r).sqHead

/-- Whether an entry of SQr can be fetched (R225, R226, R228 to R230). -/
def Dev.fetches (d : Dev) (r : Nat) : Bool :=
  let x := d.ring r
  d.glb.mode.served && x.enabled && decide (x.err = 0) && decide (x.sqHead ≠ x.sqTail) && decide (d.cqRoom r ≠ 0)

/-- ENTRY_FETCH: an entry is read from host memory and copied once a slot is reserved for its completion (R224 to R226, R230); or a PCIe error of
the pair, on that read or on a completion written while CQr is in use (R228). -/
def entryFetch (r : Nat) (dma : FetchDma) (d : Dev) : Dev :=
  let x := d.ring r
  if 4 ≤ r then d
  else match dma with
  | .completionError =>
    if d.glb.mode.served ∧ (x.enabled ∨ x.draining ∨ x.fetched ≠ []) ∧ !x.cqBad then d.ringError r 4 else d
  | .fetchError => if d.fetches r then (d.emit (.hostRead (d.entryAddr r) 64)).ringError r 3 else d
  | .entry b =>
    if d.fetches r then
      let e : Entry := ⟨slice b 0 64, x.seen.headD d.now, 0, 0, 0, 0, false⟩
      ((d.emit (.hostRead (d.entryAddr r) 64)).setRing r
        { x with sqHead := (x.sqHead + 1) % d.sqLen r, seen := x.seen.drop 1, fetched := x.fetched ++ [e] }).bufWrite 8
    else d

/-- RING_DRAINED: a disabled ring has no command in progress any more (R229). -/
def ringDrained (r : Nat) (d : Dev) : Dev :=
  let x := d.ring r
  if x.draining ∧ !x.enabled ∧ d.outstanding r = 0 then d.setRing r { x with draining := false } else d

/-- INTERRUPT_COALESCING: TIME µs after the first completion that no interrupt has covered (R227). -/
def interruptCoalescing (r : Nat) (d : Dev) : Dev :=
  let t := d.get (F.CMD_CQr_IRQ.TIME r)
  match (d.ring r).irqSince with
  | none => d
  | some s =>
    if 4 ≤ r ∨ t = 0 ∨ d.get (F.CMD_CQr_IRQ.COUNT r) = 0 then d
    else
      let d1 := d.till (s + t * usec)
      d1.ringIrqDue r true

/-! ### Registers with command meaning -/

/-- MSn_CTRL with new values of its fields but EN, and then EN as the MS commands (R56, Table 11-5). -/
def Dev.msCtrl (d : Dev) (n : Nat) (new m val : Word) : Dev :=
  let d1 := d.wordLive (R.MSn_CTRL n) ((F.MSn_CTRL.EN n).into new (d.get (F.MSn_CTRL.EN n)))
  if !m.getLsbD 0 then d1
  else if val.getLsbD 0 then
    if d1.bit (F.MSn_CTRL.EN n) ∨ d1.surveying n then d1 else (d1.msStartGo n).1
  else if d1.msInUse n ∨ !d1.bit (F.MSn_CTRL.EN n) then d1
  else d1.msDisable n .state

/-- MSn_RAMP_CTRL: ABORT, and START for the boundary in MSn_RAMP_TICK; a start that is refused raises RAMP_ABORTED (R53, R54; DEDUCED, log 72). -/
def Dev.rampCtrl (d : Dev) (n : Nat) (val : Word) : Dev :=
  let d1 := if val.getLsbD 1 then d.rampAbortGo n else d
  if !val.getLsbD 0 then d1
  else
    let k := d1.get64 (R.MSn_RAMP_TICK_LO n)
    if ((d1.rampChecks n).any fun c => c.2) || !d1.tick.running || (decide (k ≠ 0) && d1.tooNear k) then d1.raise (F.MSn_EVENT2.RAMP_ABORTED n)
    else d1.arm (d1.bndOf k) (.rampStart n) none

/-- OUTn_CTRL with new values of its fields but EN, and then EN as CH_START, with K from OUTn_START_TICK, or as CH_STOP (R65). (DEDUCED, log 129) -/
def Dev.outCtrl (d : Dev) (o : Nat) (new m val : Word) : Dev :=
  let d1 := d.wordLive (R.OUTn_CTRL o) ((F.OUTn_CTRL.EN o).into new (d.get (F.OUTn_CTRL.EN o)))
  if !m.getLsbD 0 then d1
  else if val.getLsbD 0 then
    let k := d1.get64 (R.OUTn_START_TICK_LO o)
    if (d1.chStartChecks o k).any fun c => c.2 then d1 else d1.chStartGo o k
  else d1.chStop o

/-- FIELDn_CTRL: EN stays 0 while PD21 is off, and clearing it ends a pulse (R348). -/
def Dev.fieldCtrl (d : Dev) (n : Nat) (new : Word) : Dev :=
  if new.getLsbD 0 ∧ d.domainOn 21 then d.wordLive (R.FIELDn_CTRL n) new
  else
    let d1 := d.wordLive (R.FIELDn_CTRL n) ((F.FIELDn_CTRL.EN n).into new 0)
    ({ d1 with field := { d1.field with pulses := Tbl.del d1.field.pulses n } }).fieldLevel n false

/-- STORE_CTRL.EN (R307). -/
def Dev.storeCtrl (d : Dev) (new : Word) : Dev :=
  let was := d.bit F.STORE_CTRL.EN
  let d1 := d.wordLive R.STORE_CTRL new
  if d1.bit F.STORE_CTRL.EN = was then d1
  else if was then d1.storeDisable else d1.storeEnable

/-- LINK_CTRL.EN (R200). -/
def Dev.linkCtrl (d : Dev) (new m : Word) : Dev :=
  let d1 := d.wordLive R.LINK_CTRL new
  if m.getLsbD 0 then d1.linkEnable (d1.bit F.LINK_CTRL.EN) else d1

/-- What a write of the RW, RWD, W1C and WO fields of a register brings about at once: `new` is the word with the accepted fields replaced, `m`
the bits written, `val` what was written (R254, R264). -/
def Dev.writeNow (d : Dev) (off : Nat) (new m val : Word) : Dev :=
  if off < 0x4000 then
    if off = R.FLT_ACK then (if (m &&& val).getLsbD 0 then d.ackFault else d) else d.wordLive off new
  else if off < 0x5000 then
    let r := (off - 0x4100) / 0x40
    if off = R.CMD_CTRL then (List.range 4).foldl (fun d i => if m.getLsbD i then d.ringEnable i (val.getLsbD i) else d) d
    else if off = R.CMD_SQr_TAIL r then d.doorbell r new.toNat
    else if off = R.CMD_CQr_HEAD r then d.cqConsume r new.toNat
    else if off = R.CMD_CQr_IRQ r then (d.wordLive off new).ringIrqDue r false
    else d.wordLive off new
  else if off < 0x14000 then
    let n := (off - 0x10000) / 0x1000
    if off = R.MSn_CTRL n then d.msCtrl n new m val
    else if off = R.MSn_RAMP_CTRL n then d.rampCtrl n (m &&& val)
    else d.wordLive off new
  else if off < 0x28000 then
    let o := (off - 0x20000) / 0x400
    if 0x20000 ≤ off ∧ off = R.OUTn_CTRL o then d.outCtrl o new m val else d.wordLive off new
  else if off = R.TIME_CAP_CTRL then (if (m &&& val).getLsbD 0 then d.doCapture else d)
  else if off = R.LINK_CTRL then d.linkCtrl new m
  else if off = R.STORE_CTRL then d.storeCtrl new
  else if off = R.STORE_RELEASE then d.storeFree (m &&& val &&& 0xFFFF#32).toNat
  else if off = R.MGMT_CTRL then
    let d1 := d.mgmtCtrl new
    if (m &&& val).getLsbD 2 then d1.cntClearGo else d1
  else if off = R.MGMT_SAMP_PERIOD then d.mgmtCount.wordLive off new
  else if 0x7E000 ≤ off ∧ off < 0x7E100 ∧ off % 0x20 = 0 then d.fieldCtrl ((off - 0x7E000) / 0x20) new
  else if off = R.DBG_CHECK then
    let d1 := d.wordLive off new
    if (m &&& val).getLsbD 0 then d1.checkerStart else d1
  else d.wordLive off new

/-! ### The effect of a write by access code and mode (R254, Table 11-3) -/

/-- Whether the enclosing block of the RWD fields at an offset counts as enabled (R254). -/
def Dev.blockEnabled (d : Dev) (q : Req) (off : Nat) : Bool :=
  let m := q.mode d
  let moving (o : Nat) : Bool := (d.outOf o).st.moving
  if 0x4100 ≤ off ∧ off < 0x4200 then let x := d.ring ((off - 0x4100) / 0x40); x.enabled || x.draining
  else if 0x5400 ≤ off ∧ off < 0x5C00 then d.calRunning ((off - 0x5400) / 0x200)
  else if 0x5C00 ≤ off ∧ off < 0x5E00 then let o := (off - 0x5C00) / 0x10; moving o && d.calRunning (d.srcMs o)
  else if 0x10000 ≤ off ∧ off < 0x14000 then
    let n := (off - 0x10000) / 0x1000
    if 0x200 ≤ off % 0x1000 then (d.msOf n).ramp.isSome else d.bit (F.MSn_CTRL.EN n)
  else if 0x14000 ≤ off ∧ off < 0x15000 then d.bit (F.MSn_CTRL.EN ((off - 0x14000) / 0x400))
  else if 0x20000 ≤ off ∧ off < 0x28000 then moving ((off - 0x20000) / 0x400)
  else if 0x70000 ≤ off ∧ off < 0x78000 then d.bit F.LINK_CTRL.EN
  else if 0x78000 ≤ off ∧ off < 0x7C000 then d.bit F.STORE_CTRL.EN
  else if 0x7E000 ≤ off ∧ off < 0x7F000 then d.bit (F.FIELDn_CTRL.EN ((off - 0x7E000) / 0x20))
  else if 0x7F000 ≤ off then decide (m ≠ .test)
  else decide (m = .run) || decide (m = .degraded)

/-- A write of one register as an access carries it: offset, bits, value. -/
structure WordWrite where
  off  : Nat
  mask : Word
  val  : Word
  deriving DecidableEq, Repr

/-- The bits of a register that a write can act on. -/
def RegDesc.writable (r : RegDesc) : Word :=
  r.mask fun a => match a with
    | .rw => true | .w1c => true | .wo => true | .rwp => true | .rwd => true
    | .ro => false | .rc => false | .gp => false | .sl => false

/-- Whether a write is accepted in the mode at hand (Table 11-3): nothing in HALT, and in BOOT only the CMD block. -/
def Dev.modeTakes (d : Dev) (q : Req) (off : Nat) : Bool :=
  match q.mode d with
  | .boot => decide (0x4000 ≤ off) && decide (off < 0x5000)
  | .halt => false
  | _ => true

/-- The word that a write is laid over. -/
def Dev.baseWord (d : Dev) (off : Nat) : Word :=
  if 0x4000 ≤ off ∧ off < 0x5000 then d.cmdWord off else d.word off

/-- Whether the RWP fields at an offset behave as RWD fields of an enabled block: in CONFIGURE and TEST, by the block of the RWD fields beside them, but for an
MS, which R254 names for its RWD settings alone, and for TICK, whose block counts as disabled (R12, R254, Table 11-3). (DEDUCED, log 128) -/
def Dev.rwpShut (d : Dev) (q : Req) (off : Nat) : Bool :=
  let m := q.mode d
  if decide (m = .run) || decide (m = .degraded) then false
  else if 0x10000 ≤ off ∧ off < 0x14000 then false
  else d.blockEnabled q off

/-- Whether a write would change an RWD field of an enabled block, or an RWP field that behaves as one, or stop an MS that feeds running channels (R12, R56).
(DEDUCED, log 128) (DEDUCED, log 138) -/
def Dev.wwe (d : Dev) (q : Req) (w : WordWrite) : Bool :=
  match findReg w.off with
  | none => false
  | some r =>
    (d.blockEnabled q w.off && decide ((w.val ^^^ d.baseWord w.off) &&& r.bits .rwd &&& w.mask ≠ 0)) ||
      (d.rwpShut q w.off && decide ((w.val ^^^ d.pendWord w.off) &&& r.bits .rwp &&& w.mask ≠ 0)) ||
      (decide (0x10000 ≤ w.off ∧ w.off < 0x14000 ∧ w.off % 0x1000 = 0) && w.mask.getLsbD 0 && !w.val.getLsbD 0 &&
        d.msInUse ((w.off - 0x10000) / 0x1000))

/-- The fields that a write makes wait for a boundary: RWP fields, and calibration coefficients (R92, R255). -/
def Dev.waiting (d : Dev) (q : Req) (w : WordWrite) : List Change :=
  match findReg w.off with
  | none => []
  | some r =>
    let coef := decide (0x5000 ≤ w.off) && decide (w.off < 0x6000)
    let rwp := if d.rwpShut q w.off then 0 else r.bits .rwp
    let m := w.mask &&& (rwp ||| (if coef && !d.blockEnabled q w.off then r.bits .rwd else 0))
    if m = 0 then [] else [.word w.off m (w.val &&& m)]

/-- The fields of one register that a write acts on at once. (DEDUCED, log 133) -/
def Dev.writeWord (d : Dev) (q : Req) (w : WordWrite) : Dev :=
  match findReg w.off with
  | none => d
  | some r =>
    let coef := decide (0x5000 ≤ w.off) && decide (w.off < 0x6000)
    let rwd := if coef || d.blockEnabled q w.off then 0 else r.bits .rwd
    let m := w.mask &&& (r.bits .rw ||| rwd)
    let c := w.mask &&& r.bits .w1c
    let base := d.baseWord w.off
    let new := ((base &&& ~~~m) ||| (w.val &&& m)) &&& ~~~(w.val &&& c)
    if m ||| c ||| (w.mask &&& r.bits .wo) = 0 then d else d.writeNow w.off new w.mask w.val

/-- The pending copy follows a write of RWP fields, but not one of coefficients (R12, R92). -/
def Dev.pendWrite (d : Dev) (c : Change) : Dev :=
  match c with
  | .word off _ _ => if 0x5400 ≤ off ∧ off < 0x5E00 then d else d.pendChange c
  | _ => d

/-- An access to one register, or to a LO/HI pair as one (R254, R255, R262): one record for everything in it that is ignored. -/
def Dev.writeSet (d : Dev) (q : Req) (at' : Nat) (ws : List WordWrite) : Dev :=
  let acts := ws.any fun w => (findReg w.off).any fun r => decide (r.writable &&& w.mask ≠ 0)
  if !acts then d
  else if !d.modeTakes q at' then d.accessError q at' 5
  else
    let bad := ws.any (d.wwe q)
    let cs := ws.flatMap (d.waiting q)
    let d1 := ws.foldl (fun d w => d.writeWord q w) d
    let d2 := if cs.isEmpty then d1 else (cs.foldl Dev.pendWrite d1).arrive (cs.map (⟨·, none⟩))
    if bad then d2.accessError q at' 1 else d2

/-! ### Guarded pairs (R257 to R260) -/

/-- The modes in which a completed pair acts (Table 11-4). -/
def Dev.pairTakes (d : Dev) (q : Req) (x : Nat) : Bool :=
  let m := q.mode d
  if x = R.FLT_INJ_MODE ∨ x = R.EVT_CLAY_CLEAR then decide (m = .configure) || decide (m = .test)
  else if x = R.FLT_INJ_CTRL then decide (m = .test)
  else if x = R.STORE_ERASE then decide (m = .configure) && !d.anyStream && !d.storeReading
  else m.served

/-- A completed pair takes effect (R257, R259). (DEDUCED, log 123) -/
def Dev.pairCommit (d : Dev) (q : Req) (x : Nat) (v : Word) : Dev :=
  if !d.pairTakes q x then d.accessError q x 5
  else if x = R.GLB_MODE_REQ then (d.setWord x (v &&& 7)).modeReqCommit q.code (F.GLB_MODE_REQ.MODE.ofWord v)
  else if x = R.GLB_SOFT_RESET then (if v.getLsbD 0 then d.warmReset q.code else d)
  else if x = R.PWR_DOMAIN_CTRL then
    (d.setWord x (v &&& 0x11F#32)).domainCtrl (F.PWR_DOMAIN_CTRL.DOMAIN.ofWord v) (decide (F.PWR_DOMAIN_CTRL.ON.ofWord v = 1))
  else if x = R.FLT_INJ_MODE then d.injModeCommit v
  else if x = R.FLT_INJ_CTRL then d.injCtrlCommit v
  else if x = R.EVT_CLAY_CLEAR then (if v.getLsbD 0 then d.clayClear q.code else d)
  else if x = R.STORE_ERASE then (if v.getLsbD 0 ∧ (d.storeState = 3 ∨ d.storeState = 4) then d.storeEraseGo else d)
  else if x = R.LINK_KEY_CTRL then d.setWord x (v &&& 3)
  else d.setWord x v

/-! ### One write (R250, R257) -/

/-- Whether byte enables are contiguous (R250). -/
def contiguous (be : BitVec 4) : Bool := !([0x5#4, 0x9#4, 0xA#4, 0xB#4, 0xD#4].contains be)

/-- A write of LO stages it (R262). (DEDUCED, log 124) -/
def Dev.stageLo (d : Dev) (q : Req) (r : RegDesc) (off : Nat) (m val : Word) : Dev :=
  let cur := match Tbl.get? d.glb.stages q.key with
    | some s => if s.1 = off then s.2 else d.viewWord r false off
    | none => d.viewWord r false off
  { d with glb := { d.glb with stages := Tbl.put d.glb.stages q.key (off, (cur &&& ~~~m) ||| (val &&& m)) } }

/-- A write of HI commits the pair (R262). -/
def Dev.commitHi (d : Dev) (q : Req) (off : Nat) (m val : Word) : Dev :=
  let hi : WordWrite := ⟨off, m, val⟩
  match Tbl.get? d.glb.stages q.key with
  | some s =>
    if s.1 + 4 = off then
      ({ d with glb := { d.glb with stages := Tbl.del d.glb.stages q.key } }).writeSet q off [⟨s.1, BitVec.allOnes 32, s.2⟩, hi]
    else d.writeSet q off [hi]
  | none => d.writeSet q off [hi]

/-- A write by a requester with no open pair (R250, R257 to R262): whether a guard discarded it. (DEDUCED, log 134) -/
def Dev.writeFresh (d : Dev) (q : Req) (off : Nat) (be : BitVec 4) (val : Word) : Dev × Bool :=
  if !contiguous be then (d.accessError q off 2, false)
  else match gpBase off with
  | some x =>
    if be ≠ 15 then (d.accessError q off 3, false)
    else if isKey x ∧ !q.priv then (d.accessError q off 6, false)
    else if off = x then ({ d with glb := { d.glb with guards := Tbl.put d.glb.guards q.key ⟨x, val, d.now⟩ } }, false)
    else (d.accessError q x 4, true)
  | none =>
    match findReg off with
    | none => (d, false)
    | some r =>
      let m := beMask be
      if 0x20000 ≤ off ∧ off < 0x28000 ∧ d.chFree ((off - 0x20000) / 0x400) ∧ d.modeTakes q off then (d, false)
      else if isLo off ∧ r.writable ≠ 0 then (d.stageLo q r off m val, false)
      else if isHi off ∧ r.writable ≠ 0 then (d.commitHi q off m val, false)
      else (d.writeSet q off [⟨off, m, val⟩], false)

/-- A write of one register (R257, R258): the very next write of a requester completes its open pair or is discarded with it. No enabled
byte is no write (R250), and SMBus writes nothing (R266). -/
def Dev.writeOne (d : Dev) (q : Req) (off : Nat) (be : BitVec 4) (val : Word) : Dev × Bool :=
  if be = 0 ∨ q.code = 6 then (d, false)
  else match Tbl.get? d.glb.guards q.key with
  | none => d.writeFresh q off be val
  | some p =>
    let d1 := { d with glb := { d.glb with guards := Tbl.del d.glb.guards q.key } }
    if d.now ≤ p.at' + msec then
      if off = p.off + 4 ∧ be = 15 ∧ val = ~~~p.val then (d1.pairCommit q p.off p.val, false)
      else (d1.accessError q p.off 4, true)
    else (d1.accessError q p.off 4).writeFresh q off be val

/-! ### Rows -/

/-- An aligned offset in BAR0. -/
def bar0 (off : Nat) : Nat := off % 2 ^ 20 / 4 * 4

/-- Whether a requester's accesses reach the registers: those of the host not while PERST_N is low (R346). (DEDUCED, log 137) -/
def Dev.reaches (d : Dev) (req : Requester) : Bool := decide (req ≠ .host) || !d.boot.perst

/-- A dword of BAR2: the table of eight entries of 16 bytes, the pending bits at 0x800, zero elsewhere (R267; PRESUMED, log 131). -/
def MsixState.word (m : MsixState) (off : Nat) : Word :=
  if off < 0x80 then Tbl.getD m.table off (if off % 16 = 12 then 1 else 0)
  else if off = 0x800 then m.pending.setWidth 32 else 0

/-- A write to BAR2 by the host: a table word takes the enabled bytes, and a vector that waits is sent as it is unmasked (PRESUMED, log 131). -/
def Dev.msixWrite (d : Dev) (off : Nat) (be : BitVec 4) (val : Word) : Dev :=
  if 0x80 ≤ off then d
  else
    let m := beMask be
    let v := off / 16
    let d1 := { d with msix := { d.msix with table := Tbl.put d.msix.table off ((d.msix.word off &&& ~~~m) ||| (val &&& m)) } }
    if d1.msix.pending.getLsbD v ∧ !d1.msix.masked v then
      ({ d1 with msix := { d1.msix with pending := d1.msix.pending &&& ~~~(1#8 <<< v) } }).emit (.msix v)
    else d1

/-- A write of one register as a row. -/
def Dev.rowWrite (d : Dev) (req : Requester) (off : Nat) (be : BitVec 4) (val : Word) : Dev :=
  if d.reaches req then (d.writeOne (d.reqOf req) (bar0 off) be val).1 else d

/-- REGISTER_WRITE (R249 to R254). (DEDUCED, log 125) -/
def registerWrite (req : Requester) (tlp : WriteTlp) (d : Dev) : Dev :=
  match tlp with
  | .one off be val => d.rowWrite req off be val
  | .two off be0 val0 be1 val1 => (d.rowWrite req off be0 val0).rowWrite req (off + 4) be1 val1
  | .long off => if d.reaches req then (d.accessError (d.reqOf req) (bar0 off) 7).emit (.abort (d.reqOf req).key) else d
  | .poisoned off => if d.reaches req then (d.accessError (d.reqOf req) (bar0 off) 7).sendFault 0x052 0x02 .c 0 else d
  | .bar2 off be val => if req = .host ∧ d.reaches req then d.msixWrite (off % 4096 / 4 * 4) be val else d

/-- REGISTER_READ (R249, R251, R261). -/
def registerRead (req : Requester) (tlp : ReadTlp) (d : Dev) : Dev :=
  let q := d.reqOf req
  if !d.reaches req then d
  else match tlp with
  | .one off be =>
    let a := d.readOne q (bar0 off) be
    a.1.emit (.readData q.key [a.2])
  | .two off be0 be1 =>
    let a := d.readOne q (bar0 off) be0
    let b := a.1.readOne q (bar0 (off + 4)) be1
    b.1.emit (.readData q.key [a.2, b.2])
  | .long off => (d.accessError q (bar0 off) 7).emit (.abort q.key)
  | .bar2 off be => if req = .host then d.emit (.readData q.key [d.msix.word (off % 4096 / 4 * 4) &&& beMask be]) else d

/-- GUARD_PAIR_TIMEOUT: an open pair of a requester is discarded 1 ms after its opening write (R258). -/
def guardPairTimeout (req : Requester) (d : Dev) : Dev :=
  let q := d.reqOf req
  match Tbl.get? d.glb.guards q.key with
  | none => d
  | some p =>
    let d1 := d.till (p.at' + msec)
    ({ d1 with glb := { d1.glb with guards := Tbl.del d1.glb.guards q.key } }).accessError q p.off 4

/-- The second half of a guarded pair at X: the complement written to X + 4. -/
def Dev.complWrite (d : Dev) (req : Requester) (x : Nat) (compl : Word) : Dev := d.rowWrite req (x + 4) 15 compl

/-- The complement of an operation of FLT_INJ_CTRL. -/
def injCompl (source kind op : Nat) : Word := ~~~(BitVec.ofNat 32 (source % 1024 + kind % 64 * 1024 + op * 2 ^ 24))

def glbModeReq (req : Requester) (compl : Word) (d : Dev) : Dev := d.complWrite req R.GLB_MODE_REQ compl
def glbSoftReset (req : Requester) (compl : Word) (d : Dev) : Dev := d.complWrite req R.GLB_SOFT_RESET compl
def pwrDomainCtrl (req : Requester) (compl : Word) (d : Dev) : Dev := d.complWrite req R.PWR_DOMAIN_CTRL compl
def fltInjMode (req : Requester) (compl : Word) (d : Dev) : Dev := d.complWrite req R.FLT_INJ_MODE compl
def forceSet (req : Requester) (source kind : Nat) (d : Dev) : Dev := d.complWrite req R.FLT_INJ_CTRL (injCompl source kind 1)
def forceClear (req : Requester) (source kind : Nat) (d : Dev) : Dev := d.complWrite req R.FLT_INJ_CTRL (injCompl source kind 2)
def forceClearAll (req : Requester) (d : Dev) : Dev := d.complWrite req R.FLT_INJ_CTRL (injCompl 0 0 3)
def cbArm (req : Requester) (d : Dev) : Dev := d.complWrite req R.FLT_INJ_CTRL (injCompl 0 0 4)
def cbCancel (req : Requester) (d : Dev) : Dev := d.complWrite req R.FLT_INJ_CTRL (injCompl 0 0 5)
def storeErase (req : Requester) (compl : Word) (d : Dev) : Dev := d.complWrite req R.STORE_ERASE compl
def evtClayClear (req : Requester) (compl : Word) (d : Dev) : Dev := d.complWrite req R.EVT_CLAY_CLEAR compl
def linkKey (req : Requester) (slot word : Nat) (compl : Word) (d : Dev) : Dev :=
  if slot < 2 ∧ word < 8 then d.complWrite req (R.LINK_KEY slot word) compl else d
def linkKeyCtrl (req : Requester) (compl : Word) (d : Dev) : Dev := d.complWrite req R.LINK_KEY_CTRL compl

def cmdSqTail (r : Nat) (be : BitVec 4) (val : Word) (d : Dev) : Dev :=
  if r < 4 then d.rowWrite .host (R.CMD_SQr_TAIL r) be val else d
def cmdCqHead (r : Nat) (be : BitVec 4) (val : Word) (d : Dev) : Dev :=
  if r < 4 then d.rowWrite .host (R.CMD_CQr_HEAD r) be val else d
def ringEn (be : BitVec 4) (val : Word) (d : Dev) : Dev := d.rowWrite .host R.CMD_CTRL be val
def fltAckWrite (req : Requester) (be : BitVec 4) (val : Word) (d : Dev) : Dev := d.rowWrite req R.FLT_ACK be val
def capture (req : Requester) (be : BitVec 4) (val : Word) (d : Dev) : Dev := d.rowWrite req R.TIME_CAP_CTRL be val
def msCtrlEn (req : Requester) (n : Nat) (be : BitVec 4) (val : Word) (d : Dev) : Dev :=
  if n < 4 then d.rowWrite req (R.MSn_CTRL n) be val else d
def msRampCtrlStart (req : Requester) (n : Nat) (be : BitVec 4) (val : Word) (d : Dev) : Dev :=
  if n < 4 then d.rowWrite req (R.MSn_RAMP_CTRL n) be val else d
def msRampCtrlAbort (req : Requester) (n : Nat) (be : BitVec 4) (val : Word) (d : Dev) : Dev :=
  if n < 4 then d.rowWrite req (R.MSn_RAMP_CTRL n) be val else d
def outCtrlEn (req : Requester) (o : Nat) (be : BitVec 4) (val : Word) (d : Dev) : Dev :=
  if o < 32 then d.rowWrite req (R.OUTn_CTRL o) be val else d
def linkCtrlEn (req : Requester) (be : BitVec 4) (val : Word) (d : Dev) : Dev := d.rowWrite req R.LINK_CTRL be val
def storeCtrlEn (req : Requester) (be : BitVec 4) (val : Word) (d : Dev) : Dev := d.rowWrite req R.STORE_CTRL be val
def storeRelease (req : Requester) (be : BitVec 4) (val : Word) (d : Dev) : Dev := d.rowWrite req R.STORE_RELEASE be val
def fieldCtrlEn (req : Requester) (n : Nat) (be : BitVec 4) (val : Word) (d : Dev) : Dev :=
  if n < 8 then d.rowWrite req (R.FIELDn_CTRL n) be val else d
def cntClear (req : Requester) (be : BitVec 4) (val : Word) (d : Dev) : Dev := d.rowWrite req R.MGMT_CTRL be val
def sampEn (req : Requester) (be : BitVec 4) (val : Word) (d : Dev) : Dev := d.rowWrite req R.MGMT_CTRL be val
def checkerTest (req : Requester) (be : BitVec 4) (val : Word) (d : Dev) : Dev := d.rowWrite req R.DBG_CHECK be val

end Sys2Proof.Machine
end

