-- ==== Sys2Proof/Machine/Commands.lean ====
section
/-! DEFINITION. The device commands (R3, R245; MODE_REQUEST is in Modes) and the snapshot commands (R247). -/

namespace Sys2Proof.Machine

/-- NOP (R245). -/
def nopSpec : CmdSpec where
  opcode := 0x0001
  run := fun _ _ d => (d, .ok 0 0)

/-- GET_INFO (R3, Table 10-5). -/
def getInfoSpec : CmdSpec where
  opcode := 0x0002
  run := fun _ _ d =>
    let fw := d.word R.GLB_FW_REV
    (d, .ok 0x9640 (leNat (leBytes 2 0x3141 ++ leBytes 1 (F.GLB_FW_REV.MAJOR.ofWord fw) ++ leBytes 1 (F.GLB_FW_REV.MINOR.ofWord fw) ++
      leBytes 2 (F.GLB_FW_REV.PATCH.ofWord fw) ++ leBytes 1 d.lineDevice ++ leBytes 1 d.glb.mode.code)))

/-- An offset that one 32-bit access can have (R251; DEDUCED, log 73). -/
def accessible (off : Nat) : Bool := decide (off % 4 = 0) && decide (off < 2 ^ 20)

/-- The word that an offset adds to a digest: RC fields count as zero (R245). -/
def Dev.digestWord (d : Dev) (q : Req) (live : Bool) (off : Nat) : Word :=
  d.busWord q live off &&& ~~~((findReg off).map fun r => r.bits .rc).getD 0

/-- CONFIG_DIGEST (R245). -/
def configDigestSpec : CmdSpec where
  opcode := 0x0011
  flagMask := 1
  params := [pu 4 32, pu 4 32]
  checks := fun c _ => [(.range, decide (c.p 0 % 4 ≠ 0) || decide (c.p 1 % 4 ≠ 0) || decide (c.p 1 = 0) || decide (2 ^ 20 < c.p 0 + c.p 1))]
  run := fun c _ d =>
    let d1 := d.mgmtCount
    (d1, .ok (crc32 ((List.range (c.p 1 / 4)).flatMap fun i => leBytes 4 (d1.digestWord c.reqOf (c.flag 0) (c.p 0 + 4 * i)).toNat)) 0)

/-- REG_READ (R245). -/
def regReadSpec : CmdSpec where
  opcode := 0x0020
  params := [pu 4 32]
  checks := fun c _ => [(.range, !accessible (c.p 0))]
  run := fun c _ d =>
    let a := d.readOne c.reqOf (c.p 0) 15
    (a.1, .ok a.2.toNat 0)

/-- REG_WRITE: GUARD where a guard discards the write (R245, R258). -/
def regWriteSpec : CmdSpec where
  opcode := 0x0021
  params := [pu 4 32, pu 4 32]
  checks := fun c _ => [(.range, !accessible (c.p 0))]
  run := fun c _ d =>
    let a := d.writeOne c.reqOf (c.p 0) 15 (BitVec.ofNat 32 (c.p 1))
    (a.1, .done (if a.2 then .guard else .ok) 0 0 false)

/-- A snapshot that does not exist. -/
def Dev.snapFree (d : Dev) (i : Nat) : Bool := (Tbl.get? d.snaps i).isNone

/-- SNAP_CAPTURE (R247, R369). -/
def snapCaptureSpec : CmdSpec where
  opcode := 0x0B00
  params := [pu 8 64]
  checks := fun c d =>
    [(.state, !d.tick.running), (.noResource, (lowestFree 16 d.snapFree).isNone), (.deadline, decide (c.p 0 ≠ 0) && d.tooNear (c.p 0))]
  waits := fun _ _ => true
  run := fun c _ d =>
    let i := (lowestFree 16 d.snapFree).getD 0
    let k := d.bndOf (c.p 0)
    (({ d with snaps := Tbl.put d.snaps i ⟨k, [], [], [], none⟩ }).arm k (.snapshot i) none, .wait (.snapshot i) 0 0)

/-- SNAP_READ (R247); STATE until the image is complete. (DEDUCED, log 144) -/
def snapReadSpec : CmdSpec where
  opcode := 0x0B01
  ty := 9
  isFree := Dev.snapFree
  params := [pu 8 64, pu 4 32]
  hostAddr := some 0
  checks := fun c d => [(.state, ((Tbl.get? d.snaps c.idx).bind (·.image)).isNone)]
  run := fun c _ d =>
    let b := (((Tbl.get? d.snaps c.idx).bind (·.image)).getD []).take (c.p 1)
    d.toHost c (c.p 0) b (.ok b.length 0)

/-- SNAP_RELEASE (R247). -/
def snapReleaseSpec : CmdSpec where
  opcode := 0x0B02
  ty := 9
  isFree := Dev.snapFree
  run := fun c _ d =>
    let d1 := { d with snaps := Tbl.del d.snaps c.idx, armed := d.armed.filter fun a => decide (a.op ≠ ArmOp.snapshot c.idx) }
    ((d1.finishWait (.snapshot c.idx) .staleHandle 0 0).bumpGen 9 c.idx, .ok 0 0)

def nop (src : Source) (d : Dev) : Dev := d.command nopSpec src none
def getInfo (src : Source) (d : Dev) : Dev := d.command getInfoSpec src none
def configDigest (src : Source) (d : Dev) : Dev := d.command configDigestSpec src none
def regRead (src : Source) (d : Dev) : Dev := d.command regReadSpec src none
def regWrite (src : Source) (d : Dev) : Dev := d.command regWriteSpec src none
def snapCapture (src : Source) (d : Dev) : Dev := d.command snapCaptureSpec src none
def snapRead (src : Source) (dmaOk : Bool) (d : Dev) : Dev := d.command snapReadSpec src (dmaOf dmaOk)
def snapRelease (src : Source) (d : Dev) : Dev := d.command snapReleaseSpec src none

end Sys2Proof.Machine
end

