-- ==== Sys2Proof/Machine/Balls.lean ====
section
/-! DEFINITION. The signal pins and their balls (R352, R353, R354), what the device drives onto them (R62, R113, R283, R284, R307, R334, R348, R364, R365),
and what the PCI configuration space of the host endpoint reports (R362). -/

namespace Sys2Proof.Machine

/-- A signal of Table 16-1, a pair of balls counting as one. -/
inductive Signal where
  | oscin | refin (n : Nat) | out (n : Nat)
  | swlTx (n : Nat) | swlRx (n : Nat) | hpeTx (n : Nat) | hpeRx (n : Nat) | stoTx (n : Nat) | stoRx (n : Nat) | stoRefclk
  | stoPerstN | perstN | rstN | bootSel (n : Nat)
  | qspiClk | qspiCsN | qspiIo (n : Nat) | smbScl | smbSda
  | tck | tms | tdi | tdo | trstN
  | croak | faultN | ppsIn | ppsOut | ftick (n : Nat)
  deriving DecidableEq, Repr

/-- The pair of Table 16-3 that has a ball at a place, and whether the ball is its N ball. -/
def pairAt (r c : Nat) : Option (Signal × Bool) :=
  let four (x base : Nat) (s : Nat → Signal) : Option (Signal × Bool) :=
    if base ≤ x ∧ x < base + 16 ∧ (x - base) % 4 < 2 then some (s ((x - base) / 4), decide ((x - base) % 4 = 1)) else none
  if r = 1 then (four c 4 .swlTx).orElse fun _ => four c 22 .hpeTx
  else if r = 3 then (four c 4 .swlRx).orElse fun _ => four c 22 .hpeRx
  else if c = 3 then four r 4 .stoRx
  else if c = 1 then if r = 20 ∨ r = 21 then some (.stoRefclk, decide (r = 21)) else four r 4 .stoTx
  else if c = 38 then
    if 4 ≤ r ∧ r < 28 ∧ (r - 4) % 3 < 2 then some (.refin ((r - 4) / 3), decide ((r - 4) % 3 = 1))
    else if r = 30 ∨ r = 31 then some (.oscin, decide (r = 31)) else none
  else if (r = 37 ∨ r = 38) ∧ 4 ≤ c ∧ c ≤ 35 then some (.out (c - 4), decide (r = 37))
  else none

/-- The single-ended signal at a place (Table 16-4). -/
def singleAt (r c : Nat) : Option Signal :=
  match c, r with
  | 1, 23 => some .stoPerstN | 1, 24 => some .perstN | 1, 25 => some .rstN | 1, 26 => some (.bootSel 0) | 1, 27 => some (.bootSel 1)
  | 1, 28 => some .qspiClk | 1, 29 => some .qspiCsN | 1, 30 => some (.qspiIo 0) | 1, 31 => some (.qspiIo 1) | 1, 32 => some (.qspiIo 2)
  | 1, 33 => some (.qspiIo 3) | 1, 34 => some .smbScl | 1, 35 => some .smbSda
  | 2, 20 => some .tck | 2, 21 => some .tms | 2, 22 => some .tdi | 2, 23 => some .tdo | 2, 24 => some .trstN
  | 2, 26 => some .croak | 2, 27 => some .faultN | 2, 28 => some .ppsIn | 2, 29 => some .ppsOut
  | 2, n => if 30 ≤ n ∧ n ≤ 37 then some (.ftick (n - 30)) else none
  | _, _ => none

/-- The signal of a ball, and whether it is the N ball of a pair. -/
def signalAt (r c : Nat) : Option (Signal × Bool) := (pairAt r c).orElse fun _ => (singleAt r c).map fun s => (s, false)

/-- The supplies of Table 16-2. -/
inductive Supply where
  | vddo (bank : Nat) | swl85 | swl12 | pcie85 | pcie12 | vddaMs (n : Nat) | aon | vddio | vddf | core | sram
  deriving DecidableEq, Repr

/-- What a ball is assigned to. -/
inductive BallUse where
  | signal (s : Signal) (neg : Bool)
  | unconnected
  | supply (v : Supply)
  | vss
  deriving DecidableEq, Repr

/-- The supply of a ball, by the lines 3 to 13 of Table 16-2. -/
def supplyAt (r c : Nat) : Option Supply :=
  let checker := decide (6 ≤ c ∧ c ≤ 33) && decide ((r + c) % 2 = 0)
  if r = 36 ∧ 4 ≤ c ∧ c ≤ 35 then some (.vddo ((c - 4) / 8))
  else if r = 4 ∧ 4 ≤ c ∧ c ≤ 17 then some .swl85
  else if r = 5 ∧ 4 ≤ c ∧ c ≤ 17 then some .swl12
  else if (r = 4 ∧ 22 ≤ c ∧ c ≤ 35) ∨ (c = 4 ∧ 6 ≤ r ∧ r ≤ 17) then some .pcie85
  else if (r = 5 ∧ 22 ≤ c ∧ c ≤ 35) ∨ (c = 5 ∧ 6 ≤ r ∧ r ≤ 17) then some .pcie12
  else if (c = 34 ∨ c = 35) ∧ 6 ≤ r ∧ r < 26 ∧ (r - 6) % 5 < 4 then some (.vddaMs ((r - 6) / 5))
  else if (c = 2 ∨ c = 3) ∧ (r = 18 ∨ r = 19) then some .aon
  else if c = 3 ∧ 20 ≤ r ∧ r ≤ 27 then some .vddio
  else if c = 3 ∧ (r = 31 ∨ r = 33 ∨ r = 35 ∨ r = 37) then some .vddf
  else if 6 ≤ r ∧ r ≤ 27 ∧ checker then some .core
  else if 28 ≤ r ∧ r ≤ 33 ∧ checker then some .sram
  else none

/-- The assignment of a ball of the 38 × 38 grid: the first line of Table 16-2 that names it (R353). -/
def ballUse (r c : Nat) : BallUse :=
  match signalAt r c with
  | some (s, neg) => .signal s neg
  | none =>
    if r = 1 ∧ c = 1 then .unconnected
    else match supplyAt r c with
    | some v => .supply v
    | none => .vss

/-- Every ball of the grid, by row and then by column. -/
def allBalls : List (Nat × Nat) := (List.range 38).flatMap fun r => (List.range 38).map fun c => (r + 1, c + 1)

/-- Whether a signal may be left open, as far as its ball goes, where it is unused (R354). -/
def Signal.openAllowed (s : Signal) : Bool :=
  match s with
  | .oscin => false | .refin _ => true | .out _ => true
  | .swlTx _ => true | .swlRx _ => true | .hpeTx _ => true | .hpeRx _ => true | .stoTx _ => true | .stoRx _ => true | .stoRefclk => true
  | .stoPerstN => true | .perstN => false | .rstN => false | .bootSel _ => true
  | .qspiClk => false | .qspiCsN => false | .qspiIo _ => false | .smbScl => false | .smbSda => false
  | .tck => true | .tms => true | .tdi => true | .tdo => false | .trstN => true
  | .croak => false | .faultN => false | .ppsIn => false | .ppsOut => true | .ftick _ => true

/-- A direction of Table 16-1, as seen from the device: input, push-pull output, three-state output, input and output, open-drain output, open-drain input and
output. -/
inductive Direction where
  | input | output | threeState | inOut | openDrain | inOpenDrain
  deriving DecidableEq, Repr

/-- The direction of a signal (Table 16-1). -/
def Signal.direction (s : Signal) : Direction :=
  match s with
  | .oscin => .input | .refin _ => .input | .out _ => .output
  | .swlTx _ => .output | .swlRx _ => .input | .hpeTx _ => .output | .hpeRx _ => .input | .stoTx _ => .output | .stoRx _ => .input | .stoRefclk => .input
  | .stoPerstN => .output | .perstN => .input | .rstN => .input | .bootSel _ => .input
  | .qspiClk => .output | .qspiCsN => .output | .qspiIo _ => .inOut | .smbScl => .input | .smbSda => .inOpenDrain
  | .tck => .input | .tms => .input | .tdi => .input | .tdo => .threeState | .trstN => .input
  | .croak => .output | .faultN => .openDrain | .ppsIn => .input | .ppsOut => .output | .ftick _ => .output

/-- A level of Table 16-1: the supply that powers the driver or receiver of a pin; VDD_SWL and VDD_PCIE each name two rails. -/
inductive Level where
  | vddio | vddo (bank : Nat) | vddSwl | vddPcie | vddf
  deriving DecidableEq, Repr

/-- The level of a signal (Table 16-1); FAULT_N has none. -/
def Signal.level (s : Signal) : Option Level :=
  match s with
  | .oscin => some .vddio | .refin _ => some .vddio | .out n => some (.vddo (n / 8))
  | .swlTx _ => some .vddSwl | .swlRx _ => some .vddSwl | .hpeTx _ => some .vddPcie | .hpeRx _ => some .vddPcie
  | .stoTx _ => some .vddPcie | .stoRx _ => some .vddPcie | .stoRefclk => some .vddPcie
  | .stoPerstN => some .vddio | .perstN => some .vddio | .rstN => some .vddio | .bootSel _ => some .vddio
  | .qspiClk => some .vddio | .qspiCsN => some .vddio | .qspiIo _ => some .vddio | .smbScl => some .vddio | .smbSda => some .vddio
  | .tck => some .vddio | .tms => some .vddio | .tdi => some .vddio | .tdo => some .vddio | .trstN => some .vddio
  | .croak => some .vddio | .faultN => none | .ppsIn => some .vddio | .ppsOut => some .vddio | .ftick _ => some .vddf

/-- The rails of a level. -/
def Level.supplies (l : Level) : List Supply :=
  match l with
  | .vddio => [.vddio] | .vddo b => [.vddo b] | .vddSwl => [.swl85, .swl12] | .vddPcie => [.pcie85, .pcie12] | .vddf => [.vddf]

/-- Whether the device can drive a signal (Table 16-1). -/
def Signal.drives (s : Signal) : Bool := decide (s.direction ≠ .input)

/-- Whether a driver of a signal can only pull its pin low (Table 16-1). -/
def Signal.pullsOnly (s : Signal) : Bool := decide (s.direction = .openDrain) || decide (s.direction = .inOpenDrain)

/-- What an enabled driver makes of a level: an open-drain one releases its pin for a high. -/
def Signal.driven (s : Signal) (high : Bool) : Pin := if high && s.pullsOnly then .highZ else .of high

/-- Whether the boundary-scan register covers a signal: all but the lanes and the five test-port balls (R366). -/
def Signal.covered (s : Signal) : Bool :=
  match s with
  | .oscin => true | .refin _ => true | .out _ => true
  | .swlTx _ => false | .swlRx _ => false | .hpeTx _ => false | .hpeRx _ => false | .stoTx _ => false | .stoRx _ => false | .stoRefclk => true
  | .stoPerstN => true | .perstN => true | .rstN => true | .bootSel _ => true
  | .qspiClk => true | .qspiCsN => true | .qspiIo _ => true | .smbScl => true | .smbSda => true
  | .tck => false | .tms => false | .tdi => false | .tdo => false | .trstN => false
  | .croak => true | .faultN => true | .ppsIn => true | .ppsOut => true | .ftick _ => true

/-- Whether FTICKn is driven: enabled, with PD21 on, and not in HALT (R331, R348). -/
def Dev.fieldDriven (d : Dev) (n : Nat) : Bool := d.bit (F.FIELDn_CTRL.EN n) && d.domainOn 21 && decide (d.glb.mode ≠ .halt)

/-- What a signal's function drives onto its pin, the P pin of a pair, or what is known of the level of an input; none where the state does not fix it. -/
def Dev.functionPin (d : Dev) (s : Signal) : Option Pin :=
  match s with
  | .out n => match d.pins n false, d.pins n true with
    | some a, some b => if a = b then some a.1 else none
    | _, _ => none
  | .croak => some (if d.flt.croakOn then .of d.flt.croakLevel else .highZ)
  | .faultN => some (if d.faultN then .low else .highZ)
  | .ppsOut => some (.of d.time.ppsOutAt.isSome)
  | .ftick n => some (if d.fieldDriven n then .of ((d.get F.FIELD_STATUS.LEVEL).testBit n != d.bit (F.FIELDn_CTRL.POL n)) else .highZ)
  | .stoPerstN => some (.of d.store.perstHigh)
  | .tdo => some ((d.tap.tdo.map Pin.of).getD .highZ)
  | .rstN => some (.of !d.boot.rstLow)
  | .perstN => if d.boot.perst then some .low else none
  | .oscin => none | .refin _ => none | .swlTx _ => none | .swlRx _ => none | .hpeTx _ => none | .hpeRx _ => none | .stoTx _ => none | .stoRx _ => none
  | .stoRefclk => none | .bootSel _ => none | .qspiClk => none | .qspiCsN => none | .qspiIo _ => none | .smbScl => none | .smbSda => none
  | .tck => none | .tms => none | .tdi => none | .trstN => none | .ppsIn => some (.of d.boot.ppsIn)

/-- FAULT_N of a device without power good: low while VDD_AON is present, high impedance with VDD_AON and VDDIO absent, and not stated with VDDIO alone (R357). -/
def Dev.faultHeld (d : Dev) : Option Pin := if d.boot.vddAon then some .low else if d.boot.vddio then none else some .highZ

/-- The pin of a signal with the test logic at rest: before power good and while RST_N is low every output but FAULT_N is high impedance
(R334, R357, R364, R365). -/
def Dev.signalPin (d : Dev) (s : Signal) : Option Pin :=
  if !d.boot.powered ∨ d.boot.rstLow then
    if s = .faultN then d.faultHeld
    else if s = .rstN then (if d.boot.powered then some .low else none)
    else if s.drives then some .highZ
    else d.functionPin s
  else d.functionPin s

/-- Whether a function drives the P ball of a signal, or its N ball; none where the state does not fix it. An output is driven in both halves of its clock, and LVCMOS may
leave its N ball alone (R62, R366). -/
def Dev.ballDriven (d : Dev) (s : Signal) (neg : Bool) : Option Bool :=
  match s with
  | .out n =>
    if !d.boot.powered ∨ d.boot.rstLow then some false
    else (d.pins n false).map fun a => decide ((if neg then a.2 else a.1) ≠ .highZ)
  | s => (d.signalPin s).map fun p => decide (p ≠ .highZ)

/-! ### The PCI configuration space (R362) -/

/-- What the configuration space reports. -/
structure PciIdentity where
  vendor     : Nat
  device     : Nat
  revision   : Nat
  classCode  : Nat
  bar0       : Nat
  bar2       : Nat
  is64       : Bool
  prefetch   : Bool
  maxPayload : Nat
  maxRead    : Nat
  aspmL0s    : Bool
  aspmL1     : Bool
  l1Substate : Bool
  deriving DecidableEq, Repr

/-- The identity of the host endpoint. -/
def hostEndpoint : PciIdentity where
  vendor := 0x1D4A
  device := 0x9640
  revision := 0xA1
  classCode := 0x118000
  bar0 := 2 ^ 20
  bar2 := 2 ^ 12
  is64 := true
  prefetch := false
  maxPayload := 256
  maxRead := 512
  aspmL0s := false
  aspmL1 := true
  l1Substate := false

/-- The configuration space that a configuration request of the host reads: none answers before its time (R362, R365). -/
def Dev.configSpace (d : Dev) : Option PciIdentity := if d.configAnswered then some hostEndpoint else none

end Sys2Proof.Machine
end

