-- ==== Sys2Proof/Machine/Pins.lean ====
section
/-! DEFINITION. What comes in on the board-management bus (R266, R363) and on the test access port (R366). -/

namespace Sys2Proof.Machine

/-! ### SMBus -/

/-- One step of the CRC-8 of SMBus, polynomial 0x07, over `n` bits. -/
def crc8Bits (c : Byte) : Nat → Byte
  | 0 => c
  | n + 1 => crc8Bits (if c.getLsbD 7 then (c <<< 1) ^^^ 0x07#8 else c <<< 1) n

/-- The PEC of a transaction (R363; SMBus 3.1). -/
def pec (b : List Byte) : Byte := b.foldl (fun c x => crc8Bits (c ^^^ x) 8) 0

/-- SMBUS_PROCESS_CALL: `bytes` are the data bytes that the host writes, as many as its byte count says (R363). The answer has the byte count,
the value, and the PEC where a further byte is clocked. (DESIGN CHOICE, log 145) -/
def smbusProcessCall (code : Nat) (bytes : List Byte) (readExtra : Bool) (d : Dev) : Dev :=
  let o2 := bytes.getD 2 0
  if code ≠ 0x40 ∨ bytes.length ≠ 3 ∨ 16 ≤ o2.toNat then d.emit .smbusEnd
  else
    let answer := 4 :: leBytes 4 (d.smbusWord (leAt bytes 0 3)).toNat
    let all := [0xBC#8, 0x40#8, 3#8] ++ bytes ++ [0xBD#8] ++ answer
    d.emit (.smbus (if readExtra then answer ++ [pec all] else answer))

/-- SMBUS_TIMEOUT: the bus is released (R363). -/
def smbusTimeout (d : Dev) : Dev := d.emit .smbusEnd

/-! ### Test access port -/

/-- The states of the controller of IEEE 1149.1 and their successors for TMS: 0 Test-Logic-Reset, 1 Run-Test/Idle, 2 Select-DR-Scan, 3 Capture-DR, 4
Shift-DR, 5 Exit1-DR, 6 Pause-DR, 7 Exit2-DR, 8 Update-DR, and 9 to 15 the same seven for the instruction register. (PRESUMED, log 142) -/
def tapNext (s : Nat) (tms : Bool) : Nat :=
  match s with
  | 0 => if tms then 0 else 1
  | 1 => if tms then 2 else 1
  | 2 => if tms then 9 else 3
  | 3 => if tms then 5 else 4
  | 4 => if tms then 5 else 4
  | 5 => if tms then 8 else 6
  | 6 => if tms then 7 else 6
  | 7 => if tms then 8 else 4
  | 8 => if tms then 2 else 1
  | 9 => if tms then 0 else 10
  | 10 => if tms then 12 else 11
  | 11 => if tms then 12 else 11
  | 12 => if tms then 15 else 13
  | 13 => if tms then 14 else 13
  | 14 => if tms then 15 else 11
  | _ => if tms then 2 else 1

/-- A ball of the boundary-scan register: its place and its signal, and whether it is the N ball of a pair (R352, R353, R366). -/
structure Ball where
  row    : Nat
  col    : Nat
  signal : Signal
  neg    : Bool
  deriving DecidableEq, Repr

/-- The covered balls, by row and then by column. -/
def balls : List Ball :=
  allBalls.filterMap fun p => match signalAt p.1 p.2 with
    | some (s, neg) => if s.covered then some ⟨p.1, p.2, s, neg⟩ else none
    | none => none

/-- What the test logic drives onto the pins: nothing of its own (the pins run their functions), high impedance, or the cells in force (R366). -/
inductive PinDrive where
  | function
  | highZ
  | cells (l : List Bool)
  deriving DecidableEq, Repr

/-- The instructions; every other code selects BYPASS. -/
inductive TapInstr where
  | extest | sample | idcode | highz | clamp | bypass
  deriving DecidableEq, Repr

/-- The instruction of a code. -/
def tapInstr (code : BitVec 8) : TapInstr :=
  if code = 0 then .extest else if code = 1 then .sample else if code = 2 then .idcode else if code = 5 then .highz
  else if code = 6 then .clamp else .bypass

/-- The drive of the pins (R334, R366). -/
def Dev.pinDrive (d : Dev) : PinDrive :=
  if !d.boot.powered then .highZ
  else match tapInstr d.tap.ir with
  | .extest => .cells d.tap.cells
  | .clamp => .cells d.tap.cells
  | .highz => .highZ
  | .sample => .function
  | .idcode => .function
  | .bypass => .function

/-- What the device drives onto the P ball of covered ball `i`, or is known of its level; none where the state does not fix it. -/
def Dev.ballPin (d : Dev) (i : Nat) (b : Ball) : Option Pin :=
  if !d.boot.powered then d.signalPin b.signal
  else match d.pinDrive with
  | .function => d.signalPin b.signal
  | .highZ => if b.signal.drives then some .highZ else d.signalPin b.signal
  | .cells l =>
    if b.signal.drives then some (if l.getD (2 * i + 1) false then b.signal.driven (l.getD (2 * i) false != b.neg) else .highZ) else d.signalPin b.signal

/-- The level of a ball: that of its pin, and where nothing of the device fixes it, one from outside; QSPI_CS_N is held high by its pull-up (R364);
the N ball of a pair has the complement of
its P ball (R366). -/
def Dev.ballLevel (d : Dev) (outside : Nat) (i : Nat) (b : Ball) : Bool :=
  let row := if b.neg then (match b.signal with | .out _ => 38 | _ => b.row - 1) else b.row
  let p := match d.ballPin i b with
    | some .low => false
    | some .high => true
    | some .highZ => b.signal = .qspiCsN || outside.testBit (row * 39 + b.col)
    | none => outside.testBit (row * 39 + b.col)
  p != b.neg

/-- The output enable of a ball: 0 for an input; for an output, whether its function drives it, which is open where the state does not fix it. -/
def Dev.ballEnable (d : Dev) (outside : Nat) (b : Ball) : Bool :=
  b.signal.drives && (d.ballDriven b.signal b.neg).getD (outside.testBit (b.row * 39 + b.col))

/-- The cells captured from the pins: two per ball, data and output enable. What comes from outside is open (DESIGN CHOICE, log 2; DEDUCED, log 181). -/
def Dev.capturedCells (d : Dev) (levels enables : Nat) : List Bool :=
  balls.zipIdx.flatMap fun b => [d.ballLevel levels b.2 b.1, d.ballEnable enables b.1]

/-- The bits of a number, lowest first. -/
def bitList (n v : Nat) : List Bool := (List.range n).map v.testBit

/-- The number that bits spell, lowest first. -/
def bitNat (l : List Bool) : Nat := l.foldr (fun b n => b2n b + 2 * n) 0

/-- IDCODE (R366). -/
def idcode : Nat := 0x19640A4B

/-- What Capture-DR loads. -/
def Dev.tapCapture (d : Dev) : Dev :=
  match tapInstr d.tap.ir with
  | .extest | .sample =>
    let d1 := d.fresh
    { d1.fresh with tap := { d.tap with shift := d.capturedCells (d.freeVal 1521) (d1.freeVal 1521) } }
  | .idcode => { d with tap := { d.tap with shift := bitList 32 idcode } }
  | .highz | .clamp | .bypass => { d with tap := { d.tap with shift := [false] } }

/-- What Capture-IR loads: 01 in the two lowest bits, the others open (IEEE 1149.1; DESIGN CHOICE, log 2). -/
def Dev.tapCaptureIr (d : Dev) : Dev :=
  { d.fresh with tap := { d.tap with shift := [true, false] ++ bitList 6 (d.freeVal 6) } }

/-- The rising edge of TCK in the state at hand. -/
def Dev.tapRise (d : Dev) (tdi : Bool) : Dev :=
  if d.tap.state = 3 then d.tapCapture
  else if d.tap.state = 10 then d.tapCaptureIr
  else if d.tap.state = 4 ∨ d.tap.state = 11 then { d with tap := { d.tap with shift := d.tap.shift.drop 1 ++ [tdi] } }
  else d

/-- The falling edge of TCK in the state reached: updates, and TDO (R366). -/
def TapState.fall (t : TapState) : TapState :=
  if t.state = 0 then { t with ir := 2, tdo := none }
  else if t.state = 4 ∨ t.state = 11 then { t with tdo := t.shift.head? }
  else if t.state = 15 then { t with ir := BitVec.ofNat 8 (bitNat t.shift), tdo := none }
  else if t.state = 8 ∧ (tapInstr t.ir = .extest ∨ tapInstr t.ir = .sample) then { t with cells := t.shift, tdo := none }
  else { t with tdo := none }

/-- TEST_ACCESS_PORT: a cycle of TCK, or a level of TRST_N (R366). Without supplies there is no test logic (R334). (DEDUCED, log 143) -/
def testAccessPort (op : TapOp) (d : Dev) : Dev :=
  if !d.boot.powered then d
  else match op with
  | .trst low => { d with tap := if low then { TapState.reset with cells := d.tap.cells, trst := true } else { d.tap with trst := false } }
  | .tck tms tdi =>
    if d.tap.trst then d
    else
      let d1 := d.tapRise tdi
      { d1 with tap := TapState.fall { d1.tap with state := tapNext d1.tap.state tms } }

end Sys2Proof.Machine
end

