-- ==== Sys2Proof/Machine/Flags.lean ====
section
/-! DEFINITION. The conditions of the MSI-X vectors 4 to 7 and their enables (R267, R319, Table 11-6). -/

namespace Sys2Proof.Machine

/-- Vector 4: a fault whose reaction includes an interrupt is being handled (Table 12-4). -/
def Dev.irqFault (d : Dev) : Bool := d.flt.rec?.any fun x => decide (1 ≤ x.reaction)

/-- Vector 5: any bit of EVT_EVENT or STORE_EVENT is 1 (R319). -/
def Dev.irqRecorder (d : Dev) : Bool := d.anyEvent [R.EVT_EVENT, R.STORE_EVENT]

/-- Vector 6: a bit of GLB_EVENT_SUMMARY that GLB_EVENT_MASK enables is 1. -/
def Dev.irqSummary (d : Dev) : Bool :=
  decide (d.get F.GLB_EVENT_MASK.MASK ≠ 0) && decide (BitVec.ofNat 13 d.eventSummary &&& BitVec.ofNat 13 (d.get F.GLB_EVENT_MASK.MASK) ≠ 0)

/-- Vector 7: any bit of GLB_MODE_EVENT or GLB_ACCESS_STATUS is 1. -/
def Dev.irqAccess (d : Dev) : Bool := d.anyEvent [R.GLB_MODE_EVENT, R.GLB_ACCESS_STATUS]

/-- The four conditions, vector 4 in bit 0 (Table 11-6). -/
def Dev.irqConds (d : Dev) : BitVec 4 :=
  BitVec.ofNat 4 (b2n d.irqFault + 2 * b2n d.irqRecorder + 4 * b2n d.irqSummary + 8 * b2n d.irqAccess)

/-- GLB_IRQ_EN.VEC_EN. -/
def Dev.irqEnables (d : Dev) : BitVec 4 := BitVec.ofNat 4 (d.get F.GLB_IRQ_EN.VEC_EN)

/-- The vectors of some bits, sent in order. -/
def Dev.sendVectors (d : Dev) (v : BitVec 4) : Dev :=
  [0, 1, 2, 3].foldl (fun d i => if v.getLsbD i then d.sendVector (4 + i) else d) d

/-- Vectors 4 to 7 (R267): one whose condition and enable are 1 is sent once, and again only after its condition has been false. -/
def Dev.irqStage (d : Dev) : Dev :=
  let c := d.irqConds
  let e := d.irqEnables
  ({ d with glb := { d.glb with irqSent := c &&& (d.glb.irqSent ||| e) } }).sendVectors (c &&& e &&& ~~~d.glb.irqSent)

end Sys2Proof.Machine
end

