-- ==== Sys2Proof/Machine/Settle.lean ====
section
/-! DEFINITION. What follows from every command and event before the next one: changes that nothing defers become live, requests that wait
are judged again, and what the state implies is brought up to date. -/

namespace Sys2Proof.Machine

/-- Whether a change touches a register word. -/
def Change.touches (off : Nat) (c : Change) : Bool :=
  match c with
  | .word o _ _ => decide (o = off)
  | .phase o _ slew _ =>
    decide (off = R.OUTn_PHASE_LO o) || decide (off = R.OUTn_PHASE_HI o) || (slew.isSome && decide (off = R.OUTn_PH_SLEW o))
  | _ => false

/-- Pending copies are kept as long as a change waits; without one the pending copy is the live one (R12). (DEDUCED, log 127) -/
def Dev.pendTrim (d : Dev) : Dev :=
  let l := d.pendNow ++ d.pendLate ++ d.schedPend
  { d with pend := d.pend.filter fun p => l.any fun b => b.change.touches p.1 }

/-- The core clock returns to its source at a boundary, or at once where no tick runs (R339). -/
def Dev.coreIdle (d : Dev) : Dev := if d.tick.running then d else d.coreReturn

/-- Firmware writes its data in bank D as it runs (Table 1-2, R287; DESIGN CHOICE, log 14). -/
def Dev.firmwareData (d : Dev) : Dev := if d.firmwareRuns then d.sramSome 3 else d

/-- Everything but the interrupts. -/
def Dev.settleBody (d : Dev) : Dev :=
  let d1 := (d.selWatch.outWatch.ctrlRun.applyIdle.tickStart.serveModeReq).linkRef
  let d2 := ([0, 1, 2, 3].foldl (fun d n => d.calWatch n) d1).timeFollow.ppsGate
  let d3 := (d2.flushReplies.runTriggers).firmwareData.croakWatch
  let d4 := (d3.bootFeed.bootWatch).stepRun
  ((d4.coreIdle.applyIdle).tickStart).pendTrim

/-- All of it; the interrupts of vectors 4 to 7 come last, from the state reached (R267). -/
def Dev.settle (d : Dev) : Dev := d.settleBody.irqStage

/-- A command or event acts on the device while it is powered and not held in reset (R334, R365); the device then settles. -/
def State.onDev (s : State) (f : Dev → Dev) : State :=
  if s.dev.boot.powered && !s.dev.boot.rstLow then { s with dev := (f s.dev).settle } else s

/-- As `onDev`, for an event of an object that the device has; one of no object does not come (DESIGN CHOICE, log 74). -/
def State.onDevFor (s : State) (has : Bool) (f : Dev → Dev) : State := if has then s.onDev f else s

/-- A command or event that acts in every state of the supplies and resets. -/
def State.onAll (s : State) (f : Dev → Dev) : State := { s with dev := (f s.dev).settle }

/-- As `onAll`, where the device restarts, if `taken`: ticks are numbered anew (R110). -/
def State.onReset (s : State) (taken : Bool) (f : Dev → Dev) : State :=
  { s with dev := (f s.dev).settle, lastOpened := if taken then none else s.lastOpened }

/-- A tick boundary: the index it opens is noted (R110, R125). -/
def State.onBoundary (s : State) : State :=
  if s.dev.boot.powered && !s.dev.boot.rstLow then
    { s with dev := (s.dev.tickBoundary s.lastOpened).settle,
             lastOpened := match s.dev.opensK s.lastOpened with | some k => some k | none => s.lastOpened }
  else s

/-- A cycle of the core clock on an empty queue (DESIGN CHOICE, log 1). -/
def State.idle (s : State) : State := s.onDev fun d => d.advance d.corePeriod

end Sys2Proof.Machine
end

