-- ==== Sys2Proof/Machine/Meanings.lean ====
section
/-! DEFINITION. The meaning of every row of the table of operations, one definition per row: the row's own effect, after which the device settles.
No meaning stops: every row the spec lists has an effect, or none, in every state. -/

namespace Sys2Proof.Machine

/-- NOP (R245): Command that does nothing and completes with RESULT 0. -/
def execNop (src : Source) (s : State) : Host.Outcome State Fault Refusal := .next (s.onDev (nop src))

/-- GET_INFO (R3): Returns part number, stepping, firmware release, device number and mode. -/
def execGetInfo (src : Source) (s : State) : Host.Outcome State Fault Refusal := .next (s.onDev (getInfo src))

/-- MODE_REQUEST (R245): Requests a mode transition and completes when the new mode is in force or with BUSY, MODE or STATE. -/
def execModeRequest (src : Source) (s : State) : Host.Outcome State Fault Refusal := .next (s.onDev (modeRequest src))

/-- CONFIG_DIGEST (R245): Returns the CRC-32 over a BAR0 range, optionally over live RWP copies. -/
def execConfigDigest (src : Source) (s : State) : Host.Outcome State Fault Refusal := .next (s.onDev (configDigest src))

/-- REG_READ (R245): Makes one 32-bit register read with in-band requester rights. -/
def execRegRead (src : Source) (s : State) : Host.Outcome State Fault Refusal := .next (s.onDev (regRead src))

/-- REG_WRITE (R245): Makes one 32-bit register write with in-band requester rights, completing GUARD if a guard discards it. -/
def execRegWrite (src : Source) (s : State) : Host.Outcome State Fault Refusal := .next (s.onDev (regWrite src))

/-- CH_CREATE (R65): Binds an output to a new synthesis channel and returns its handle. -/
def execChCreate (src : Source) (s : State) : Host.Outcome State Fault Refusal := .next (s.onDev (chCreate src))

/-- CH_DESTROY (R69): Frees a channel, puts its output in high impedance and advances the handle generation. -/
def execChDestroy (src : Source) (s : State) : Host.Outcome State Fault Refusal := .next (s.onDev (chDestroy src))

/-- CH_CONFIG (R58): Writes source, path, divider word, format, bypass and phase settings of a channel. -/
def execChConfig (src : Source) (s : State) : Host.Outcome State Fault Refusal := .next (s.onDev (chConfig src))

/-- CH_START (R67): Arms a channel to start at boundary K or as soon as its MS is settled. -/
def execChStart (src : Source) (s : State) : Host.Outcome State Fault Refusal := .next (s.onDev (chStart src))

/-- CH_STOP (R68): Stops a channel at boundary K or at once. -/
def execChStop (src : Source) (s : State) : Host.Outcome State Fault Refusal := .next (s.onDev (chStop src))

/-- CH_PHASE (R63): Sets a new phase target and optionally the slew rate, completing when it becomes live. -/
def execChPhase (src : Source) (s : State) : Host.Outcome State Fault Refusal := .next (s.onDev (chPhase src))

/-- CH_STATUS (R246): Returns the state, sub-state, words in force and applied phase of a channel. -/
def execChStatus (src : Source) (dmaOk : Bool) (s : State) : Host.Outcome State Fault Refusal := .next (s.onDev (chStatus src dmaOk))

/-- CH_QUERY (R65): Returns the handle bound to an output or 0. -/
def execChQuery (src : Source) (s : State) : Host.Outcome State Fault Refusal := .next (s.onDev (chQuery src))

/-- MS_CONFIG (R28): Writes the frequency word, prescaler, modulator and spread settings of a disabled MS. -/
def execMsConfig (src : Source) (s : State) : Host.Outcome State Fault Refusal := .next (s.onDev (msConfig src))

/-- MS_START (R31): Selects a band and starts acquisition of an MS, completing on LOCKED. -/
def execMsStart (src : Source) (s : State) : Host.Outcome State Fault Refusal := .next (s.onDev (msStart src))

/-- MS_STOP (R56): Disables an MS when no channel on it runs. -/
def execMsStop (src : Source) (s : State) : Host.Outcome State Fault Refusal := .next (s.onDev (msStop src))

/-- BAND_SURVEY (R33): Starts measuring all 64 bands of a disabled MS. -/
def execBandSurvey (src : Source) (s : State) : Host.Outcome State Fault Refusal := .next (s.onDev (bandSurvey src))

/-- MS_RAMP_LOAD (R52): Writes up to 16 ramp segments of an MS. -/
def execMsRampLoad (src : Source) (dma : Option (List Byte)) (s : State) : Host.Outcome State Fault Refusal := .next (s.onDev (msRampLoad src dma))

/-- MS_RAMP_START (R53): Arms the loaded ramp profile to start at boundary K. -/
def execMsRampStart (src : Source) (s : State) : Host.Outcome State Fault Refusal := .next (s.onDev (msRampStart src))

/-- MS_RAMP_ABORT (R54): Stops a running ramp and holds the frequency reached. -/
def execMsRampAbort (src : Source) (s : State) : Host.Outcome State Fault Refusal := .next (s.onDev (msRampAbort src))

/-- REF_MON_CREATE (R41): Binds a REFIN monitor to its nominal frequency and returns a handle. -/
def execRefMonCreate (src : Source) (s : State) : Host.Outcome State Fault Refusal := .next (s.onDev (refMonCreate src))

/-- REF_MON_DESTROY (R42): Unbinds a reference monitor; DPLLs using it treat it as failed. -/
def execRefMonDestroy (src : Source) (s : State) : Host.Outcome State Fault Refusal := .next (s.onDev (refMonDestroy src))

/-- DPLL_CONFIG (R43): Buffered change of DPLL mode, priorities, bandwidths and limits. -/
def execDpllConfig (src : Source) (s : State) : Host.Outcome State Fault Refusal := .next (s.onDev (dpllConfig src))

/-- DPLL_SELECT (R43): Makes a manual reference selection. -/
def execDpllSelect (src : Source) (s : State) : Host.Outcome State Fault Refusal := .next (s.onDev (dpllSelect src))

/-- DPLL_HOLDOVER (R51): Sets or clears FORCE_HOLDOVER. -/
def execDpllHoldover (src : Source) (s : State) : Host.Outcome State Fault Refusal := .next (s.onDev (dpllHoldover src))

/-- HOLD_MODEL_GET (R49): Returns the holdover model coefficients and learned time. -/
def execHoldModelGet (src : Source) (dmaOk : Bool) (s : State) : Host.Outcome State Fault Refusal := .next (s.onDev (holdModelGet src dmaOk))

/-- HOLD_MODEL_SET (R49): Restores a holdover model, which counts as learned at once. -/
def execHoldModelSet (src : Source) (s : State) : Host.Outcome State Fault Refusal := .next (s.onDev (holdModelSet src))

/-- TIME_SET (R107): Steps ToD to a given value at the next boundary outside the apply window. -/
def execTimeSet (src : Source) (s : State) : Host.Outcome State Fault Refusal := .next (s.onDev (timeSet src))

/-- TIME_ADJUST (R106): Slews or steps ToD by a signed offset. -/
def execTimeAdjust (src : Source) (s : State) : Host.Outcome State Fault Refusal := .next (s.onDev (timeAdjust src))

/-- TIME_GET (R102): Captures ToD, tick index, operating time, PCC and time status at one instant. -/
def execTimeGet (src : Source) (dmaOk : Bool) (s : State) : Host.Outcome State Fault Refusal := .next (s.onDev (timeGet src dmaOk))

/-- TIME_EPOCH_SET (R115): Sets a new line epoch, taking effect at the end of the tick in progress via a transitional tick. -/
def execTimeEpochSet (src : Source) (s : State) : Host.Outcome State Fault Refusal := .next (s.onDev (timeEpochSet src s.lastOpened))

/-- PTP_CONFIG (R117): Buffered change of PTP profile, domain, priorities, classes and intervals. -/
def execPtpConfig (src : Source) (s : State) : Host.Outcome State Fault Refusal := .next (s.onDev (ptpConfig src))

/-- PTP_PORT_CONFIG (R117): Buffered change of one PTP port's enable, delay mechanism, asymmetry and external state. -/
def execPtpPortConfig (src : Source) (s : State) : Host.Outcome State Fault Refusal := .next (s.onDev (ptpPortConfig src))

/-- PTP_STATUS (R246): Returns a PTP port's state, path delay, parent identity and offset. -/
def execPtpStatus (src : Source) (dmaOk : Bool) (s : State) : Host.Outcome State Fault Refusal := .next (s.onDev (ptpStatus src dmaOk))

/-- PPS_CONFIG (R113): Buffered change of PPS enables, edge, delays and width. -/
def execPpsConfig (src : Source) (s : State) : Host.Outcome State Fault Refusal := .next (s.onDev (ppsConfig src))

/-- TICK_STATUS (R142): Returns the tick index, period, schedule settings and tick status. -/
def execTickStatus (src : Source) (dmaOk : Bool) (s : State) : Host.Outcome State Fault Refusal := .next (s.onDev (tickStatus src dmaOk))

/-- TICK_PERIOD_SET (R127): Arms a change of tick period at boundary K, or applies it at once when the tick is not running. -/
def execTickPeriodSet (src : Source) (s : State) : Host.Outcome State Fault Refusal := .next (s.onDev (tickPeriodSet src))

/-- TICK_SCHED_SET (R130): Buffered change of the schedule settings, checked against the current period. -/
def execTickSchedSet (src : Source) (s : State) : Host.Outcome State Fault Refusal := .next (s.onDev (tickSchedSet src))

/-- TICK_WAIT (R142): Waits for boundary K and returns its ToD. -/
def execTickWait (src : Source) (s : State) : Host.Outcome State Fault Refusal := .next (s.onDev (tickWait src))

/-- SHAFT_CREATE (R161): Creates a local or mirror shaft and returns its handle. -/
def execShaftCreate (src : Source) (s : State) : Host.Outcome State Fault Refusal := .next (s.onDev (shaftCreate src))

/-- SHAFT_DESTROY (R151): Frees a shaft with no bound followers. -/
def execShaftDestroy (src : Source) (s : State) : Host.Outcome State Fault Refusal := .next (s.onDev (shaftDestroy src))

/-- SHAFT_CONFIG (R155): Sets profiles, target, trim rate, ID and policies of a non-moving shaft, with optional preset. -/
def execShaftConfig (src : Source) (s : State) : Host.Outcome State Fault Refusal := .next (s.onDev (shaftConfig src))

/-- SHAFT_START (R152): Arms a shaft start at boundary K. -/
def execShaftStart (src : Source) (s : State) : Host.Outcome State Fault Refusal := .next (s.onDev (shaftStart src))

/-- SHAFT_STOP (R154): Arms a controlled or quick stop of a shaft at boundary K. -/
def execShaftStop (src : Source) (s : State) : Host.Outcome State Fault Refusal := .next (s.onDev (shaftStop src))

/-- SHAFT_SPEED (R155): Buffered change of a shaft's speed target. -/
def execShaftSpeed (src : Source) (s : State) : Host.Outcome State Fault Refusal := .next (s.onDev (shaftSpeed src))

/-- SHAFT_TRIM (R155): Buffered change of a shaft's trim and trim rate. -/
def execShaftTrim (src : Source) (s : State) : Host.Outcome State Fault Refusal := .next (s.onDev (shaftTrim src))

/-- SHAFT_RETUNE (R158): Arms a new speed target for boundary K. -/
def execShaftRetune (src : Source) (s : State) : Host.Outcome State Fault Refusal := .next (s.onDev (shaftRetune src))

/-- SHAFT_STATUS (R246): Returns the status window of a shaft. -/
def execShaftStatus (src : Source) (dmaOk : Bool) (s : State) : Host.Outcome State Fault Refusal := .next (s.onDev (shaftStatus src dmaOk))

/-- PROF_CREATE (R146): Allocates contiguous profile segments and returns a profile handle. -/
def execProfCreate (src : Source) (s : State) : Host.Outcome State Fault Refusal := .next (s.onDev (profCreate src))

/-- PROF_DESTROY (R147): Frees an unassigned profile. -/
def execProfDestroy (src : Source) (s : State) : Host.Outcome State Fault Refusal := .next (s.onDev (profDestroy src))

/-- PROF_LOAD (R147): Writes profile segments and checks the profile is well-formed. -/
def execProfLoad (src : Source) (dma : Option (List Byte)) (s : State) : Host.Outcome State Fault Refusal := .next (s.onDev (profLoad src dma))

/-- PROF_READ (R146): Copies a profile's segments to host memory. -/
def execProfRead (src : Source) (dmaOk : Bool) (s : State) : Host.Outcome State Fault Refusal := .next (s.onDev (profRead src dmaOk))

/-- FOL_CREATE (R171): Creates a follower with zero geared position and default limits. -/
def execFolCreate (src : Source) (s : State) : Host.Outcome State Fault Refusal := .next (s.onDev (folCreate src))

/-- FOL_DESTROY (R169): Frees a follower and its slot. -/
def execFolDestroy (src : Source) (s : State) : Host.Outcome State Fault Refusal := .next (s.onDev (folDestroy src))

/-- FOL_CONFIG (R191): Structural change of a follower's shaft, gearing, cam, group, slot and port. -/
def execFolConfig (src : Source) (s : State) : Host.Outcome State Fault Refusal := .next (s.onDev (folConfig src))

/-- FOL_START (R189): Arms a follower start at boundary K with ALIGN and HOLD_SETPOINT options. -/
def execFolStart (src : Source) (s : State) : Host.Outcome State Fault Refusal := .next (s.onDev (folStart src))

/-- FOL_STOP (R190): Arms a follower stop at boundary K. -/
def execFolStop (src : Source) (s : State) : Host.Outcome State Fault Refusal := .next (s.onDev (folStop src))

/-- FOL_OFFSET (R172): Buffered change of a follower's offset target and rate. -/
def execFolOffset (src : Source) (s : State) : Host.Outcome State Fault Refusal := .next (s.onDev (folOffset src))

/-- FOL_LIMITS (R183): Buffered change of warn and trip windows, miss limit and trip reaction. -/
def execFolLimits (src : Source) (s : State) : Host.Outcome State Fault Refusal := .next (s.onDev (folLimits src))

/-- FOL_CLEAR (R185): Takes a TRIPPED follower back to ACQUIRING or SUSPENDED at the next boundary. -/
def execFolClear (src : Source) (s : State) : Host.Outcome State Fault Refusal := .next (s.onDev (folClear src))

/-- FOL_STATUS (R246): Returns a follower's window, geared position, gearing, offsets and counters. -/
def execFolStatus (src : Source) (dmaOk : Bool) (s : State) : Host.Outcome State Fault Refusal := .next (s.onDev (folStatus src dmaOk))

/-- CAM_CREATE (R177): Allocates cam points and a lift, returning a cam handle. -/
def execCamCreate (src : Source) (s : State) : Host.Outcome State Fault Refusal := .next (s.onDev (camCreate src))

/-- CAM_DESTROY (R180): Frees a cam curve no follower uses. -/
def execCamDestroy (src : Source) (s : State) : Host.Outcome State Fault Refusal := .next (s.onDev (camDestroy src))

/-- CAM_LOAD (R180): Writes cam points while every user of the curve is quiesced. -/
def execCamLoad (src : Source) (dma : Option (List Byte)) (s : State) : Host.Outcome State Fault Refusal := .next (s.onDev (camLoad src dma))

/-- CAM_READ (R197): Copies a cam curve's points and lift to host memory. -/
def execCamRead (src : Source) (dmaOk : Bool) (s : State) : Host.Outcome State Fault Refusal := .next (s.onDev (camRead src dmaOk))

/-- GRP_CREATE (R194): Creates a publication group and returns its handle. -/
def execGrpCreate (src : Source) (s : State) : Host.Outcome State Fault Refusal := .next (s.onDev (grpCreate src))

/-- GRP_DESTROY (R194): Frees a group with no members. -/
def execGrpDestroy (src : Source) (s : State) : Host.Outcome State Fault Refusal := .next (s.onDev (grpDestroy src))

/-- GRP_CONFIG (R194): Sets a group's port mask, traffic class and latency mode. -/
def execGrpConfig (src : Source) (s : State) : Host.Outcome State Fault Refusal := .next (s.onDev (grpConfig src))

/-- GRP_LATENCY (R176): Buffered change of a group's LATENCY and LAT_MARGIN. -/
def execGrpLatency (src : Source) (s : State) : Host.Outcome State Fault Refusal := .next (s.onDev (grpLatency src))

/-- GRP_STATUS (R246): Returns a group's members, latency, path delay and misses. -/
def execGrpStatus (src : Source) (dmaOk : Bool) (s : State) : Host.Outcome State Fault Refusal := .next (s.onDev (grpStatus src dmaOk))

/-- CAL_RUN (R85): Requests a host calibration run on an MS, completing when the run ends. -/
def execCalRun (src : Source) (s : State) : Host.Outcome State Fault Refusal := .next (s.onDev (calRun src))

/-- CAL_ABORT (R90): Ends a calibration run in progress or cancels a pending one. -/
def execCalAbort (src : Source) (s : State) : Host.Outcome State Fault Refusal := .next (s.onDev (calAbort src))

/-- CAL_STATUS (R98): Returns the calibration status, result and quality of an MS. -/
def execCalStatus (src : Source) (s : State) : Host.Outcome State Fault Refusal := .next (s.onDev (calStatus src))

/-- CAL_SAVE (R94): Snapshots the calibration and starts writing it to the target QSPI slot. -/
def execCalSave (src : Source) (s : State) : Host.Outcome State Fault Refusal := .next (s.onDev (calSave src))

/-- CAL_RESTORE (R97): Loads coefficients and band tables from a valid calibration slot. -/
def execCalRestore (src : Source) (s : State) : Host.Outcome State Fault Refusal := .next (s.onDev (calRestore src))

/-- CAL_SLOT_INFO (R98): Returns validity, GEN, PCC and OPTIME of a calibration slot. -/
def execCalSlotInfo (src : Source) (s : State) : Host.Outcome State Fault Refusal := .next (s.onDev (calSlotInfo src))

/-- EVT_READ (R300): Copies event records from the Sand area, Clay area or store event region to host memory. -/
def execEvtRead (src : Source) (dmaOk : Bool) (s : State) : Host.Outcome State Fault Refusal := .next (s.onDev (evtRead src dmaOk))

/-- STORE_INFO (R317): Returns the record store state and layout block. -/
def execStoreInfo (src : Source) (dmaOk : Bool) (s : State) : Host.Outcome State Fault Refusal := .next (s.onDev (storeInfo src dmaOk))

/-- STORE_FORMAT (R308): Writes a new format by two superblock updates and deallocates the regions. -/
def execStoreFormat (src : Source) (s : State) : Host.Outcome State Fault Refusal := .next (s.onDev (storeFormat src))

/-- STREAM_CREATE (R302): Creates a recorder stream and returns its handle. -/
def execStreamCreate (src : Source) (s : State) : Host.Outcome State Fault Refusal := .next (s.onDev (streamCreate src))

/-- STREAM_DESTROY (R318): Frees a recorder stream, leaving its segments. -/
def execStreamDestroy (src : Source) (s : State) : Host.Outcome State Fault Refusal := .next (s.onDev (streamDestroy src))

/-- STREAM_CONFIG (R302): Sets a stream's mode, decimation, follower range and window lengths. -/
def execStreamConfig (src : Source) (s : State) : Host.Outcome State Fault Refusal := .next (s.onDev (streamConfig src))

/-- STREAM_START (R302): Arms a stream start at boundary K while the store is READY. -/
def execStreamStart (src : Source) (s : State) : Host.Outcome State Fault Refusal := .next (s.onDev (streamStart src))

/-- STREAM_STOP (R302): Arms a stream stop at boundary K, completing when its last segment is closed. -/
def execStreamStop (src : Source) (s : State) : Host.Outcome State Fault Refusal := .next (s.onDev (streamStop src))

/-- STREAM_TRIGGER (R305): Triggers a running stream, forming or dropping a preserved window. -/
def execStreamTrigger (src : Source) (s : State) : Host.Outcome State Fault Refusal := .next (s.onDev (streamTrigger src))

/-- STORE_READ (R316): Copies read blocks of a stream's trace to host memory. -/
def execStoreRead (src : Source) (dmaOk : Bool) (s : State) : Host.Outcome State Fault Refusal := .next (s.onDev (storeRead src dmaOk))

/-- FLT_READ (R290): Writes the fault record block to host memory. -/
def execFltRead (src : Source) (dmaOk : Bool) (s : State) : Host.Outcome State Fault Refusal := .next (s.onDev (fltRead src dmaOk))

/-- FLT_ACK (R279): Command that acknowledges the fault record being handled. -/
def execFltAck (src : Source) (s : State) : Host.Outcome State Fault Refusal := .next (s.onDev (fltAck src))

/-- FLT_REACTION (R275): Sets the reaction of a source for class C or U. -/
def execFltReaction (src : Source) (s : State) : Host.Outcome State Fault Refusal := .next (s.onDev (fltReaction src))

/-- FLT_INJECT (R286): Sets the force bit of a source and kind in TEST with FORCE mode. -/
def execFltInject (src : Source) (s : State) : Host.Outcome State Fault Refusal := .next (s.onDev (fltInject src))

/-- FLT_INJECT_CLEAR (R290): Clears the force bit of one source or all sources. -/
def execFltInjectClear (src : Source) (s : State) : Host.Outcome State Fault Refusal := .next (s.onDev (fltInjectClear src))

/-- PWR_DOMAIN_SET (R333): Queues a power domain switch and completes when it completes. -/
def execPwrDomainSet (src : Source) (s : State) : Host.Outcome State Fault Refusal := .next (s.onDev (pwrDomainSet src))

/-- PWR_STATUS (R351): Returns the domain-on mask, total power and hottest sensor. -/
def execPwrStatus (src : Source) (s : State) : Host.Outcome State Fault Refusal := .next (s.onDev (pwrStatus src))

/-- SNAP_CAPTURE (R247): Arms a consistent snapshot at boundary K. -/
def execSnapCapture (src : Source) (s : State) : Host.Outcome State Fault Refusal := .next (s.onDev (snapCapture src))

/-- SNAP_READ (R247): Copies a snapshot image to host memory. -/
def execSnapRead (src : Source) (dmaOk : Bool) (s : State) : Host.Outcome State Fault Refusal := .next (s.onDev (snapRead src dmaOk))

/-- SNAP_RELEASE (R247): Frees a snapshot and advances its generation. -/
def execSnapRelease (src : Source) (s : State) : Host.Outcome State Fault Refusal := .next (s.onDev (snapRelease src))

/-- LINE_START_ALL (R158): Arms a barrier start of all participating shafts at K. -/
def execLineStartAll (src : Source) (s : State) : Host.Outcome State Fault Refusal := .next (s.onDev (lineStartAll src))

/-- LINE_STOP_ALL (R158): Arms a barrier stop of all participating shafts at K. -/
def execLineStopAll (src : Source) (s : State) : Host.Outcome State Fault Refusal := .next (s.onDev (lineStopAll src))

/-- ENTRY_FETCH (R226): The device fetches a submission entry once it can reserve a completion slot. -/
def execEntryFetch (ring : Nat) (dma : FetchDma) (s : State) : Host.Outcome State Fault Refusal := .next (s.onDevFor (decide (ring < 4)) (entryFetch ring dma))

/-- CMD_SQ_TAIL (R225): Host doorbell write of a submission ring tail. -/
def execCmdSqTail (ring : Nat) (be : BitVec 4) (val : Word) (s : State) : Host.Outcome State Fault Refusal := .next (s.onDevFor (decide (ring < 4)) (cmdSqTail ring be val))

/-- CMD_CQ_HEAD (R225): Host write of a completion ring head, freeing completion slots. -/
def execCmdCqHead (ring : Nat) (be : BitVec 4) (val : Word) (s : State) : Host.Outcome State Fault Refusal := .next (s.onDevFor (decide (ring < 4)) (cmdCqHead ring be val))

/-- RING_EN (R229): Write of CMD_CTRL.RING_EN enabling or draining ring pairs. -/
def execRingEn (be : BitVec 4) (val : Word) (s : State) : Host.Outcome State Fault Refusal := .next (s.onDev (ringEn be val))

/-- RING_DRAINED (R229): A disabled ring's last command completes and DRAINING clears. -/
def execRingDrained (ring : Nat) (s : State) : Host.Outcome State Fault Refusal := .next (s.onDevFor (decide (ring < 4)) (ringDrained ring))

/-- IN_BAND_COMMAND_FRAME (R221): An in-band command frame is authenticated and queued or rejected. -/
def execInBandCommandFrame (frame : InBandFrame) (s : State) : Host.Outcome State Fault Refusal := .next (s.onDev (inBandCommandFrame frame))

/-- REGISTER_WRITE (R254): A write to a register with no row of its own takes effect by access code and mode. -/
def execRegisterWrite (req : Requester) (tlp : WriteTlp) (s : State) : Host.Outcome State Fault Refusal := .next (s.onDev (registerWrite req tlp))

/-- GUARD_PAIR_TIMEOUT (R258): An open guarded pair not completed within 1 ms is discarded. -/
def execGuardPairTimeout (req : Requester) (s : State) : Host.Outcome State Fault Refusal := .next (s.onDev (guardPairTimeout req))

/-- GLB_MODE_REQ (R269): Completed guarded pair requesting a mode transition. -/
def execGlbModeReq (req : Requester) (compl : Word) (s : State) : Host.Outcome State Fault Refusal := .next (s.onDev (glbModeReq req compl))

/-- GLB_SOFT_RESET (R346): Completed guarded pair with WARM = 1 starting a warm reset. -/
def execGlbSoftReset (req : Requester) (compl : Word) (s : State) : Host.Outcome State Fault Refusal := .next (s.onDev (glbSoftReset req compl))

/-- WARM_RESET_DONE (R346): The short form of step 5 ends and the device enters CONFIGURE. -/
def execWarmResetDone (s : State) : Host.Outcome State Fault Refusal := .next (s.onDev warmResetDone)

/-- PWR_DOMAIN_CTRL (R333): Completed guarded pair requesting a domain switch on or off. -/
def execPwrDomainCtrl (req : Requester) (compl : Word) (s : State) : Host.Outcome State Fault Refusal := .next (s.onDev (pwrDomainCtrl req compl))

/-- FLT_INJ_MODE (R285): Completed guarded pair selecting the injection mechanism. -/
def execFltInjMode (req : Requester) (compl : Word) (s : State) : Host.Outcome State Fault Refusal := .next (s.onDev (fltInjMode req compl))

/-- FORCE_SET (R286): FLT_INJ_CTRL operation setting a force bit and sending one injected message. -/
def execForceSet (req : Requester) (source kind : Nat) (s : State) : Host.Outcome State Fault Refusal := .next (s.onDev (forceSet req source kind))

/-- FORCE_CLEAR (R286): FLT_INJ_CTRL operation clearing one force bit. -/
def execForceClear (req : Requester) (source kind : Nat) (s : State) : Host.Outcome State Fault Refusal := .next (s.onDev (forceClear req source kind))

/-- FORCE_CLEAR_ALL (R286): FLT_INJ_CTRL operation clearing every force bit. -/
def execForceClearAll (req : Requester) (s : State) : Host.Outcome State Fault Refusal := .next (s.onDev (forceClearAll req))

/-- CB_ARM (R287): FLT_INJ_CTRL operation arming check-bit corruption on a target. -/
def execCbArm (req : Requester) (s : State) : Host.Outcome State Fault Refusal := .next (s.onDev (cbArm req))

/-- CB_CANCEL (R287): FLT_INJ_CTRL operation abandoning corruptions not yet made. -/
def execCbCancel (req : Requester) (s : State) : Host.Outcome State Fault Refusal := .next (s.onDev (cbCancel req))

/-- FLT_ACK_WRITE (R279): Write of FLT_ACK.ACK = 1 ending fault handling. -/
def execFltAckWrite (req : Requester) (be : BitVec 4) (val : Word) (s : State) : Host.Outcome State Fault Refusal := .next (s.onDev (fltAckWrite req be val))

/-- STORE_ERASE (R315): Completed guarded pair deallocating every LBA of the store. -/
def execStoreErase (req : Requester) (compl : Word) (s : State) : Host.Outcome State Fault Refusal := .next (s.onDev (storeErase req compl))

/-- EVT_CLAY_CLEAR (R299): Completed guarded pair starting erasure of the Clay area. -/
def execEvtClayClear (req : Requester) (compl : Word) (s : State) : Host.Outcome State Fault Refusal := .next (s.onDev (evtClayClear req compl))

/-- CLAY_CLEAR_DONE (R299): The Clay erase completes and CLAY_CLEARED is written to slot 0. -/
def execClayClearDone (ok : Bool) (s : State) : Host.Outcome State Fault Refusal := .next (s.onDev (clayClearDone ok))

/-- LINK_KEY (R223): Completed guarded pair writing a key word by the privileged function. -/
def execLinkKey (req : Requester) (slot word : Nat) (compl : Word) (s : State) : Host.Outcome State Fault Refusal := .next (s.onDev (linkKey req slot word compl))

/-- LINK_KEY_CTRL (R223): Completed guarded pair setting key slot validity. -/
def execLinkKeyCtrl (req : Requester) (compl : Word) (s : State) : Host.Outcome State Fault Refusal := .next (s.onDev (linkKeyCtrl req compl))

/-- CAPTURE (R102): Write of TIME_CAP_CTRL.CAPTURE latching the capture registers. -/
def execCapture (req : Requester) (be : BitVec 4) (val : Word) (s : State) : Host.Outcome State Fault Refusal := .next (s.onDev (capture req be val))

/-- MS_CTRL_EN (R56): Write of MSn_CTRL.EN starting or stopping an MS as its commands do. -/
def execMsCtrlEn (req : Requester) (ms : Nat) (be : BitVec 4) (val : Word) (s : State) : Host.Outcome State Fault Refusal := .next (s.onDevFor (decide (ms < 4)) (msCtrlEn req ms be val))

/-- MS_RAMP_CTRL_START (R53): Write of MSn_RAMP_CTRL.START starting the ramp profile. -/
def execMsRampCtrlStart (req : Requester) (ms : Nat) (be : BitVec 4) (val : Word) (s : State) : Host.Outcome State Fault Refusal := .next (s.onDevFor (decide (ms < 4)) (msRampCtrlStart req ms be val))

/-- MS_RAMP_CTRL_ABORT (R54): Write of MSn_RAMP_CTRL.ABORT aborting the ramp. -/
def execMsRampCtrlAbort (req : Requester) (ms : Nat) (be : BitVec 4) (val : Word) (s : State) : Host.Outcome State Fault Refusal := .next (s.onDevFor (decide (ms < 4)) (msRampCtrlAbort req ms be val))

/-- OUT_CTRL_EN (R65): Write of OUTn_CTRL.EN acting as CH_START or CH_STOP. -/
def execOutCtrlEn (req : Requester) (out : Nat) (be : BitVec 4) (val : Word) (s : State) : Host.Outcome State Fault Refusal := .next (s.onDevFor (decide (out < 32)) (outCtrlEn req out be val))

/-- LINK_CTRL_EN (R200): Write of LINK_CTRL.EN starting the link or taking it down as a requested shutdown. -/
def execLinkCtrlEn (req : Requester) (be : BitVec 4) (val : Word) (s : State) : Host.Outcome State Fault Refusal := .next (s.onDev (linkCtrlEn req be val))

/-- STORE_CTRL_EN (R307): Write of STORE_CTRL.EN bringing the store up or closing it. -/
def execStoreCtrlEn (req : Requester) (be : BitVec 4) (val : Word) (s : State) : Host.Outcome State Fault Refusal := .next (s.onDev (storeCtrlEn req be val))

/-- STO_PERST_N (R307): 100 ms after STO_REFCLK runs, STO_PERST_N is driven high and training starts. -/
def execStoPerstN (s : State) : Host.Outcome State Fault Refusal := .next (s.onDev stoPerstN)

/-- STORE_MOUNTED (R307): Store bring-up completes and the layout is mounted, setting the store state. -/
def execStoreMounted (ident : NvmeIdent) (s : State) : Host.Outcome State Fault Refusal := .next (s.onDev (storeMounted ident))

/-- STORE_RELEASE (R305): Write freeing preserved windows. -/
def execStoreRelease (req : Requester) (be : BitVec 4) (val : Word) (s : State) : Host.Outcome State Fault Refusal := .next (s.onDev (storeRelease req be val))

/-- FIELD_CTRL_EN (R348): Write of FIELDn_CTRL.EN enabling or disabling a field tick output. -/
def execFieldCtrlEn (req : Requester) (field : Nat) (be : BitVec 4) (val : Word) (s : State) : Host.Outcome State Fault Refusal := .next (s.onDevFor (decide (field < 8)) (fieldCtrlEn req field be val))

/-- CNT_CLEAR (R328): Write clearing all Newt core counters in one cycle. -/
def execCntClear (req : Requester) (be : BitVec 4) (val : Word) (s : State) : Host.Outcome State Fault Refusal := .next (s.onDev (cntClear req be val))

/-- SAMP_EN (R329): Write of SAMP_EN restarting step sampling with MGMT_SAMP_WR at 0. -/
def execSampEn (req : Requester) (be : BitVec 4) (val : Word) (s : State) : Host.Outcome State Fault Refusal := .next (s.onDev (sampEn req be val))

/-- CHECKER_TEST (R291): Write of DBG_CHECK.START starting a checker test. -/
def execCheckerTest (req : Requester) (be : BitVec 4) (val : Word) (s : State) : Host.Outcome State Fault Refusal := .next (s.onDev (checkerTest req be val))

/-- CHECKER_TEST_DONE (R291): A checker test ends and sets DONE, PASS, MISSED and FALSE. -/
def execCheckerTestDone (missed falseFlags : Nat) (s : State) : Host.Outcome State Fault Refusal := .next (s.onDev (checkerTestDone missed falseFlags))

/-- SMBUS_PROCESS_CALL (R363): An SMBus block process call reads one register under R266. -/
def execSmbusProcessCall (code : Nat) (bytes : List Byte) (readExtra : Bool) (s : State) : Host.Outcome State Fault Refusal := .next (s.onDev (smbusProcessCall code bytes readExtra))

/-- SMBUS_TIMEOUT (R363): The device releases the bus after 25 ms of SCL held low. -/
def execSmbusTimeout (s : State) : Host.Outcome State Fault Refusal := .next (s.onDev smbusTimeout)

/-- POWER_GOOD (R334): The internal power-on reset sees the core supplies in range for 1 ms and start-up begins. -/
def execPowerGood (rstHigh : Bool) (bootSel : Nat) (s : State) : Host.Outcome State Fault Refusal := .next (s.onReset (!s.dev.boot.powered) (powerGood rstHigh bootSel))

/-- SUPPLY_FALL (R334): VDD_CORE falls below its range and every output goes to high impedance. -/
def execSupplyFall (s : State) : Host.Outcome State Fault Refusal := .next (s.onReset s.dev.boot.powered (supplyFall))

/-- RST_N_ASSERT (R365): RST_N low for 1 µs or more resets the whole device. -/
def execRstNAssert (lowNs : Nat) (s : State) : Host.Outcome State Fault Refusal := .next (s.onReset (s.dev.boot.powered && !s.dev.boot.rstLow && s.dev.pulseTaken lowNs) (rstNAssert lowNs))

/-- RST_N_RELEASE (R365): RST_N rises, BOOT_SEL is sampled and start-up runs from step 2. -/
def execRstNRelease (bootSel : Nat) (s : State) : Host.Outcome State Fault Refusal := .next (s.onAll (rstNRelease bootSel))

/-- PERST_N (R346): PERST_N assertion resets the host endpoint and disables the rings. -/
def execPerstN (lowNs : Nat) (s : State) : Host.Outcome State Fault Refusal := .next (s.onAll (perstN lowNs))

/-- HPE_LINK_DOWN (R362): The host endpoint link leaves L0/L1 for Detect or Recovery fails. -/
def execHpeLinkDown (s : State) : Host.Outcome State Fault Refusal := .next (s.onDev hpeLinkDown)

/-- RAIL_CHECK (R344): Start-up step 1 ends when the analogue and link rails are in range. -/
def execRailCheck (good : BitVec 17) (s : State) : Host.Outcome State Fault Refusal := .next (s.onAll (railCheck good))

/-- RESET_RELEASE (R344): Start-up step 2 releases the internal reset. -/
def execResetRelease (s : State) : Host.Outcome State Fault Refusal := .next (s.onDev resetRelease)

/-- IMAGE_COPY (R344): Start-up step 3 ends when the firmware image is copied to bank D. -/
def execImageCopy (flash : Option FlashInfo) (s : State) : Host.Outcome State Fault Refusal := .next (s.onDev (imageCopy flash))

/-- SIGNATURE_CHECK (R324): Start-up step 4 verifies the image signature and starts the cores, or retries the other slot. -/
def execSignatureCheck (header body : Option (List Byte)) (s : State) : Host.Outcome State Fault Refusal := .next (s.onDev (signatureCheck header body))

/-- SRAM_INITIALISATION (R343): Start-up step 5 ends with SRAM initialised, configuration checked, calibration loaded and REGS_READY set. -/
def execSramInitialisation (cfgA cfgB : Option (List Byte)) (s : State) : Host.Outcome State Fault Refusal := .next (s.onDev (sramInitialisation cfgA cfgB))

/-- CORE_PLL_LOCK (R344): Start-up step 6 ends when the core PLL locks and the core clock switches to it. -/
def execCorePllLock (s : State) : Host.Outcome State Fault Refusal := .next (s.onDev corePllLock)

/-- START_UP_LIST (R345): Start-up step 7 ends when domains are on, surveys run and the list is executed. -/
def execStartUpList (s : State) : Host.Outcome State Fault Refusal := .next (s.onDev startUpList)

/-- REFERENCE_QUALIFICATION (R344): Start-up step 8 ends when every monitor is VALID or REF_WAIT_MS passes. -/
def execReferenceQualification (s : State) : Host.Outcome State Fault Refusal := .next (s.onDev referenceQualification)

/-- TIME_ACQUISITION (R344): Start-up step 9 ends when TIME_VALID is 1 or TIME_WAIT_MS passes. -/
def execTimeAcquisition (s : State) : Host.Outcome State Fault Refusal := .next (s.onDev timeAcquisition)

/-- INITIAL_CALIBRATION (R344): Start-up step 10 ends when START runs end or defer, or CAL_WAIT_MS passes. -/
def execInitialCalibration (s : State) : Host.Outcome State Fault Refusal := .next (s.onDev initialCalibration)

/-- OSCIN_LOST (R340): No OSCIN edge for 8 ring periods: clock-loss cascade and CLK OSCIN_LOST. -/
def execOscinLost (s : State) : Host.Outcome State Fault Refusal := .next (s.onDev oscinLost)

/-- OSCIN_RETURNED (R340): OSCIN active for 10 ms counts as returned and clocks move back to it. -/
def execOscinReturned (s : State) : Host.Outcome State Fault Refusal := .next (s.onDev oscinReturned)

/-- CORE_PLL_LOST (R339): Core PLL lock loss switches the core clock to OSCIN bypass. -/
def execCorePllLost (s : State) : Host.Outcome State Fault Refusal := .next (s.onDev corePllLost)

/-- CORE_PLL_RELOCKED (R339): The core PLL has stayed locked 1 ms and the core clock returns to it. -/
def execCorePllRelocked (s : State) : Host.Outcome State Fault Refusal := .next (s.onDev corePllRelocked)

/-- RAIL_UV (R335): A rail below 92 % of nominal for 20 µs sends PWR RAIL_UV. -/
def execRailUv (rail mv mw : Nat) (s : State) : Host.Outcome State Fault Refusal := .next (s.onDevFor (decide (rail < 17)) (railUv rail mv mw))

/-- RAIL_OV (R335): A rail above 110 % of nominal for 20 µs sends PWR RAIL_OV, class F. -/
def execRailOv (rail mv mw : Nat) (s : State) : Host.Outcome State Fault Refusal := .next (s.onDevFor (decide (rail < 17)) (railOv rail mv mw))

/-- TEMP_CONVERSION (R336): A temperature sensor completes a conversion every 250 µs. -/
def execTempConversion (sensor : Nat) (reading : Int) (s : State) : Host.Outcome State Fault Refusal := .next (s.onDevFor (decide (sensor < 8)) (tempConversion sensor reading))

/-- TJ_HIGH (R336): A valid sensor above TEMP_HIGH for 10 ms sends PWR TJ_HIGH. -/
def execTjHigh (sensor : Nat) (s : State) : Host.Outcome State Fault Refusal := .next (s.onDevFor (decide (sensor < 8)) (tjHigh sensor))

/-- TJ_CRIT (R336): A valid sensor above 125 °C for 1 ms sends PWR TJ_CRIT, class F. -/
def execTjCrit (sensor : Nat) (s : State) : Host.Outcome State Fault Refusal := .next (s.onDevFor (decide (sensor < 8)) (tjCrit sensor))

/-- DOMAIN_SWITCH_START (R332): The next queued domain switch starts 20 µs after the previous one, judged against its condition. -/
def execDomainSwitchStart (s : State) : Host.Outcome State Fault Refusal := .next (s.onDev domainSwitchStart)

/-- SWITCH_DONE (R332): A domain switch completes on power good or open switch. -/
def execSwitchDone (s : State) : Host.Outcome State Fault Refusal := .next (s.onDev switchDone)

/-- SWITCH_FAIL (R332): A switch-on without power good within 50 µs leaves the domain off. -/
def execSwitchFail (s : State) : Host.Outcome State Fault Refusal := .next (s.onDev switchFail)

/-- VDDO_LEVEL (R358): A bank supply reading changes after staying 100 µs in its new window. -/
def execVddoLevel (bank mv : Nat) (s : State) : Host.Outcome State Fault Refusal := .next (s.onDevFor (decide (bank < 4)) (vddoLevel bank mv))

/-- LOCK_GAINED (R34): An MS meets its lock window for LOCK_CNT comparisons and becomes LOCKED. -/
def execLockGained (ms : Nat) (phErr : Int) (s : State) : Host.Outcome State Fault Refusal := .next (s.onDevFor (decide (ms < 4)) (lockGained ms phErr))

/-- LOCK_LOST (R35): An MS loses lock, sending MSn LOCK_LOST and switching its outputs toward bypass. -/
def execLockLost (ms : Nat) (slip : Bool) (phErr : Int) (s : State) : Host.Outcome State Fault Refusal := .next (s.onDevFor (decide (ms < 4)) (lockLost ms slip phErr))

/-- MS_START_TIMEOUT (R35): An MS not locked within 5 ms of MS_START completes it with TIMEOUT. -/
def execMsStartTimeout (ms : Nat) (s : State) : Host.Outcome State Fault Refusal := .next (s.onDevFor (decide (ms < 4)) (msStartTimeout ms))

/-- REACQ_TIMEOUT (R36): After 5 ms without lock, an auto-reacquiring MS reruns band selection once. -/
def execReacqTimeout (ms : Nat) (s : State) : Host.Outcome State Fault Refusal := .next (s.onDevFor (decide (ms < 4)) (reacqTimeout ms))

/-- MS_SETTLE (R38): An MS locked for MS_SETTLE returns its automatic outputs from bypass. -/
def execMsSettle (ms : Nat) (s : State) : Host.Outcome State Fault Refusal := .next (s.onDevFor (decide (ms < 4)) (msSettle ms))

/-- BYPASS_SWITCH_DONE (R72): A glitch-free switch between two clocks completes at the new clock's edges. -/
def execBypassSwitchDone (out : Nat) (s : State) : Host.Outcome State Fault Refusal := .next (s.onDevFor (decide (out < 32)) (bypassSwitchDone out))

/-- HIGH_TIME_LIMIT (R72): An old clock without a falling edge within its high time takes the output to idle. -/
def execHighTimeLimit (out : Nat) (s : State) : Host.Outcome State Fault Refusal := .next (s.onDevFor (decide (out < 32)) (highTimeLimit out))

/-- GUARD (R75): An output edge earlier than the guard minimum is delayed, counted and reported. -/
def execOutGuard (pulse : GuardPulse) (s : State) : Host.Outcome State Fault Refusal :=
  .next (s.onDevFor (decide (pulse.out < 32)) (outGuard pulse.out pulse.half))

/-- SURVEY_DONE (R33): A band survey completes, rewriting the band table with its VALID count. -/
def execSurveyDone (ms : Nat) (bands : List BandMeasure) (s : State) : Host.Outcome State Fault Refusal := .next (s.onDevFor (decide (ms < 4)) (surveyDone ms bands))

/-- RAMP_SEGMENT_END (R52): A ramp segment's dwell ends and the next segment starts. -/
def execRampSegmentEnd (ms : Nat) (s : State) : Host.Outcome State Fault Refusal := .next (s.onDevFor (decide (ms < 4)) (rampSegmentEnd ms))

/-- RAMP_DONE (R54): An MS ramp profile completes and raises RAMP_DONE. -/
def execRampDone (ms : Nat) (s : State) : Host.Outcome State Fault Refusal := .next (s.onDevFor (decide (ms < 4)) (rampDone ms))

/-- CHANNEL_START (R67): A K = 0 channel starts once its MS has been LOCKED for CH_SETTLE. -/
def execChannelStart (out : Nat) (s : State) : Host.Outcome State Fault Refusal := .next (s.onDevFor (decide (out < 32)) (channelStart out))

/-- CH_START_TIMEOUT (R67): An MS not ready within 10 ms returns an ARMED channel to CONFIGURED with TIMEOUT. -/
def execChStartTimeout (out : Nat) (s : State) : Host.Outcome State Fault Refusal := .next (s.onDevFor (decide (out < 32)) (chStartTimeout out))

/-- CHANNEL_STOPPED (R68): A stopping output reaches idle at its falling edge and the channel becomes STOPPED. -/
def execChannelStopped (out : Nat) (s : State) : Host.Outcome State Fault Refusal := .next (s.onDevFor (decide (out < 32)) (channelStopped out))

/-- PHASE_SLEW_DONE (R63): An output's applied phase reaches its target and SLEWING clears. -/
def execPhaseSlewDone (out : Nat) (s : State) : Host.Outcome State Fault Refusal := .next (s.onDevFor (decide (out < 32)) (phaseSlewDone out))

/-- ACTIVITY_FAIL (R42): No REFIN edge within ACT_TIMEOUT half periods sends the monitor to INVALID. -/
def execActivityFail (refin : Nat) (s : State) : Host.Outcome State Fault Refusal := .next (s.onDevFor (decide (refin < 8)) (activityFail refin))

/-- FREQUENCY_GATE (R42): A reference frequency gate ends and the monitor state is updated. -/
def execFrequencyGate (refin : Nat) (ppb : Int) (s : State) : Host.Outcome State Fault Refusal := .next (s.onDevFor (decide (refin < 8)) (frequencyGate refin ppb))

/-- REFERENCE_SELECTION (R43): DPLL reference selection is evaluated on monitor change and at least every millisecond. -/
def execReferenceSelection (ms : Nat) (s : State) : Host.Outcome State Fault Refusal := .next (s.onDevFor (decide (ms < 4)) (referenceSelection ms))

/-- DPLL_NARROW (R47): After 16 comparisons within the window the DPLL narrows to its final bandwidth. -/
def execDpllNarrow (ms : Nat) (phErr : Int) (s : State) : Host.Outcome State Fault Refusal := .next (s.onDevFor (decide (ms < 4)) (dpllNarrow ms phErr))

/-- DPLL_LOCKED (R47): A DPLL meets its lock criterion for DPLL_LOCK_CNT comparisons. -/
def execDpllLocked (ms : Nat) (phErr : Int) (s : State) : Host.Outcome State Fault Refusal := .next (s.onDevFor (decide (ms < 4)) (dpllLocked ms phErr))

/-- STEER_LIMIT (R48): A correction beyond STEER_LIMIT holds STEER and sends MSn STEER_LIMIT. -/
def execSteerLimit (ms : Nat) (correction : Int) (s : State) : Host.Outcome State Fault Refusal := .next (s.onDevFor (decide (ms < 4)) (steerLimit ms correction))

/-- MODEL_VALID (R49): A DPLL LOCKED for LEARN_MIN minutes sets MODEL_VALID. -/
def execModelValid (ms : Nat) (s : State) : Host.Outcome State Fault Refusal := .next (s.onDevFor (decide (ms < 4)) (modelValid ms))

/-- EXT_TEMP_TIMEOUT (R49): EXT_TEMP not refreshed for 5 s makes the die sensor used and sets EXTRAP. -/
def execExtTempTimeout (ms : Nat) (s : State) : Host.Outcome State Fault Refusal := .next (s.onDevFor (decide (ms < 4)) (extTempTimeout ms))

/-- CAL_UPDATE (R79): 1,024 samples accumulate and firmware computes an LMS update into the pending copy. -/
def execCalUpdate (ms : Nat) (steps : List (Nat × Int)) (s : State) : Host.Outcome State Fault Refusal :=
  .next (s.onDevFor (decide (ms < 4)) (calUpdate ms steps))

/-- TEMP_TRIGGER (R84): Firmware's 1 ms temperature comparison may trigger a calibration run. -/
def execTempTrigger (ms : Nat) (s : State) : Host.Outcome State Fault Refusal := .next (s.onDevFor (decide (ms < 4)) (tempTrigger ms))

/-- PRECOND_CHECK (R87): Firmware re-checks a deferred run's preconditions every 1 ms. -/
def execPrecondCheck (ms : Nat) (s : State) : Host.Outcome State Fault Refusal := .next (s.onDevFor (decide (ms < 4)) (precondCheck ms))

/-- CAL_RUN_TIMEOUT (R90): A run still in progress 4.0 s after starting is aborted. -/
def execCalRunTimeout (ms : Nat) (s : State) : Host.Outcome State Fault Refusal := .next (s.onDevFor (decide (ms < 4)) (calRunTimeout ms))

/-- CAL_SAVE_COMPLETE (R94): The flash erase, program and read-back of a save finish and MARK is programmed. -/
def execCalSaveComplete (readBackOk : Bool) (s : State) : Host.Outcome State Fault Refusal := .next (s.onDev (calSaveComplete readBackOk))

/-- FLASH_TIMEOUT (R94): A flash operation exceeding twice its SFDP maximum fails the save with CAL SAVE_FAIL. -/
def execFlashTimeout (s : State) : Host.Outcome State Fault Refusal := .next (s.onDev flashTimeout)

/-- TICK_BOUNDARY (R137): A tick boundary opens and its actions run in the order of Table 6-4. -/
def execTickBoundary (s : State) : Host.Outcome State Fault Refusal := .next (s.onBoundary)

/-- FEEDBACK_CUTOFF (R131): The feedback cutoff deadline of a tick is checked. -/
def execFeedbackCutoff (unevaluated : List Nat) (s : State) : Host.Outcome State Fault Refusal := .next (s.onDev (feedbackCutoff unevaluated))

/-- COMPUTE_START (R144): At the compute-start point shafts advance and followers are computed and published. -/
def execComputeStart (s : State) : Host.Outcome State Fault Refusal := .next (s.onDev computeStart)

/-- MIRROR_LOST (R164): A mirror without records for MISS_LIMIT ticks quick-stops and sends SHAFT MIRROR_LOST. -/
def execMirrorLost (shaft : Nat) (s : State) : Host.Outcome State Fault Refusal := .next (s.onDevFor (decide (shaft < 64)) (mirrorLost shaft))

/-- COMPUTE_COMPLETE (R131): The compute-complete deadline is checked and follower windows and trace are refreshed. -/
def execComputeComplete (work : ComputeWork) (s : State) : Host.Outcome State Fault Refusal := .next (s.onDev (computeComplete work))

/-- PUBLISH_DEADLINE (R131): Frames not handed over by the publish deadline are discarded. -/
def execPublishDeadline (endNs : Nat) (s : State) : Host.Outcome State Fault Refusal := .next (s.onDev (publishDeadline endNs))

/-- GAP_WORK_COMPLETE (R131): The apply window opens and gap-work staging is checked. -/
def execGapWorkComplete (staged : Bool) (s : State) : Host.Outcome State Fault Refusal := .next (s.onDev (gapWorkComplete staged))

/-- CARRIAGE_FRAME_TRANSMIT (R209): A handed-over carriage frame is transmitted once its class is not paused. -/
def execCarriageFrameTransmit (s : State) : Host.Outcome State Fault Refusal := .next (s.onDev carriageFrameTransmit)

/-- BACKPRESSURE_TIMEOUT (R215): A PTP or in-band response held 10 ms by back-pressure is discarded. -/
def execBackpressureTimeout (s : State) : Host.Outcome State Fault Refusal := .next (s.onDev backpressureTimeout)

/-- FEEDBACK_FRAME (R210): A feedback frame is checked and its records evaluated for lock and path delay. -/
def execFeedbackFrame (frame : FeedbackFrame) (s : State) : Host.Outcome State Fault Refusal := .next (s.onDev (feedbackFrame frame))

/-- MISS_RUN (R183): A follower whose missing-feedback count exceeds MISS_LIMIT trips with cause MISSING. -/
def execMissRun (follower : Nat) (s : State) : Host.Outcome State Fault Refusal := .next (s.onDevFor (decide (follower < 4096)) (missRun follower))

/-- GOOD_RUN (R183): Eight consecutive good ticks make an ACQUIRING or SLIPPING follower LOCKED. -/
def execGoodRun (follower : Nat) (s : State) : Host.Outcome State Fault Refusal := .next (s.onDevFor (decide (follower < 4096)) (goodRun follower))

/-- RESYNC_COMPARE (R188): After 16 good ticks a RESYNC follower is compared and goes ACQUIRING or TRIPPED. -/
def execResyncCompare (follower : Nat) (s : State) : Host.Outcome State Fault Refusal := .next (s.onDevFor (decide (follower < 4096)) (resyncCompare follower))

/-- LATENCY_UPDATE (R176): A MEASURED group's latency is raised, or every 4,096 ticks lowered, to the needed value. -/
def execLatencyUpdate (group : Nat) (s : State) : Host.Outcome State Fault Refusal := .next (s.onDevFor (decide (group < 1024)) (latencyUpdate group))

/-- SHAFT_STATE_FRAME (R211): A received shaft-state frame's records are handed to mirrors. -/
def execShaftStateFrame (frame : ShaftFrame) (s : State) : Host.Outcome State Fault Refusal := .next (s.onDev (shaftStateFrame frame))

/-- REPORTS (R218): An egress report unit is matched to outstanding frames by SEQ. -/
def execEgressReports (reports : List EgressReport) (s : State) : Host.Outcome State Fault Refusal := .next (s.onDev (egressReports reports))

/-- REPORT_MISSING (R218): A report not received by the end of the following tick, or 10 ms, is counted missing. -/
def execReportMissing (s : State) : Host.Outcome State Fault Refusal := .next (s.onDev reportMissing)

/-- PORT_STATUS (R217): A port status unit updates port state; port-up starts resynchronisation. -/
def execPortStatus (mask : Nat) (s : State) : Host.Outcome State Fault Refusal := .next (s.onDev (portStatus mask))

/-- PTP_MESSAGE (R212): A received PTP frame is processed by the PTP instance and servo. -/
def execPtpMessage (msg : PtpMessage) (s : State) : Host.Outcome State Fault Refusal := .next (s.onDev (ptpMessage msg))

/-- PTP_MESSAGE_INTERVAL (R117): A PTP message interval expires and the instance sends its message. -/
def execPtpMessageInterval (port : Nat) (kind : PtpKind) (s : State) : Host.Outcome State Fault Refusal := .next (s.onDevFor (decide (port < 256)) (ptpMessageInterval port kind))

/-- ANNOUNCE_TIMEOUT (R121): Announce timeout or missing Syncs put the time engine in holdover. -/
def execAnnounceTimeout (port : Nat) (s : State) : Host.Outcome State Fault Refusal := .next (s.onDevFor (decide (port < 256)) (announceTimeout port))

/-- PPS_IN (R112): A PPS_IN edge is timestamped and drives the phase servo. -/
def execPpsIn (s : State) : Host.Outcome State Fault Refusal := .next (s.onDev ppsIn)

/-- PPS_IN_LOST (R112): No usable PPS_IN edge in 1.1 s puts the time engine in holdover. -/
def execPpsInLost (s : State) : Host.Outcome State Fault Refusal := .next (s.onDev ppsInLost)

/-- PPS_OUT (R113): PPS_OUT rises as ToD crosses a whole second. -/
def execPpsOut (s : State) : Host.Outcome State Fault Refusal := .next (s.onDev ppsOut)

/-- PPS_OUT_FALL (R113): PPS_OUT falls after PPS_WIDTH ms. -/
def execPpsOutFall (s : State) : Host.Outcome State Fault Refusal := .next (s.onDev ppsOutFall)

/-- SLEW_DONE (R106): A ToD slew absorbs its offset and raises SLEW_DONE. -/
def execSlewDone (s : State) : Host.Outcome State Fault Refusal := .next (s.onDev slewDone)

/-- TIME_SYNC_UNIT (R213): A time-sync unit is sent to the switch core every LINK_TSYNC period. -/
def execTimeSyncUnit (s : State) : Host.Outcome State Fault Refusal := .next (s.onDev timeSyncUnit)

/-- TIME_ECHO (R213): A TIME_ECHO unit gives a link delay sample. -/
def execTimeEcho (echo : TimeEcho) (s : State) : Host.Outcome State Fault Refusal := .next (s.onDev (timeEcho echo))

/-- PFC_FRAME (R202): A received PFC frame pauses or resumes traffic classes. -/
def execPfcFrame (classes : BitVec 8) (quanta : List Nat) (s : State) : Host.Outcome State Fault Refusal := .next (s.onDev (pfcFrame classes quanta))

/-- PAUSE_EXPIRY (R202): A class's pause quanta expire and transmission resumes. -/
def execPauseExpiry (cls : Nat) (s : State) : Host.Outcome State Fault Refusal := .next (s.onDevFor (decide (cls < 8)) (pauseExpiry cls))

/-- LINK_UP (R200): The switch link trains and locks and comes up. -/
def execLinkUp (s : State) : Host.Outcome State Fault Refusal := .next (s.onDev linkUp)

/-- LINK_DOWN (R200): The PCS loses alignment and the switch link goes down. -/
def execLinkDown (s : State) : Host.Outcome State Fault Refusal := .next (s.onDev linkDown)

/-- FAULT_MESSAGE (R276): The collector takes a fault message and captures, merges or logs it. -/
def execFaultMessage (s : State) : Host.Outcome State Fault Refusal := .next (s.onDev faultMessage)

/-- ECC_CORR (R273): An SRAM bank corrects a single-bit error and sends ECC_CORR. -/
def execEccCorr (bank addr : Nat) (s : State) : Host.Outcome State Fault Refusal := .next (s.onDevFor (decide (bank < 4)) (eccCorr bank addr))

/-- ECC_UNCORR (R273): A double-bit error fails the read, sends ECC_UNCORR and takes the bank out. -/
def execEccUncorr (bank addr : Nat) (s : State) : Host.Outcome State Fault Refusal := .next (s.onDevFor (decide (bank < 4)) (eccUncorr bank addr))

/-- CROAK_EDGE (R284): At each 500 µs half-period CROAK toggles if every alive condition held. -/
def execCroakEdge (s : State) : Host.Outcome State Fault Refusal := .next (s.onDev croakEdge)

/-- FIRMWARE_HEARTBEAT (R321): Firmware writes its 1 ms heartbeat if every online core passed its scheduler. -/
def execFirmwareHeartbeat (s : State) : Host.Outcome State Fault Refusal := .next (s.onDev firmwareHeartbeat)

/-- HEARTBEAT (R321): 10 ms without a heartbeat sends NEWT HEARTBEAT. -/
def execHeartbeat (s : State) : Host.Outcome State Fault Refusal := .next (s.onDev heartbeat)

/-- EXCEPTION (R322): A Newt core exception takes it offline and fails its commands with INTERNAL. -/
def execNewtException (core : Nat) (addr : Word) (s : State) : Host.Outcome State Fault Refusal := .next (s.onDevFor (decide (core < 4)) (newtException core addr))

/-- STEP_SAMPLE (R329): A marked task step ends and a step sample is written. -/
def execStepSample (sample : StepSample) (s : State) : Host.Outcome State Fault Refusal := .next (s.onDev (stepSample sample))

/-- MGMT_LOAD (R326): Utilisation over the last 100 ms is updated and LOAD_HIGH raised above threshold. -/
def execMgmtLoad (meanUp maxUp : Bool) (s : State) : Host.Outcome State Fault Refusal := .next (s.onDev (mgmtLoad meanUp maxUp))

/-- EVENT_RECORD_WRITE (R293): An event leaves the staging FIFO and is written to the Sand area. -/
def execEventRecordWrite (s : State) : Host.Outcome State Fault Refusal := .next (s.onDev eventRecordWrite)

/-- CLAY_PROGRAM (R298): A record's Clay slot programming completes. -/
def execClayProgram (ok : Bool) (s : State) : Host.Outcome State Fault Refusal := .next (s.onDev (clayProgram ok))

/-- CHECKPOINT (R301): Every 600,000 ms of OPTIME a checkpoint entry is written. -/
def execCheckpoint (ok : Bool) (s : State) : Host.Outcome State Fault Refusal := .next (s.onDev (checkpoint ok))

/-- SEGMENT_WRITE (R309): An NVMe write of segment data or header completes. -/
def execSegmentWrite (ok : Bool) (s : State) : Host.Outcome State Fault Refusal := .next (s.onDev (segmentWrite ok))

/-- EVENT_BLOCK_TIMER (R310): An event region block is written 100 ms after its first record. -/
def execEventBlockTimer (s : State) : Host.Outcome State Fault Refusal := .next (s.onDev eventBlockTimer)

/-- NVME_TIMEOUT (R312): An NVMe command not complete within 1 s sends STORE IO_ERR and resets the controller. -/
def execNvmeTimeout (s : State) : Host.Outcome State Fault Refusal := .next (s.onDev nvmeTimeout)

/-- STORE_LINK_DOWN (R312): Loss of the root port link sends STORE LINK_DOWN and the store goes to INIT. -/
def execStoreLinkDown (s : State) : Host.Outcome State Fault Refusal := .next (s.onDev storeLinkDown)

/-- STORE_RETRAIN (R312): The root port retrains every 1 s while its link is down. -/
def execStoreRetrain (trained : Bool) (s : State) : Host.Outcome State Fault Refusal := .next (s.onDev (storeRetrain trained))

/-- FTICK_PULSE (R348): A field tick pulse begins at boundary plus OFFSET in a selected tick. -/
def execFtickPulse (field : Nat) (s : State) : Host.Outcome State Fault Refusal := .next (s.onDevFor (decide (field < 8)) (ftickPulse field))

/-- FTICK_PULSE_END (R348): A field tick pulse ends after WIDTH or 50 ns before the next boundary. -/
def execFtickPulseEnd (field : Nat) (s : State) : Host.Outcome State Fault Refusal := .next (s.onDevFor (decide (field < 8)) (ftickPulseEnd field))

/-- OVERCURRENT (R349): An output at its current limit for 100 µs is turned off and FIELD OVERCURRENT sent. -/
def execOvercurrent (field : Nat) (s : State) : Host.Outcome State Fault Refusal := .next (s.onDevFor (decide (field < 8)) (overcurrent field))

/-- REGISTER_READ (R261): A host read through BAR0 returns data, clears the RC bits of the bytes it returns and latches the HI shadow of a LO/HI pair. -/
def execRegisterRead (req : Requester) (tlp : ReadTlp) (s : State) : Host.Outcome State Fault Refusal := .next (s.onDev (registerRead req tlp))

/-- INTERRUPT_COALESCING (R227): CMD_CQr_IRQ.TIME µs after the first uncoalesced completion, MSI-X vector r is sent. -/
def execInterruptCoalescing (ring : Nat) (s : State) : Host.Outcome State Fault Refusal := .next (s.onDevFor (decide (ring < 4)) (interruptCoalescing ring))

/-- XON (R202): When a class's firmware-bound receive buffer falls below 64 KiB, the device sends XON on that class. -/
def execXon (cls : Nat) (s : State) : Host.Outcome State Fault Refusal := .next (s.onDevFor (decide (cls < 8)) (xon cls))

/-- ACTIVITY_PRESENT (R42): Edges return on an INVALID REFIN, whose activity detector reports activity, and the monitor enters QUALIFYING. -/
def execActivityPresent (refin : Nat) (s : State) : Host.Outcome State Fault Refusal := .next (s.onDevFor (decide (refin < 8)) (activityPresent refin))

/-- PERST_N_RELEASE (R365): PERST_N rises, the host endpoint leaves reset, and configuration requests are answered 20 ms later. -/
def execPerstNRelease (s : State) : Host.Outcome State Fault Refusal := .next (s.onAll perstNRelease)

/-- HPE_LINK_UP (R362): The host PCIe endpoint link trains back to L0, clearing the HPE condition. -/
def execHpeLinkUp (s : State) : Host.Outcome State Fault Refusal := .next (s.onDev hpeLinkUp)

/-- NVME_COMPLETION (R312): An NVMe command of the store other than a segment write completes, either with success or with an error status. -/
def execNvmeCompletion (ok : Bool) (s : State) : Host.Outcome State Fault Refusal := .next (s.onDev (nvmeCompletion ok))

/-- RING_OSCILLATOR_MEASUREMENT (R337): Once per millisecond while OSCIN is active, the ring oscillator is measured against OSCIN and PWR_RING_FREQ is updated. -/
def execRingOscillatorMeasurement (hz : Nat) (s : State) : Host.Outcome State Fault Refusal := .next (s.onDev (ringOscillatorMeasurement hz))

/-- DISCARDED_FRAME (R203): A received frame is discarded whole and counted in LINK_RX_DISCARD: a bad FCS, an oversize frame, a failed carriage check, an unknown TYPE, a failed line-header check or a PAUSE frame. -/
def execDiscardedFrame (cause : DiscardCause) (s : State) : Host.Outcome State Fault Refusal := .next (s.onDev (discardedFrame cause))

/-- TEST_ACCESS_PORT (R366): TCK edges advance the IEEE 1149.1 TAP controller, and TRST_N resets the test logic; EXTEST, HIGHZ and CLAMP act on the pins. -/
def execTestAccessPort (op : TapOp) (s : State) : Host.Outcome State Fault Refusal := .next (s.onAll (testAccessPort op))

end Sys2Proof.Machine
end

