-- ==== Sys2Proof/Machine/Dispatch.lean ====
section
/-! DEFINITION. The meaning of each constructor of `Instr`, arm by arm. -/

namespace Sys2Proof.Machine

/-- The effect of a command or event on everything but the queue. -/
def exec (i : Instr) (s : State) : Host.Outcome State Fault Refusal :=
  match i with
  | .nop src => Sys2Proof.Machine.execNop src s
  | .getInfo src => Sys2Proof.Machine.execGetInfo src s
  | .modeRequest src => Sys2Proof.Machine.execModeRequest src s
  | .configDigest src => Sys2Proof.Machine.execConfigDigest src s
  | .regRead src => Sys2Proof.Machine.execRegRead src s
  | .regWrite src => Sys2Proof.Machine.execRegWrite src s
  | .chCreate src => Sys2Proof.Machine.execChCreate src s
  | .chDestroy src => Sys2Proof.Machine.execChDestroy src s
  | .chConfig src => Sys2Proof.Machine.execChConfig src s
  | .chStart src => Sys2Proof.Machine.execChStart src s
  | .chStop src => Sys2Proof.Machine.execChStop src s
  | .chPhase src => Sys2Proof.Machine.execChPhase src s
  | .chStatus src dmaOk => Sys2Proof.Machine.execChStatus src dmaOk s
  | .chQuery src => Sys2Proof.Machine.execChQuery src s
  | .msConfig src => Sys2Proof.Machine.execMsConfig src s
  | .msStart src => Sys2Proof.Machine.execMsStart src s
  | .msStop src => Sys2Proof.Machine.execMsStop src s
  | .bandSurvey src => Sys2Proof.Machine.execBandSurvey src s
  | .msRampLoad src dma => Sys2Proof.Machine.execMsRampLoad src dma s
  | .msRampStart src => Sys2Proof.Machine.execMsRampStart src s
  | .msRampAbort src => Sys2Proof.Machine.execMsRampAbort src s
  | .refMonCreate src => Sys2Proof.Machine.execRefMonCreate src s
  | .refMonDestroy src => Sys2Proof.Machine.execRefMonDestroy src s
  | .dpllConfig src => Sys2Proof.Machine.execDpllConfig src s
  | .dpllSelect src => Sys2Proof.Machine.execDpllSelect src s
  | .dpllHoldover src => Sys2Proof.Machine.execDpllHoldover src s
  | .holdModelGet src dmaOk => Sys2Proof.Machine.execHoldModelGet src dmaOk s
  | .holdModelSet src => Sys2Proof.Machine.execHoldModelSet src s
  | .timeSet src => Sys2Proof.Machine.execTimeSet src s
  | .timeAdjust src => Sys2Proof.Machine.execTimeAdjust src s
  | .timeGet src dmaOk => Sys2Proof.Machine.execTimeGet src dmaOk s
  | .timeEpochSet src => Sys2Proof.Machine.execTimeEpochSet src s
  | .ptpConfig src => Sys2Proof.Machine.execPtpConfig src s
  | .ptpPortConfig src => Sys2Proof.Machine.execPtpPortConfig src s
  | .ptpStatus src dmaOk => Sys2Proof.Machine.execPtpStatus src dmaOk s
  | .ppsConfig src => Sys2Proof.Machine.execPpsConfig src s
  | .tickStatus src dmaOk => Sys2Proof.Machine.execTickStatus src dmaOk s
  | .tickPeriodSet src => Sys2Proof.Machine.execTickPeriodSet src s
  | .tickSchedSet src => Sys2Proof.Machine.execTickSchedSet src s
  | .tickWait src => Sys2Proof.Machine.execTickWait src s
  | .shaftCreate src => Sys2Proof.Machine.execShaftCreate src s
  | .shaftDestroy src => Sys2Proof.Machine.execShaftDestroy src s
  | .shaftConfig src => Sys2Proof.Machine.execShaftConfig src s
  | .shaftStart src => Sys2Proof.Machine.execShaftStart src s
  | .shaftStop src => Sys2Proof.Machine.execShaftStop src s
  | .shaftSpeed src => Sys2Proof.Machine.execShaftSpeed src s
  | .shaftTrim src => Sys2Proof.Machine.execShaftTrim src s
  | .shaftRetune src => Sys2Proof.Machine.execShaftRetune src s
  | .shaftStatus src dmaOk => Sys2Proof.Machine.execShaftStatus src dmaOk s
  | .profCreate src => Sys2Proof.Machine.execProfCreate src s
  | .profDestroy src => Sys2Proof.Machine.execProfDestroy src s
  | .profLoad src dma => Sys2Proof.Machine.execProfLoad src dma s
  | .profRead src dmaOk => Sys2Proof.Machine.execProfRead src dmaOk s
  | .folCreate src => Sys2Proof.Machine.execFolCreate src s
  | .folDestroy src => Sys2Proof.Machine.execFolDestroy src s
  | .folConfig src => Sys2Proof.Machine.execFolConfig src s
  | .folStart src => Sys2Proof.Machine.execFolStart src s
  | .folStop src => Sys2Proof.Machine.execFolStop src s
  | .folOffset src => Sys2Proof.Machine.execFolOffset src s
  | .folLimits src => Sys2Proof.Machine.execFolLimits src s
  | .folClear src => Sys2Proof.Machine.execFolClear src s
  | .folStatus src dmaOk => Sys2Proof.Machine.execFolStatus src dmaOk s
  | .camCreate src => Sys2Proof.Machine.execCamCreate src s
  | .camDestroy src => Sys2Proof.Machine.execCamDestroy src s
  | .camLoad src dma => Sys2Proof.Machine.execCamLoad src dma s
  | .camRead src dmaOk => Sys2Proof.Machine.execCamRead src dmaOk s
  | .grpCreate src => Sys2Proof.Machine.execGrpCreate src s
  | .grpDestroy src => Sys2Proof.Machine.execGrpDestroy src s
  | .grpConfig src => Sys2Proof.Machine.execGrpConfig src s
  | .grpLatency src => Sys2Proof.Machine.execGrpLatency src s
  | .grpStatus src dmaOk => Sys2Proof.Machine.execGrpStatus src dmaOk s
  | .calRun src => Sys2Proof.Machine.execCalRun src s
  | .calAbort src => Sys2Proof.Machine.execCalAbort src s
  | .calStatus src => Sys2Proof.Machine.execCalStatus src s
  | .calSave src => Sys2Proof.Machine.execCalSave src s
  | .calRestore src => Sys2Proof.Machine.execCalRestore src s
  | .calSlotInfo src => Sys2Proof.Machine.execCalSlotInfo src s
  | .evtRead src dmaOk => Sys2Proof.Machine.execEvtRead src dmaOk s
  | .storeInfo src dmaOk => Sys2Proof.Machine.execStoreInfo src dmaOk s
  | .storeFormat src => Sys2Proof.Machine.execStoreFormat src s
  | .streamCreate src => Sys2Proof.Machine.execStreamCreate src s
  | .streamDestroy src => Sys2Proof.Machine.execStreamDestroy src s
  | .streamConfig src => Sys2Proof.Machine.execStreamConfig src s
  | .streamStart src => Sys2Proof.Machine.execStreamStart src s
  | .streamStop src => Sys2Proof.Machine.execStreamStop src s
  | .streamTrigger src => Sys2Proof.Machine.execStreamTrigger src s
  | .storeRead src dmaOk => Sys2Proof.Machine.execStoreRead src dmaOk s
  | .fltRead src dmaOk => Sys2Proof.Machine.execFltRead src dmaOk s
  | .fltAck src => Sys2Proof.Machine.execFltAck src s
  | .fltReaction src => Sys2Proof.Machine.execFltReaction src s
  | .fltInject src => Sys2Proof.Machine.execFltInject src s
  | .fltInjectClear src => Sys2Proof.Machine.execFltInjectClear src s
  | .pwrDomainSet src => Sys2Proof.Machine.execPwrDomainSet src s
  | .pwrStatus src => Sys2Proof.Machine.execPwrStatus src s
  | .snapCapture src => Sys2Proof.Machine.execSnapCapture src s
  | .snapRead src dmaOk => Sys2Proof.Machine.execSnapRead src dmaOk s
  | .snapRelease src => Sys2Proof.Machine.execSnapRelease src s
  | .lineStartAll src => Sys2Proof.Machine.execLineStartAll src s
  | .lineStopAll src => Sys2Proof.Machine.execLineStopAll src s
  | .entryFetch ring dma => Sys2Proof.Machine.execEntryFetch ring dma s
  | .cmdSqTail ring be val => Sys2Proof.Machine.execCmdSqTail ring be val s
  | .cmdCqHead ring be val => Sys2Proof.Machine.execCmdCqHead ring be val s
  | .ringEn be val => Sys2Proof.Machine.execRingEn be val s
  | .ringDrained ring => Sys2Proof.Machine.execRingDrained ring s
  | .inBandCommandFrame frame => Sys2Proof.Machine.execInBandCommandFrame frame s
  | .registerWrite req tlp => Sys2Proof.Machine.execRegisterWrite req tlp s
  | .guardPairTimeout req => Sys2Proof.Machine.execGuardPairTimeout req s
  | .glbModeReq req compl => Sys2Proof.Machine.execGlbModeReq req compl s
  | .glbSoftReset req compl => Sys2Proof.Machine.execGlbSoftReset req compl s
  | .warmResetDone => Sys2Proof.Machine.execWarmResetDone s
  | .pwrDomainCtrl req compl => Sys2Proof.Machine.execPwrDomainCtrl req compl s
  | .fltInjMode req compl => Sys2Proof.Machine.execFltInjMode req compl s
  | .forceSet req source kind => Sys2Proof.Machine.execForceSet req source kind s
  | .forceClear req source kind => Sys2Proof.Machine.execForceClear req source kind s
  | .forceClearAll req => Sys2Proof.Machine.execForceClearAll req s
  | .cbArm req => Sys2Proof.Machine.execCbArm req s
  | .cbCancel req => Sys2Proof.Machine.execCbCancel req s
  | .fltAckWrite req be val => Sys2Proof.Machine.execFltAckWrite req be val s
  | .storeErase req compl => Sys2Proof.Machine.execStoreErase req compl s
  | .evtClayClear req compl => Sys2Proof.Machine.execEvtClayClear req compl s
  | .clayClearDone ok => Sys2Proof.Machine.execClayClearDone ok s
  | .linkKey req slot word compl => Sys2Proof.Machine.execLinkKey req slot word compl s
  | .linkKeyCtrl req compl => Sys2Proof.Machine.execLinkKeyCtrl req compl s
  | .capture req be val => Sys2Proof.Machine.execCapture req be val s
  | .msCtrlEn req ms be val => Sys2Proof.Machine.execMsCtrlEn req ms be val s
  | .msRampCtrlStart req ms be val => Sys2Proof.Machine.execMsRampCtrlStart req ms be val s
  | .msRampCtrlAbort req ms be val => Sys2Proof.Machine.execMsRampCtrlAbort req ms be val s
  | .outCtrlEn req out be val => Sys2Proof.Machine.execOutCtrlEn req out be val s
  | .linkCtrlEn req be val => Sys2Proof.Machine.execLinkCtrlEn req be val s
  | .storeCtrlEn req be val => Sys2Proof.Machine.execStoreCtrlEn req be val s
  | .stoPerstN => Sys2Proof.Machine.execStoPerstN s
  | .storeMounted ident => Sys2Proof.Machine.execStoreMounted ident s
  | .storeRelease req be val => Sys2Proof.Machine.execStoreRelease req be val s
  | .fieldCtrlEn req field be val => Sys2Proof.Machine.execFieldCtrlEn req field be val s
  | .cntClear req be val => Sys2Proof.Machine.execCntClear req be val s
  | .sampEn req be val => Sys2Proof.Machine.execSampEn req be val s
  | .checkerTest req be val => Sys2Proof.Machine.execCheckerTest req be val s
  | .checkerTestDone missed falseFlags => Sys2Proof.Machine.execCheckerTestDone missed falseFlags s
  | .smbusProcessCall code bytes readExtra => Sys2Proof.Machine.execSmbusProcessCall code bytes readExtra s
  | .smbusTimeout => Sys2Proof.Machine.execSmbusTimeout s
  | .powerGood rstHigh bootSel => Sys2Proof.Machine.execPowerGood rstHigh bootSel s
  | .supplyFall => Sys2Proof.Machine.execSupplyFall s
  | .rstNAssert lowNs => Sys2Proof.Machine.execRstNAssert lowNs s
  | .rstNRelease bootSel => Sys2Proof.Machine.execRstNRelease bootSel s
  | .perstN lowNs => Sys2Proof.Machine.execPerstN lowNs s
  | .hpeLinkDown => Sys2Proof.Machine.execHpeLinkDown s
  | .railCheck good => Sys2Proof.Machine.execRailCheck good s
  | .resetRelease => Sys2Proof.Machine.execResetRelease s
  | .imageCopy flash => Sys2Proof.Machine.execImageCopy flash s
  | .signatureCheck header body => Sys2Proof.Machine.execSignatureCheck header body s
  | .sramInitialisation cfgA cfgB => Sys2Proof.Machine.execSramInitialisation cfgA cfgB s
  | .corePllLock => Sys2Proof.Machine.execCorePllLock s
  | .startUpList => Sys2Proof.Machine.execStartUpList s
  | .referenceQualification => Sys2Proof.Machine.execReferenceQualification s
  | .timeAcquisition => Sys2Proof.Machine.execTimeAcquisition s
  | .initialCalibration => Sys2Proof.Machine.execInitialCalibration s
  | .oscinLost => Sys2Proof.Machine.execOscinLost s
  | .oscinReturned => Sys2Proof.Machine.execOscinReturned s
  | .corePllLost => Sys2Proof.Machine.execCorePllLost s
  | .corePllRelocked => Sys2Proof.Machine.execCorePllRelocked s
  | .railUv rail mv mw => Sys2Proof.Machine.execRailUv rail mv mw s
  | .railOv rail mv mw => Sys2Proof.Machine.execRailOv rail mv mw s
  | .tempConversion sensor reading => Sys2Proof.Machine.execTempConversion sensor reading s
  | .tjHigh sensor => Sys2Proof.Machine.execTjHigh sensor s
  | .tjCrit sensor => Sys2Proof.Machine.execTjCrit sensor s
  | .domainSwitchStart => Sys2Proof.Machine.execDomainSwitchStart s
  | .switchDone => Sys2Proof.Machine.execSwitchDone s
  | .switchFail => Sys2Proof.Machine.execSwitchFail s
  | .vddoLevel bank mv => Sys2Proof.Machine.execVddoLevel bank mv s
  | .lockGained ms phErr => Sys2Proof.Machine.execLockGained ms phErr s
  | .lockLost ms slip phErr => Sys2Proof.Machine.execLockLost ms slip phErr s
  | .msStartTimeout ms => Sys2Proof.Machine.execMsStartTimeout ms s
  | .reacqTimeout ms => Sys2Proof.Machine.execReacqTimeout ms s
  | .msSettle ms => Sys2Proof.Machine.execMsSettle ms s
  | .bypassSwitchDone out => Sys2Proof.Machine.execBypassSwitchDone out s
  | .highTimeLimit out => Sys2Proof.Machine.execHighTimeLimit out s
  | .outGuard pulse => Sys2Proof.Machine.execOutGuard pulse s
  | .surveyDone ms bands => Sys2Proof.Machine.execSurveyDone ms bands s
  | .rampSegmentEnd ms => Sys2Proof.Machine.execRampSegmentEnd ms s
  | .rampDone ms => Sys2Proof.Machine.execRampDone ms s
  | .channelStart out => Sys2Proof.Machine.execChannelStart out s
  | .chStartTimeout out => Sys2Proof.Machine.execChStartTimeout out s
  | .channelStopped out => Sys2Proof.Machine.execChannelStopped out s
  | .phaseSlewDone out => Sys2Proof.Machine.execPhaseSlewDone out s
  | .activityFail refin => Sys2Proof.Machine.execActivityFail refin s
  | .frequencyGate refin ppb => Sys2Proof.Machine.execFrequencyGate refin ppb s
  | .referenceSelection ms => Sys2Proof.Machine.execReferenceSelection ms s
  | .dpllNarrow ms phErr => Sys2Proof.Machine.execDpllNarrow ms phErr s
  | .dpllLocked ms phErr => Sys2Proof.Machine.execDpllLocked ms phErr s
  | .steerLimit ms correction => Sys2Proof.Machine.execSteerLimit ms correction s
  | .modelValid ms => Sys2Proof.Machine.execModelValid ms s
  | .extTempTimeout ms => Sys2Proof.Machine.execExtTempTimeout ms s
  | .calUpdate ms steps => Sys2Proof.Machine.execCalUpdate ms steps s
  | .tempTrigger ms => Sys2Proof.Machine.execTempTrigger ms s
  | .precondCheck ms => Sys2Proof.Machine.execPrecondCheck ms s
  | .calRunTimeout ms => Sys2Proof.Machine.execCalRunTimeout ms s
  | .calSaveComplete readBackOk => Sys2Proof.Machine.execCalSaveComplete readBackOk s
  | .flashTimeout => Sys2Proof.Machine.execFlashTimeout s
  | .tickBoundary => Sys2Proof.Machine.execTickBoundary s
  | .feedbackCutoff unevaluated => Sys2Proof.Machine.execFeedbackCutoff unevaluated s
  | .computeStart => Sys2Proof.Machine.execComputeStart s
  | .mirrorLost shaft => Sys2Proof.Machine.execMirrorLost shaft s
  | .computeComplete work => Sys2Proof.Machine.execComputeComplete work s
  | .publishDeadline endNs => Sys2Proof.Machine.execPublishDeadline endNs s
  | .gapWorkComplete staged => Sys2Proof.Machine.execGapWorkComplete staged s
  | .carriageFrameTransmit => Sys2Proof.Machine.execCarriageFrameTransmit s
  | .backpressureTimeout => Sys2Proof.Machine.execBackpressureTimeout s
  | .feedbackFrame frame => Sys2Proof.Machine.execFeedbackFrame frame s
  | .missRun follower => Sys2Proof.Machine.execMissRun follower s
  | .goodRun follower => Sys2Proof.Machine.execGoodRun follower s
  | .resyncCompare follower => Sys2Proof.Machine.execResyncCompare follower s
  | .latencyUpdate group => Sys2Proof.Machine.execLatencyUpdate group s
  | .shaftStateFrame frame => Sys2Proof.Machine.execShaftStateFrame frame s
  | .egressReports reports => Sys2Proof.Machine.execEgressReports reports s
  | .reportMissing => Sys2Proof.Machine.execReportMissing s
  | .portStatus mask => Sys2Proof.Machine.execPortStatus mask s
  | .ptpMessage msg => Sys2Proof.Machine.execPtpMessage msg s
  | .ptpMessageInterval port kind => Sys2Proof.Machine.execPtpMessageInterval port kind s
  | .announceTimeout port => Sys2Proof.Machine.execAnnounceTimeout port s
  | .ppsIn => Sys2Proof.Machine.execPpsIn s
  | .ppsInLost => Sys2Proof.Machine.execPpsInLost s
  | .ppsOut => Sys2Proof.Machine.execPpsOut s
  | .ppsOutFall => Sys2Proof.Machine.execPpsOutFall s
  | .slewDone => Sys2Proof.Machine.execSlewDone s
  | .timeSyncUnit => Sys2Proof.Machine.execTimeSyncUnit s
  | .timeEcho echo => Sys2Proof.Machine.execTimeEcho echo s
  | .pfcFrame classes quanta => Sys2Proof.Machine.execPfcFrame classes quanta s
  | .pauseExpiry cls => Sys2Proof.Machine.execPauseExpiry cls s
  | .linkUp => Sys2Proof.Machine.execLinkUp s
  | .linkDown => Sys2Proof.Machine.execLinkDown s
  | .faultMessage => Sys2Proof.Machine.execFaultMessage s
  | .eccCorr bank addr => Sys2Proof.Machine.execEccCorr bank addr s
  | .eccUncorr bank addr => Sys2Proof.Machine.execEccUncorr bank addr s
  | .croakEdge => Sys2Proof.Machine.execCroakEdge s
  | .firmwareHeartbeat => Sys2Proof.Machine.execFirmwareHeartbeat s
  | .heartbeat => Sys2Proof.Machine.execHeartbeat s
  | .newtException core addr => Sys2Proof.Machine.execNewtException core addr s
  | .stepSample sample => Sys2Proof.Machine.execStepSample sample s
  | .mgmtLoad meanUp maxUp => Sys2Proof.Machine.execMgmtLoad meanUp maxUp s
  | .eventRecordWrite => Sys2Proof.Machine.execEventRecordWrite s
  | .clayProgram ok => Sys2Proof.Machine.execClayProgram ok s
  | .checkpoint ok => Sys2Proof.Machine.execCheckpoint ok s
  | .segmentWrite ok => Sys2Proof.Machine.execSegmentWrite ok s
  | .eventBlockTimer => Sys2Proof.Machine.execEventBlockTimer s
  | .nvmeTimeout => Sys2Proof.Machine.execNvmeTimeout s
  | .storeLinkDown => Sys2Proof.Machine.execStoreLinkDown s
  | .storeRetrain trained => Sys2Proof.Machine.execStoreRetrain trained s
  | .ftickPulse field => Sys2Proof.Machine.execFtickPulse field s
  | .ftickPulseEnd field => Sys2Proof.Machine.execFtickPulseEnd field s
  | .overcurrent field => Sys2Proof.Machine.execOvercurrent field s
  | .registerRead req tlp => Sys2Proof.Machine.execRegisterRead req tlp s
  | .interruptCoalescing ring => Sys2Proof.Machine.execInterruptCoalescing ring s
  | .xon cls => Sys2Proof.Machine.execXon cls s
  | .activityPresent refin => Sys2Proof.Machine.execActivityPresent refin s
  | .perstNRelease => Sys2Proof.Machine.execPerstNRelease s
  | .hpeLinkUp => Sys2Proof.Machine.execHpeLinkUp s
  | .nvmeCompletion ok => Sys2Proof.Machine.execNvmeCompletion ok s
  | .ringOscillatorMeasurement hz => Sys2Proof.Machine.execRingOscillatorMeasurement hz s
  | .discardedFrame cause => Sys2Proof.Machine.execDiscardedFrame cause s
  | .testAccessPort op => Sys2Proof.Machine.execTestAccessPort op s

end Sys2Proof.Machine
end

