-- ==== Sys2Proof/WellFormed.lean ====
section
/-! DEFINITION. The operands that the spec's ranges admit: numbers of rings, objects, ports and sources, field widths, lengths. A meaning gives an
ill-formed command no effect where the number names nothing. -/

namespace Sys2Proof

/-- A signed number of `w` bits. -/
def fitsSigned (w : Nat) (x : Int) : Bool := decide (-((2 ^ (w - 1) : Nat) : Int) ≤ x) && decide (x < ((2 ^ (w - 1) : Nat) : Int))

/-- Rings 0 to 3 (R224). -/
def Source.wf (x : Source) : Bool :=
  match x with
  | .ring r => decide (r < 4)
  | .inband => true
  | .list => true

/-- Rings 0 to 3; a source address has 48 bits (R220, R248). -/
def Requester.wf (x : Requester) : Bool :=
  match x with
  | .host => true
  | .ring r => decide (r < 4)
  | .inband sa => decide (sa < 2 ^ 48)
  | .smbus => true

/-- An aligned offset of BAR0, 1 MiB (R249, R268). -/
def offsetWf (off : Nat) : Bool := decide (off % 4 = 0) && decide (off < 2 ^ 20)

/-- An aligned offset of BAR2, 4 KiB (R267). -/
def bar2Wf (off : Nat) : Bool := decide (off % 4 = 0) && decide (off < 4096)

/-- An entry has 64 bytes (R225). -/
def FetchDma.wf (x : FetchDma) : Bool :=
  match x with
  | .entry b => decide (b.length = 64)
  | .fetchError => true
  | .completionError => true

/-- Aligned accesses; those of two dwords, and the refused ones, exist on PCIe alone (R249, R251). -/
def WriteTlp.wf (req : Requester) (x : WriteTlp) : Bool :=
  match x with
  | .one off _ _ => offsetWf off
  | .two off _ _ _ _ => offsetWf off && decide (off + 4 < 2 ^ 20) && decide (req = .host)
  | .long off => offsetWf off && decide (req = .host)
  | .poisoned off => offsetWf off && decide (req = .host)
  | .bar2 off _ _ => bar2Wf off && decide (req = .host)

/-- As for a write. -/
def ReadTlp.wf (req : Requester) (x : ReadTlp) : Bool :=
  match x with
  | .one off _ => offsetWf off
  | .two off _ _ => offsetWf off && decide (off + 4 < 2 ^ 20) && decide (req = .host)
  | .long off => offsetWf off && decide (req = .host)
  | .bar2 off _ => bar2Wf off && decide (req = .host)

/-- The field widths of Table 9-7. -/
def LineHeader.wf (h : LineHeader) : Bool :=
  decide (h.version < 256) && decide (h.msgType < 256) && decide (h.lineId < 65536) && decide (h.device < 256) && decide (h.group < 65536) &&
  decide (h.firstSlot < 256) && decide (h.count < 256) && decide (h.k < 2 ^ 32)

/-- Port 0 to 255, and header and records of their widths (R206, R210). -/
def FeedbackFrame.wf (f : FeedbackFrame) : Bool :=
  decide (f.port < 256) && f.header.wf && (f.recs.all fun r => decide (r.appliedK < 2 ^ 24) && decide (r.rxNs < 2 ^ 32))

/-- The field widths of Table 7-7. -/
def ShaftRecord.wf (r : ShaftRecord) : Bool :=
  decide (r.id < 65536) && decide (r.state < 8) && decide (r.sub < 8) && decide (r.owner < 64) && decide (r.k < 2 ^ 64) && decide (r.pos < 2 ^ 80) &&
  fitsSigned 64 r.v && fitsSigned 64 r.a && decide (r.remAcc < 2 ^ 32) && decide (r.tgtNum < 2 ^ 32) && decide (r.tgtDen < 2 ^ 32) && fitsSigned 64 r.trimStep

/-- The same for shaft-state frames (R162). -/
def ShaftFrame.wf (f : ShaftFrame) : Bool :=
  decide (f.port < 256) && f.header.wf && f.recs.all ShaftRecord.wf

/-- A port, one of eight classes (R202), and a sender of 48 bits. -/
def InBandFrame.wf (f : InBandFrame) : Bool :=
  decide (f.port < 256) && decide (f.cls < 8) && decide (f.sa < 2 ^ 48)

/-- The field widths of Table 9-5. -/
def EgressReport.wf (r : EgressReport) : Bool :=
  decide (r.seq < 2 ^ 32) && decide (r.port < 256) && decide (r.status < 256) && decide (r.ts < 2 ^ 48) && decide (r.tsFrac < 65536)

/-- The field widths of a TIME_ECHO unit (R213). -/
def TimeEcho.wf (e : TimeEcho) : Bool :=
  decide (e.t2 < 2 ^ 48) && decide (e.t2Frac < 65536) && decide (e.t3 < 2 ^ 48) && decide (e.t3Frac < 65536) && decide (e.syncSeq < 2 ^ 32)

/-- A port, a class, the timestamp and the attribute widths of a PTP message (R101, R212). -/
def PtpMessage.wf (m : PtpMessage) : Bool :=
  decide (m.port < 256) && decide (m.cls < 8) && decide (m.domain < 256) && decide (m.seq < 65536) && decide (m.ts < 2 ^ 48) && decide (m.tsFrac < 65536) && decide (m.dataset.priority1 < 256) &&
  decide (m.dataset.priority2 < 256) && decide (m.dataset.clockClass < 256) && decide (m.dataset.gmIdentity < 2 ^ 64) &&
  decide (m.sender < 2 ^ 80) && decide (m.requesting < 2 ^ 80) && decide (-(2 ^ 31) ≤ m.rate) && decide (m.rate < 2 ^ 31) &&
  (m.interval.all fun q => [q.linkDelay, q.timeSync, q.announce].all fun v => decide (-128 ≤ v) && decide (v ≤ 127))

/-- A measured band runs from its lowest frequency to its highest, each of 32 bits (Table 2-4, R33). -/
def BandMeasure.wf (b : BandMeasure) : Bool := decide (b.fLo ≤ b.fHi) && decide (b.fHi < 2 ^ 32)

/-- A core 0 to 3 and levels 0 to 4 (R320, R329). -/
def StepSample.wf (x : StepSample) : Bool := decide (x.core < 4) && decide (x.level < 5)

/-- A flash of 32 to 512 Mbit (R341). -/
def FlashInfo.wf (x : FlashInfo) : Bool := decide (32 ≤ x.mbit) && decide (x.mbit ≤ 512)

/-- Commands and events whose operands are in range. -/
def Instr.wellFormed (i : Instr) : Bool :=
  match i with
  | .nop src => src.wf
  | .getInfo src => src.wf
  | .modeRequest src => src.wf
  | .configDigest src => src.wf
  | .regRead src => src.wf
  | .regWrite src => src.wf
  | .chCreate src => src.wf
  | .chDestroy src => src.wf
  | .chConfig src => src.wf
  | .chStart src => src.wf
  | .chStop src => src.wf
  | .chPhase src => src.wf
  | .chStatus src _ => src.wf
  | .chQuery src => src.wf
  | .msConfig src => src.wf
  | .msStart src => src.wf
  | .msStop src => src.wf
  | .bandSurvey src => src.wf
  | .msRampLoad src dma => src.wf && (dma.all fun b => decide (b.length ≤ 65536))
  | .msRampStart src => src.wf
  | .msRampAbort src => src.wf
  | .refMonCreate src => src.wf
  | .refMonDestroy src => src.wf
  | .dpllConfig src => src.wf
  | .dpllSelect src => src.wf
  | .dpllHoldover src => src.wf
  | .holdModelGet src _ => src.wf
  | .holdModelSet src => src.wf
  | .timeSet src => src.wf
  | .timeAdjust src => src.wf
  | .timeGet src _ => src.wf
  | .timeEpochSet src => src.wf
  | .ptpConfig src => src.wf
  | .ptpPortConfig src => src.wf
  | .ptpStatus src _ => src.wf
  | .ppsConfig src => src.wf
  | .tickStatus src _ => src.wf
  | .tickPeriodSet src => src.wf
  | .tickSchedSet src => src.wf
  | .tickWait src => src.wf
  | .shaftCreate src => src.wf
  | .shaftDestroy src => src.wf
  | .shaftConfig src => src.wf
  | .shaftStart src => src.wf
  | .shaftStop src => src.wf
  | .shaftSpeed src => src.wf
  | .shaftTrim src => src.wf
  | .shaftRetune src => src.wf
  | .shaftStatus src _ => src.wf
  | .profCreate src => src.wf
  | .profDestroy src => src.wf
  | .profLoad src dma => src.wf && (dma.all fun b => decide (b.length ≤ 65536))
  | .profRead src _ => src.wf
  | .folCreate src => src.wf
  | .folDestroy src => src.wf
  | .folConfig src => src.wf
  | .folStart src => src.wf
  | .folStop src => src.wf
  | .folOffset src => src.wf
  | .folLimits src => src.wf
  | .folClear src => src.wf
  | .folStatus src _ => src.wf
  | .camCreate src => src.wf
  | .camDestroy src => src.wf
  | .camLoad src dma => src.wf && (dma.all fun b => decide (b.length ≤ 65536))
  | .camRead src _ => src.wf
  | .grpCreate src => src.wf
  | .grpDestroy src => src.wf
  | .grpConfig src => src.wf
  | .grpLatency src => src.wf
  | .grpStatus src _ => src.wf
  | .calRun src => src.wf
  | .calAbort src => src.wf
  | .calStatus src => src.wf
  | .calSave src => src.wf
  | .calRestore src => src.wf
  | .calSlotInfo src => src.wf
  | .evtRead src _ => src.wf
  | .storeInfo src _ => src.wf
  | .storeFormat src => src.wf
  | .streamCreate src => src.wf
  | .streamDestroy src => src.wf
  | .streamConfig src => src.wf
  | .streamStart src => src.wf
  | .streamStop src => src.wf
  | .streamTrigger src => src.wf
  | .storeRead src _ => src.wf
  | .fltRead src _ => src.wf
  | .fltAck src => src.wf
  | .fltReaction src => src.wf
  | .fltInject src => src.wf
  | .fltInjectClear src => src.wf
  | .pwrDomainSet src => src.wf
  | .pwrStatus src => src.wf
  | .snapCapture src => src.wf
  | .snapRead src _ => src.wf
  | .snapRelease src => src.wf
  | .lineStartAll src => src.wf
  | .lineStopAll src => src.wf
  | .entryFetch ring dma => decide (ring < 4) && dma.wf
  | .cmdSqTail ring _ _ => decide (ring < 4)
  | .cmdCqHead ring _ _ => decide (ring < 4)
  | .ringEn _ _ => true
  | .ringDrained ring => decide (ring < 4)
  | .inBandCommandFrame frame => frame.wf
  | .registerWrite req tlp => req.wf && tlp.wf req
  | .guardPairTimeout req => req.wf
  | .glbModeReq req _ => req.wf
  | .glbSoftReset req _ => req.wf
  | .warmResetDone => true
  | .pwrDomainCtrl req _ => req.wf
  | .fltInjMode req _ => req.wf
  | .forceSet req source kind => req.wf && decide (source < 128) && decide (kind < 64)
  | .forceClear req source kind => req.wf && decide (source < 128) && decide (kind < 64)
  | .forceClearAll req => req.wf
  | .cbArm req => req.wf
  | .cbCancel req => req.wf
  | .fltAckWrite req _ _ => req.wf
  | .storeErase req _ => req.wf
  | .evtClayClear req _ => req.wf
  | .clayClearDone _ => true
  | .linkKey req slot word _ => req.wf && decide (slot < 2) && decide (word < 8)
  | .linkKeyCtrl req _ => req.wf
  | .capture req _ _ => req.wf
  | .msCtrlEn req ms _ _ => req.wf && decide (ms < 4)
  | .msRampCtrlStart req ms _ _ => req.wf && decide (ms < 4)
  | .msRampCtrlAbort req ms _ _ => req.wf && decide (ms < 4)
  | .outCtrlEn req out _ _ => req.wf && decide (out < 32)
  | .linkCtrlEn req _ _ => req.wf
  | .storeCtrlEn req _ _ => req.wf
  | .stoPerstN => true
  | .storeMounted _ => true
  | .storeRelease req _ _ => req.wf
  | .fieldCtrlEn req field _ _ => req.wf && decide (field < 8)
  | .cntClear req _ _ => req.wf
  | .sampEn req _ _ => req.wf
  | .checkerTest req _ _ => req.wf
  | .checkerTestDone _ _ => true
  | .smbusProcessCall code bytes _ => decide (code < 256) && decide (bytes.length ≤ 255)
  | .smbusTimeout => true
  | .powerGood _ bootSel => decide (bootSel < 4)
  | .supplyFall => true
  | .rstNAssert _ => true
  | .rstNRelease bootSel => decide (bootSel < 4)
  | .perstN _ => true
  | .hpeLinkDown => true
  | .railCheck _ => true
  | .resetRelease => true
  | .imageCopy flash => flash.all FlashInfo.wf
  | .signatureCheck header _ => header.all fun b => decide (b.length = 304)
  | .sramInitialisation cfgA cfgB => cfgA.all (fun b => decide (b.length ≤ 65536)) && cfgB.all (fun b => decide (b.length ≤ 65536))
  | .corePllLock => true
  | .startUpList => true
  | .referenceQualification => true
  | .timeAcquisition => true
  | .initialCalibration => true
  | .oscinLost => true
  | .oscinReturned => true
  | .corePllLost => true
  | .corePllRelocked => true
  | .railUv rail mv mw => decide (rail < 17) && decide (mv < 65536) && decide (mw < 65536)
  | .railOv rail mv mw => decide (rail < 17) && decide (mv < 65536) && decide (mw < 65536)
  | .tempConversion sensor reading => decide (sensor < 8) && fitsSigned 16 reading
  | .tjHigh sensor => decide (sensor < 8)
  | .tjCrit sensor => decide (sensor < 8)
  | .domainSwitchStart => true
  | .switchDone => true
  | .switchFail => true
  | .vddoLevel bank _ => decide (bank < 4)
  | .lockGained ms phErr => decide (ms < 4) && fitsSigned 16 phErr
  | .lockLost ms _ phErr => decide (ms < 4) && fitsSigned 16 phErr
  | .msStartTimeout ms => decide (ms < 4)
  | .reacqTimeout ms => decide (ms < 4)
  | .msSettle ms => decide (ms < 4)
  | .bypassSwitchDone out => decide (out < 32)
  | .highTimeLimit out => decide (out < 32)
  | .outGuard pulse => decide (pulse.out < 32)
  | .surveyDone ms bands => decide (ms < 4) && decide (bands.length = 64) && (bands.all BandMeasure.wf)
  | .rampSegmentEnd ms => decide (ms < 4)
  | .rampDone ms => decide (ms < 4)
  | .channelStart out => decide (out < 32)
  | .chStartTimeout out => decide (out < 32)
  | .channelStopped out => decide (out < 32)
  | .phaseSlewDone out => decide (out < 32)
  | .activityFail refin => decide (refin < 8)
  | .frequencyGate refin ppb => decide (refin < 8) && fitsSigned 32 ppb
  | .referenceSelection ms => decide (ms < 4)
  | .dpllNarrow ms phErr => decide (ms < 4) && fitsSigned 32 phErr
  | .dpllLocked ms phErr => decide (ms < 4) && fitsSigned 32 phErr
  | .steerLimit ms _ => decide (ms < 4)
  | .modelValid ms => decide (ms < 4)
  | .extTempTimeout ms => decide (ms < 4)
  | .calUpdate ms steps => decide (ms < 4) && steps.all fun x => decide (x.1 < 32)
  | .tempTrigger ms => decide (ms < 4)
  | .precondCheck ms => decide (ms < 4)
  | .calRunTimeout ms => decide (ms < 4)
  | .calSaveComplete _ => true
  | .flashTimeout => true
  | .tickBoundary => true
  | .feedbackCutoff unevaluated => (unevaluated.all fun f => decide (f < 4096))
  | .computeStart => true
  | .mirrorLost shaft => decide (shaft < 64)
  | .computeComplete _ => true
  | .publishDeadline _ => true
  | .gapWorkComplete _ => true
  | .carriageFrameTransmit => true
  | .backpressureTimeout => true
  | .feedbackFrame frame => frame.wf
  | .missRun follower => decide (follower < 4096)
  | .goodRun follower => decide (follower < 4096)
  | .resyncCompare follower => decide (follower < 4096)
  | .latencyUpdate group => decide (group < 1024)
  | .shaftStateFrame frame => frame.wf
  | .egressReports reports => (reports.all EgressReport.wf)
  | .reportMissing => true
  | .portStatus mask => decide (mask < 2 ^ 256)
  | .ptpMessage msg => msg.wf
  | .ptpMessageInterval port _ => decide (port < 256)
  | .announceTimeout port => decide (port < 256)
  | .ppsIn => true
  | .ppsInLost => true
  | .ppsOut => true
  | .ppsOutFall => true
  | .slewDone => true
  | .timeSyncUnit => true
  | .timeEcho echo => echo.wf
  | .pfcFrame _ quanta => (decide (quanta.length = 8) && (quanta.all fun q => decide (q < 65536)))
  | .pauseExpiry cls => decide (cls < 8)
  | .linkUp => true
  | .linkDown => true
  | .faultMessage => true
  | .eccCorr bank _ => decide (bank < 4)
  | .eccUncorr bank _ => decide (bank < 4)
  | .croakEdge => true
  | .firmwareHeartbeat => true
  | .heartbeat => true
  | .newtException core _ => decide (core < 4)
  | .stepSample sample => sample.wf
  | .mgmtLoad _ _ => true
  | .eventRecordWrite => true
  | .clayProgram _ => true
  | .checkpoint _ => true
  | .segmentWrite _ => true
  | .eventBlockTimer => true
  | .nvmeTimeout => true
  | .storeLinkDown => true
  | .storeRetrain _ => true
  | .ftickPulse field => decide (field < 8)
  | .ftickPulseEnd field => decide (field < 8)
  | .overcurrent field => decide (field < 8)
  | .registerRead req tlp => req.wf && tlp.wf req
  | .interruptCoalescing ring => decide (ring < 4)
  | .xon cls => decide (cls < 8)
  | .activityPresent refin => decide (refin < 8)
  | .perstNRelease => true
  | .hpeLinkUp => true
  | .nvmeCompletion _ => true
  | .ringOscillatorMeasurement hz => decide (hz < 2 ^ 32)
  | .discardedFrame _ => true
  | .testAccessPort _ => true

end Sys2Proof
end

