-- ==== Sys2Proof/Safety.lean ====
section
/-! DEFINITION. The words in which statements speak of runs: a device that takes part in anything, where a command leads, the commands a source may execute, and
the invariants that every step keeps. -/

namespace Sys2Proof.Machine

/-- Powered and out of reset, so that commands and events act (R334, R365). -/
def State.up (s : State) : Prop := s.dev.boot.powered = true ∧ s.dev.boot.rstLow = false

/-- The next state in which the device is `d`, settled, and all else is as before. -/
def State.goesTo (s : State) (d : Dev) : Host.Outcome State Fault Refusal := .next { s with dev := d.settle }

/-- A command at the front of the source whose turn it is that no check stops: its entry spells the row's opcode, lies inside its time limit and passes
the checks of R241, and, where it waits, has a place in the table (R238). `d` is the device once the entry is taken. -/
structure Dev.accepts (d : Dev) (spec : CmdSpec) (src : Source) (dma : Option (List Byte)) (e : Entry) : Prop where
  turn    : d.turn = some src
  front   : d.frontOf src = some e
  opcode  : e.opcode = spec.opcode
  listed  : src = .list → listAccepts e.opcode = true
  inTime  : (Cmd.parse src e spec.params dma).timeout ≠ 0 → d.now ≤ e.seen + (Cmd.parse src e spec.params dma).timeout * msec
  checked : ((d.popCmd src).countCommand e).reject spec (Cmd.parse src e spec.params dma) = none
  place   : spec.waits (Cmd.parse src e spec.params dma) ((d.popCmd src).countCommand e) = true → ((d.popCmd src).countCommand e).hasPlace src = true

/-- The device as a command's effect meets it: the entry taken and counted, the next command number stepped. -/
def Dev.taken (d : Dev) (src : Source) (e : Entry) : Dev :=
  let d1 := (d.popCmd src).countCommand e
  { d1 with cmd := { d1.cmd with nextCid := d1.cmd.nextCid + 1 } }

/-- The number of the command that is taken next. -/
def Dev.cidOf (d : Dev) (src : Source) (e : Entry) : Nat := ((d.popCmd src).countCommand e).cmd.nextCid

/-- A command's effect with what ends it: its completion, or its place among the commands in progress (R233, R238, R241). -/
def Dev.answer (r : Dev × Res) (c : Cmd) (cid : Nat) : Dev :=
  match r.2 with
  | .done st result detail specific =>
    (r.1.post c.src c.entry c.tag c.entry.notify st result detail).internalReport c.tag c.opcode st specific
  | .wait w result detail =>
    { r.1 with cmd := { r.1.cmd with inProgress := r.1.cmd.inProgress ++
      [⟨cid, c.src, c.entry, c.tag, c.entry.notify, c.opcode, c.handle, w, result, detail, false⟩] } }

/-- A command row has the effect `eff` on every entry that no check stops: it answers the next state in which the entry is taken, the effect has happened, and
the command has completed or waits. -/
def RowRuns (spec : CmdSpec) (dma : Option (List Byte)) (src : Source) (i : Instr) (eff : Cmd → Nat → Dev → Dev × Res) : Prop :=
  ∀ (s : State) (e : Entry), s.up → s.dev.accepts spec src dma e →
    exec i s = s.goesTo (Dev.answer (eff (Cmd.parse src e spec.params dma) (s.dev.cidOf src e) (s.dev.taken src e))
      (Cmd.parse src e spec.params dma) (s.dev.cidOf src e))

/-- An event row has the effect `eff` on every device that meets `cond`: it answers the next state in which the effect has happened. -/
def RowGoes (i : Instr) (cond : Dev → Prop) (eff : Dev → Dev) : Prop :=
  ∀ s : State, s.up → cond s.dev → exec i s = s.goesTo (eff s.dev)

/-- TIME_EPOCH_SET as it executes: the epoch for the tick that is open, or at once where no tick runs (R115). -/
def Dev.epochSetEffect (c : Cmd) (cid : Nat) (d : Dev) : Dev × Res :=
  let e := timeOf (c.p 0) (c.p 1) (c.p 2)
  if d.tick.running then ({ d with tick := { d.tick with epochReq := some (e, some cid) } }, .wait .epoch 0 0)
  else
    ({ d with tick := { d.tick with epochRem := 0, epochLive := true, epochCid := some cid, startK := none },
              time := { d.time with epoch := e } }, .wait .epoch 0 0)

/-- A write that reaches one register of a block and is accepted: no open pair of its requester, bytes enabled contiguously (R250), in a mode that takes it
(Table 11-3), not a change of RWD fields of an enabled block (R12), and not of an output without a channel. -/
structure Dev.takesWrite (d : Dev) (req : Requester) (off : Nat) (be : BitVec 4) (val : Word) : Prop where
  reaches : d.reaches req = true
  alone   : Tbl.get? d.glb.guards (d.reqOf req).key = none
  notSm   : req ≠ .smbus
  some    : be ≠ 0
  run     : contiguous be = true
  mode    : d.modeTakes (d.reqOf req) off = true
  idle    : d.wwe (d.reqOf req) ⟨off, beMask be, val⟩ = false
  there   : 0x20000 ≤ off → off < 0x28000 → d.chFree ((off - 0x20000) / 0x400) = false

/-- The word at an offset with the RW fields, and the RWD fields of a block that is not enabled, replaced in the enabled bytes (R254). -/
def Dev.overlaid (d : Dev) (req : Requester) (off : Nat) (be : BitVec 4) (val : Word) : Word :=
  let q := d.reqOf req
  let m := beMask be &&& (((findReg off).map fun r => r.bits .rw).getD 0 |||
    (if d.blockEnabled q off then 0 else ((findReg off).map fun r => r.bits .rwd).getD 0))
  (d.baseWord off &&& ~~~m) ||| (val &&& m)

/-- What a write makes wait for a boundary is added to what a device already waits for (R255). -/
def Dev.awaits (d : Dev) (req : Requester) (off : Nat) (be : BitVec 4) (val : Word) (d1 : Dev) : Dev :=
  let cs := d.waiting (d.reqOf req) ⟨off, beMask be, val⟩
  if cs.isEmpty then d1 else (cs.foldl Dev.pendWrite d1).arrive (cs.map (⟨·, none⟩))

/-- A guarded pair of a requester that its second write can complete: opened at X with the value `v` not more than 1 ms ago, in a mode that its row of
Table 11-4 allows (R257 to R259). -/
structure Dev.pairReady (d : Dev) (req : Requester) (x : Nat) (v : Word) : Prop where
  reaches : d.reaches req = true
  notSm   : req ≠ .smbus
  opened  : ∃ t, Tbl.get? d.glb.guards (d.reqOf req).key = some ⟨x, v, t⟩ ∧ d.now ≤ t + msec
  mode    : d.pairTakes (d.reqOf req) x = true

/-- The requester's pair is no longer open. -/
def Dev.pairShut (d : Dev) (req : Requester) : Dev :=
  { d with glb := { d.glb with guards := Tbl.del d.glb.guards (d.reqOf req).key } }

/-- Interrupts 4 to 7 were sent for conditions that hold, and for every one that holds and is enabled (R267). -/
def Dev.irqOk (d : Dev) : Prop :=
  d.glb.irqSent &&& ~~~d.irqConds = 0 ∧ d.irqConds &&& d.irqEnables &&& ~~~d.glb.irqSent = 0

/-- A pending copy stands only where a change waits (R12, R136). -/
def Dev.pendOk (d : Dev) : Prop :=
  ∀ p ∈ d.pend, ∃ b ∈ d.pendNow ++ d.pendLate ++ d.schedPend, b.change.touches p.1 = true

/-- Nothing is left to follow from the last row: no change waits, no request is to be judged again, every watch shows what it watches, and the
interrupts are as they should be. -/
structure Dev.quiet (d : Dev) : Prop where
  changes : d.pendNow = [] ∧ d.pendLate = [] ∧ d.schedPend = [] ∧ d.pend = []
  tick    : d.tick.startK = none ∧ (d.tick.running = true ∨ d.time.everValid = false ∧ d.clk.pllSince = none)
  mode    : d.glb.modeReq = none
  power   : d.pwr.asked = []
  refSel  : d.selAt = none
  outputs : ∀ o ∈ d.outs.keys, (∀ z, (d.outOf o).first = some z → d.now < z.at') ∧
    ((d.outOf o).goal.isSome = true ∨ (d.outOf o).st = .stopping → d.waited o = false)
  linkOff : d.bit F.LINK_STATUS.REF_BYPASS = false
  linkRef : d.bit F.LINK_CTRL.EN = true → d.bit F.LINK_CTRL.REF_SRC = true ∨ d.bit (F.MSn_STATUS.LOCKED (d.get F.LINK_CTRL.REF_MS)) = true
  cal     : ∀ n, n < 4 → d.calRunning n = true → (d.calOf n).lockOk = d.calLock n ∧ (d.calOf n).refOk = d.calRef n ∧
    (d.calOf n).parts.all d.chActive = true
  time0   : d.timeSrc = 0 → (d.time.st = .locked → d.timeDpllLocked = true) ∧ (d.time.st = .holdover → d.timeDpllLocked = false)
  time1   : d.time.dpllHeld = d.timeDpllHeld
  pps     : d.time.ppsOutAt.isSome = true → d.ppsEnabled = true
  lists   : d.replies = [] ∧ d.trigs = []
  croak   : d.croakFails &&& ~~~d.flt.croakBad = 0
  data    : d.flt.cbTarget ≠ 3 ∨ d.flt.cbLeft = 0
  boot    : d.inStep 7 = false ∧ (d.glb.step = 12 → d.glb.mode ≠ .run)
  irq     : d.irqOk

/-- `n` advances of a shaft that plans its own motion, in the ticks from `k` on (R144). -/
def Shaft.advances (x : Shaft) (profs : Tbl Prof) (k n : Nat) : Shaft :=
  match n with
  | 0 => x
  | m + 1 => (x.advances profs k m).advance profs (k + m)

/-- The device as before but for registers, commands and their completions, pending interrupt vectors, fault messages and events on their way, the output log,
and the model's count of free values. -/
def Dev.unitsKept (d d1 : Dev) : Prop :=
  d1 = { d with regs := d1.regs, cmd := d1.cmd, replies := d1.replies, msix := d1.msix, out := d1.out, free := d1.free, flt := { d.flt with queues := d1.flt.queues },
                evt := { d.evt with fifo := d1.evt.fifo, lost := d1.evt.lost, lostMs := d1.evt.lostMs } }

/-- Every register word as before but for those at some offsets. -/
def Dev.wordsKeptBut (d d1 : Dev) (offs : List Nat) : Prop :=
  ∀ off, off ∉ offs → d1.word off = d.word off

end Sys2Proof.Machine
end

