-- ==== Sys2Proof/Certificates/Slice0/Obligations.lean ====
section
/-! DEFINITION. The statements about the device: what every step keeps, how commands, registers, pairs, shafts, faults and records behave, and what each
row of the table does. -/

open Sys2Proof Sys2Proof.Machine

/-- A step takes the command at the front of the queue and answers what that command does with the rest of the queue. -/
def Obligations.StepRunsFront : Prop :=
  ∀ (c : Instr) (rest : List Instr) (s : State), s.pending = c :: rest → step s = exec c { s with pending := rest }

/-- With no command waiting, a step lets one period of the core clock pass on a device that is up, and does nothing to one that is not (the model's choice,
DESIGN CHOICE, log 1; R100). -/
def Obligations.EmptyQueueClock : Prop :=
  ∀ s : State, s.pending = [] →
    (s.up → step s = s.goesTo (s.dev.advance s.dev.corePeriod)) ∧ (¬ s.up → step s = .next s)

/-- The state right after reset: no command waits, nothing is powered and every output pin but FAULT_N is high impedance, the mode is BOOT, no tick has opened and none runs, ToD is
UNSET, no ring is enabled, no record is handled and FAULT_N is asserted, every event bit is 0, and every object is FREE (R334, R25, R126, R104, R229, R283, R65).
It also rests on a choice of the model: log 209. -/
def Obligations.ResetLeaves : Prop :=
  let d := State.reset.dev
  State.reset.pending = [] ∧ State.reset.lastOpened = none ∧ d.boot.powered = false ∧ d.pinDrive = .highZ ∧
    (∀ x : Signal, x.drives = true → d.signalPin x = some (if x = .faultN then .low else .highZ)) ∧ d.glb.mode = .boot ∧
    d.tick.running = false ∧ d.time.st = .unset ∧ (∀ r, (d.ring r).enabled = false) ∧ d.flt.rec? = none ∧ d.faultN = true ∧
    (∀ p ∈ d.regs, ∀ r, findReg p.1 = some r → p.2 &&& r.bits .rc = 0) ∧
    (∀ o, d.chFree o = true ∧ (d.outOf o).sub = .highZ) ∧ (∀ s, d.shaftFree s = true) ∧ (∀ f, d.folFree f = true) ∧ (∀ g, d.grpFree g = true) ∧
    (∀ i, d.snapFree i = true)

/-- What every step keeps holds in the state right after reset. -/
def Obligations.InvariantsHoldAtReset : Prop :=
  State.reset.dev.irqOk ∧ State.reset.dev.pendOk

/-- Every command and event of the table answers a next state in every state, and none touches the queue: no row stops. -/
def Obligations.EveryRowAnswers : Prop :=
  ∀ (c : Instr) (s : State), ∃ t, exec c s = .next t ∧ t.pending = s.pending

/-- Before power good and while RST_N is low, no command or event has an effect but those of the supplies, RST_N, PERST_N, step 1 of start-up and the boundary
scan (R334, R365, R344, R366). -/
def Obligations.NoSupplyNoEffect : Prop :=
  ∀ (c : Instr) (s : State), ¬ s.up → (∀ a b, c ≠ .powerGood a b) → c ≠ .supplyFall → (∀ a, c ≠ .rstNAssert a) → (∀ a, c ≠ .rstNRelease a) →
    (∀ a, c ≠ .perstN a) → c ≠ .perstNRelease → (∀ a, c ≠ .railCheck a) → (∀ a, c ≠ .testAccessPort a) → exec c s = .next s

/-- A tick index never repeats (R125, R110): a step leaves the index of the last tick opened, or raises it, or the whole device restarts from its supplies or
RST_N. -/
def Obligations.TicksNeverRepeat : Prop :=
  ∀ s t : State, step s = .next t →
    t.lastOpened = s.lastOpened ∨ (∃ k, t.lastOpened = some k ∧ ∀ j, s.lastOpened = some j → j < k) ∨
      (t.lastOpened = none ∧ ∃ c rest, s.pending = c :: rest ∧ (c = .supplyFall ∨ (∃ a b, c = .powerGood a b) ∨ ∃ a, c = .rstNAssert a))

/-- Vectors 4 to 7 stay exact (R267): after every step those recorded as sent have true conditions, and each one with a true condition and its enable
bit has been sent. -/
def Obligations.InterruptsStayExact : Prop :=
  ∀ s t : State, s.dev.irqOk → step s = .next t → t.dev.irqOk

/-- A pending copy outlives no change (R12, R136): after every step each pending copy still has a change that waits for its register. -/
def Obligations.PendingCopiesStayBacked : Prop :=
  ∀ s t : State, s.dev.pendOk → step s = .next t → t.dev.pendOk

/-- A quiet device stays as it is: what follows from a row ends. -/
def Obligations.QuietStaysAsItIs : Prop :=
  ∀ d : Dev, d.quiet → d.settle = d

/-- The next command: ring 0 before ring 1, both before ring 2 and the in-band queue, all before ring 3; ring 2 and the in-band queue take turns
where both have one ready; and in modes that do not serve the rings none executes (R237, R230), nor with no Newt core online to execute it (the model's
choice, log 60). -/
def Obligations.TurnFollowsPriority : Prop :=
  ∀ d : Dev, d.glb.mode ≠ .boot →
    (d.glb.mode = .halt ∨ d.coresRun = false → d.turn = none) ∧
    (d.glb.mode ≠ .halt → d.coresRun = true →
      (d.readySrc (.ring 0) = true → d.turn = some (.ring 0)) ∧
      (d.readySrc (.ring 0) = false → d.readySrc (.ring 1) = true → d.turn = some (.ring 1)) ∧
      (d.readySrc (.ring 0) = false → d.readySrc (.ring 1) = false →
        (d.readySrc (.ring 2) = true → d.readySrc .inband = false → d.turn = some (.ring 2)) ∧
        (d.readySrc (.ring 2) = false → d.readySrc .inband = true → d.turn = some .inband) ∧
        (d.readySrc (.ring 2) = true → d.readySrc .inband = true →
          (d.turn = some (.ring 2) ∧ ∀ d1 : Dev, d1 = d.popCmd (.ring 2) → d1.readySrc (.ring 0) = false → d1.readySrc (.ring 1) = false →
            d1.readySrc .inband = true → d1.turn = some .inband) ∨
          (d.turn = some .inband ∧ ∀ d1 : Dev, d1 = d.popCmd .inband → d1.readySrc (.ring 0) = false → d1.readySrc (.ring 1) = false →
            d1.readySrc (.ring 2) = true → d1.turn = some (.ring 2))) ∧
        (d.readySrc (.ring 2) = false → d.readySrc .inband = false → d.readySrc (.ring 3) = true → d.turn = some (.ring 3)) ∧
        (d.readySrc (.ring 2) = false → d.readySrc .inband = false → d.readySrc (.ring 3) = false → d.turn = none)))

/-- A command that does not execute: with its entry at the front of the source whose turn it is, one whose time limit has passed completes with TIMEOUT, counted
in CMD_TIMEOUT_COUNT, whatever its opcode (R239); inside its limit an opcode that Table 10-5 does not have completes with BAD_OPCODE (R244), and does not
count as executed where the start-up list skips its entry (R345); one that fails a check with that check's status (R241); one that must wait and finds no place with BUSY, counted in CMD_BUSY_COUNT (R238). None has another effect.
It also rests on choices of the model: logs 12 and 13. -/
def Obligations.CommandsThatDoNotExecute : Prop :=
  ∀ (d : Dev) (spec : CmdSpec) (src : Source) (dma : Option (List Byte)) (e : Entry), d.turn = some src → d.frontOf src = some e →
    opcodes.contains spec.opcode = true →
    let c := Cmd.parse src e spec.params dma
    let taken := (d.popCmd src).countCommand e
    (opcodes.contains e.opcode = false ∨ e.opcode = spec.opcode → c.timeout ≠ 0 → e.seen + c.timeout * msec < d.now →
      d.command spec src dma = ((d.popCmd src).count R.CMD_TIMEOUT_COUNT 1).post src e c.tag e.notify .timeout 0 0) ∧
    (c.timeout = 0 ∨ d.now ≤ e.seen + c.timeout * msec →
      (opcodes.contains e.opcode = false → (src = .list → listAccepts e.opcode = true) → d.command spec src dma = taken.post src e c.tag e.notify .badOpcode 0 0) ∧
      (opcodes.contains e.opcode = false → src = .list → listAccepts e.opcode = false →
        d.command spec src dma = (d.popCmd src).post src e c.tag e.notify .badOpcode 0 0) ∧
      (e.opcode = spec.opcode → (src = .list → listAccepts e.opcode = true) →
        (∀ st, taken.reject spec c = some st → d.command spec src dma = taken.post src e c.tag e.notify st 0 0) ∧
        (taken.reject spec c = none → spec.waits c taken = true → taken.hasPlace src = false →
          d.command spec src dma = (taken.count R.CMD_BUSY_COUNT 1).post src e c.tag e.notify .busy 0 0)))

/-- The order of checks (R241): a reserved bit or byte, the handles, the mode, and then STATE, RANGE, BUSY, NO_RESOURCE and DEADLINE in this order, whatever
the order in which a row lists its conditions: a status is given only where its condition holds and no earlier one does. -/
def Obligations.ChecksKeepTheirOrder : Prop :=
  ∀ (d : Dev) (spec : CmdSpec) (c : Cmd),
    let own := spec.checks c d ++ [(.range, c.valuesBad spec)]
    let fails (st : Status) : Prop := ∃ p ∈ own, p.1 = st ∧ p.2 = true
    (c.reservedOk spec = false → d.reject spec c = some .range) ∧
    (c.reservedOk spec = true → spec.ty ≠ 0 → ∀ st, d.checkHandle c.handle spec.ty spec.isFree .badHandle = some st → d.reject spec c = some st) ∧
    (c.reservedOk spec = true → (spec.ty = 0 ∨ d.checkHandle c.handle spec.ty spec.isFree .badHandle = none) →
      (∀ st, d.checkHandles c spec.handles = some st → d.reject spec c = some st) ∧
      (d.checkHandles c spec.handles = none →
        (spec.modes (c.mode d) = false → d.reject spec c = some .mode) ∧
        (spec.modes (c.mode d) = true →
          (fails .state → d.reject spec c = some .state) ∧
          (¬ fails .state → fails .range → d.reject spec c = some .range) ∧
          (¬ fails .state → ¬ fails .range → fails .busy → d.reject spec c = some .busy) ∧
          (¬ fails .state → ¬ fails .range → ¬ fails .busy → fails .noResource → d.reject spec c = some .noResource) ∧
          (¬ fails .state → ¬ fails .range → ¬ fails .busy → ¬ fails .noResource → fails .deadline → d.reject spec c = some .deadline) ∧
          (¬ fails .state → ¬ fails .range → ¬ fails .busy → ¬ fails .noResource → ¬ fails .deadline → d.reject spec c = none))))

/-- Handles (R242, R243): the handle of an object that is not FREE passes its own check; 0, a handle of another type, one whose index is out of range and one of a
FREE object do not, and one of another generation is stale. -/
def Obligations.HandlesAreChecked : Prop :=
  ∀ (d : Dev) (ty idx : Nat) (isFree : Dev → Nat → Bool) (wrong : Status), 0 < ty → idx < typeCount ty →
    (isFree d idx = false → d.checkHandle (d.handle ty idx) ty isFree wrong = none) ∧
    (isFree d idx = true → d.checkHandle (d.handle ty idx) ty isFree wrong = some .badHandle) ∧
    (d.checkHandle 0 ty isFree wrong = some .badHandle) ∧
    (∀ ty', ty' ≠ ty → 0 < ty' → d.checkHandle (d.handle ty' idx) ty isFree wrong = some wrong) ∧
    (∀ far, typeCount ty ≤ far → far < 65536 → d.checkHandle (d.handle ty far) ty isFree wrong = some .badHandle) ∧
    (∀ g, g < 256 → g ≠ d.gen ty idx → d.checkHandle (ty * 2 ^ 24 + g * 2 ^ 16 + idx) ty isFree wrong = some .staleHandle)

/-- CH_DESTROY puts the output into high impedance and steps its generation, so that every later check of the old handle answers STALE_HANDLE; CH_CREATE of an
output whose channel is not FREE completes with NO_RESOURCE (R69). -/
def Obligations.ChannelHandlesGoStale : Prop :=
  ∀ (s : State) (src : Source) (e : Entry), s.up →
    let destroy := Cmd.parse src e chDestroySpec.params none
    let create := Cmd.parse src e chCreateSpec.params none
    let o := destroy.idx
    (s.dev.accepts chDestroySpec src none e → ∃ d1 : Dev, exec (.chDestroy src) s = s.goesTo d1 ∧ (d1.outOf o).st = .free ∧ (d1.outOf o).sub = .highZ ∧
      d1.gen 1 o = (s.dev.gen 1 o + 1) % 256 ∧ ∀ isFree wrong, d1.checkHandle destroy.handle 1 isFree wrong = some .staleHandle) ∧
    (s.dev.turn = some src → s.dev.frontOf src = some e → e.opcode = 0x0100 → (create.timeout = 0 ∨ s.dev.now ≤ e.seen + create.timeout * msec) →
      create.reservedOk chCreateSpec = true → create.p 0 < 32 → s.dev.chFree (create.p 0) = false →
      exec (.chCreate src) s = s.goesTo (((s.dev.popCmd src).countCommand e).post src e create.tag e.notify .noResource 0 0))

/-- Without a tick nothing can be armed (R369): each command that arms an operation for a boundary ends with STATE, whatever boundary it names, where its entry and
handles are in order and its mode allows it. -/
def Obligations.NoTickNoArming : Prop :=
  ∀ (d : Dev) (spec : CmdSpec) (c : Cmd), d.tick.running = false →
    (spec ∈ [msRampStartSpec, shaftStartSpec, shaftStopSpec, shaftRetuneSpec, lineStartAllSpec, lineStopAllSpec, folStartSpec, folStopSpec,
      streamStartSpec, streamStopSpec, snapCaptureSpec] ∨ (spec ∈ [chStartSpec, chStopSpec] ∧ c.p 0 ≠ 0)) →
    c.reservedOk spec = true → (spec.ty = 0 ∨ d.checkHandle c.handle spec.ty spec.isFree .badHandle = none) →
    d.checkHandles c spec.handles = none → spec.modes (c.mode d) = true → d.reject spec c = some .state

/-- A read returns the enabled bytes and zeros (R249); but for the counters of the Newt cores, which are brought up to date, it changes nothing but RC bits in the
bytes it returns and the requester's own HI shadow (R249, R261), and over SMBus nothing at all (R266). An RC register
that is read in full is clear afterwards, and a narrow read clears no event that it does not return (R249).
It also rests on a choice of the model: log 148. -/
def Obligations.ReadsChangeOnlyWhatTheyReturn : Prop :=
  (∀ (d : Dev) (q : Req) (off : Nat) (be : BitVec 4),
    let r := d.readOne q off be
    r.2 &&& ~~~beMask be = 0 ∧
    (q.code = 6 → r.1 = d) ∧
    (off < 0x7C100 ∨ 0x7C200 ≤ off →
      r.1 = { d with regs := r.1.regs, glb := { d.glb with shadows := r.1.glb.shadows } } ∧
      (∀ off', off' ≠ off → r.1.word off' = d.word off') ∧
      (r.1.word off = d.word off ∨ ∃ x, findReg off = some x ∧ r.1.word off = d.word off &&& ~~~(x.bits .rc &&& beMask be)) ∧
      (∀ k, k ≠ q.key → Tbl.get? r.1.glb.shadows k = Tbl.get? d.glb.shadows k) ∧
      (isLo off = false → r.1.glb.shadows = d.glb.shadows))) ∧
  (∀ (d : Dev) (q : Req) (off : Nat) (be : BitVec 4) (x : RegDesc), findReg off = some x → d.hidden off = false → q.code ≠ 6 →
    off < 0x7C100 ∨ 0x7C200 ≤ off → be ≠ 0 →
    (d.readOne q off be).1.word off &&& x.bits .rc &&& beMask be = 0 ∧
    (d.readOne q off be).1.word off &&& ~~~(x.bits .rc &&& beMask be) = d.word off &&& ~~~(x.bits .rc &&& beMask be))

/-- What is not there, or may not be seen, reads as zero: reserved and unimplemented locations and RSVD fields (R10), every location outside GLB and CMD
during BOOT until REGS_READY (R256), and in no other mode on that ground, so that the fault record can be read in every HALT (R26), WO fields, and the key
registers for a requester that is not privileged, at both offsets of a pair (R260).
It also rests on choices of the model: logs 132 and 148. -/
def Obligations.HiddenReadsZero : Prop :=
  ∀ (d : Dev) (q : Req) (off : Nat) (be : BitVec 4), q.code ≠ 6 →
    (findReg off = none → gpBase off = none → isHi off = false → (d.readOne q off be).2 = 0) ∧
    (∀ r, findReg off = some r → gpBase off = none → isHi off = false →
      (d.readOne q off be).2 &&& ~~~(r.mask fun a => decide (a ≠ .wo)) = 0) ∧
    (d.glb.mode = .boot → d.glb.regsReady = false → 0x1000 ≤ off → (off < 0x4000 ∨ 0x5000 ≤ off) → (d.readOne q off be).2 = 0) ∧
    (d.glb.mode ≠ .boot → be ≠ 0 → off < 0x7C100 ∨ 0x7C200 ≤ off → ∀ r, findReg off = some r → gpBase off = none → isHi off = false →
      (d.readOne q off be).2 = d.viewWord r false off &&& beMask be) ∧
    (∀ x, gpBase off = some x → isKey x = true → q.priv = false → (d.readOne q off be).2 = 0)

/-- A write that nothing takes leaves the device as it is: of no enabled byte, over SMBus, to a reserved location, or to a register without a writable field in the
enabled bytes (R250, R266, R10, R253). Byte enables that are not contiguous make a recorded error and nothing else (R250). -/
def Obligations.UntakenWritesChangeNothing : Prop :=
  ∀ (d : Dev) (q : Req) (off : Nat) (be : BitVec 4) (val : Word),
    (be = 0 ∨ q.code = 6 → d.writeOne q off be val = (d, false)) ∧
    (be ≠ 0 → q.code ≠ 6 → Tbl.get? d.glb.guards q.key = none →
      (contiguous be = false → d.writeOne q off be val = (d.accessError q off 2, false)) ∧
      (contiguous be = true → findReg off = none → gpBase off = none → d.writeOne q off be val = (d, false)) ∧
      (∀ r, contiguous be = true → findReg off = some r → gpBase off = none → isLo off = false → isHi off = false → r.writable &&& beMask be = 0 →
        d.writeOne q off be val = (d, false)))

/-- An access error sets the status bit of its cause, increments that bit's counter, writes GLB_ACCESS_LAST, and GLB_ACCESS_FIRST if its VALID is 0 (R253, Table
11-2); it sends no message and changes nothing else. -/
def Obligations.AccessErrorsAreRecorded : Prop :=
  ∀ (d : Dev) (q : Req) (off cause : Nat), off < 2 ^ 20 → 1 ≤ cause → cause ≤ 7 → q.code < 8 →
    let d1 := d.accessError q off cause
    let bit := if cause = 1 then F.GLB_ACCESS_STATUS.WRITE_WHILE_ENABLED else if cause = 4 then F.GLB_ACCESS_STATUS.GUARD_ERR
      else if cause = 5 ∨ cause = 6 then F.GLB_ACCESS_STATUS.DENIED else F.GLB_ACCESS_STATUS.ACCESS_ERR
    let count := if cause = 1 then R.GLB_WWE_COUNT else if cause = 4 then R.GLB_GUARD_ERR_COUNT else R.GLB_ACCESS_ERR_COUNT
    let shown := BitVec.ofNat 32 (off + cause * 2 ^ 20 + q.code * 2 ^ 24 + 2 ^ 31)
    d1 = { d with regs := d1.regs } ∧ d1.bit bit = true ∧ d1.word count = BitVec.ofNat 32 (satAdd (d.word count).toNat 1) ∧
      d1.word R.GLB_ACCESS_LAST = shown ∧
      d1.word R.GLB_ACCESS_FIRST = (if d.bit F.GLB_ACCESS_FIRST.VALID then d.word R.GLB_ACCESS_FIRST else shown) ∧
      d.wordsKeptBut d1 [R.GLB_ACCESS_STATUS, count, R.GLB_ACCESS_LAST, R.GLB_ACCESS_FIRST]

/-- The guarded registers are those of Table 11-4, each at X with its complement at X + 4, and a completed pair in a mode that its row does not allow does nothing but
make an error with cause MODE (R259).
It also rests on a choice of the model: log 123. -/
def Obligations.GuardedRegistersAreThoseOfTheTable : Prop :=
  (∀ off x, gpBase off = some x ↔ (off = x ∨ off = x + 4) ∧
    (x ∈ [0x10, 0x20, R.PWR_DOMAIN_CTRL, R.FLT_INJ_MODE, R.FLT_INJ_CTRL, R.STORE_ERASE, R.EVT_CLAY_CLEAR, 0x70900] ∨
      ∃ slot word, slot < 2 ∧ word < 8 ∧ x = 0x70800 + 0x80 * slot + 8 * word)) ∧
  (∀ (d : Dev) (q : Req) (x : Nat) (v : Word),
    (x ∈ [R.FLT_INJ_MODE, R.EVT_CLAY_CLEAR] → q.mode d ≠ .configure → q.mode d ≠ .test → d.pairCommit q x v = d.accessError q x 5) ∧
    (q.mode d ≠ .test → d.pairCommit q R.FLT_INJ_CTRL v = d.accessError q R.FLT_INJ_CTRL 5) ∧
    (q.mode d ≠ .configure ∨ d.anyStream = true → d.pairCommit q R.STORE_ERASE v = d.accessError q R.STORE_ERASE 5) ∧
    (q.mode d = .boot ∨ q.mode d = .halt → d.pairCommit q x v = d.accessError q x 5))

/-- A guarded pair (R257, R258): the very next write of its requester completes it, or is discarded with it and one GUARD error for X; a pair older than 1 ms is
discarded with its error and the write is then a new one; a write to X + 4 without an open pair is a GUARD error. Reads, and writes of other requesters
that find no pair of their own, leave it open.
It also rests on choices of the model: logs 123, 134 and 148. -/
def Obligations.GuardedPairsNeedTheirComplement : Prop :=
  ∀ (d : Dev) (q : Req) (off : Nat) (be : BitVec 4) (val : Word), be ≠ 0 → q.code ≠ 6 →
    (∀ p, Tbl.get? d.glb.guards q.key = some p →
      let shut := { d with glb := { d.glb with guards := Tbl.del d.glb.guards q.key } }
      (d.now ≤ p.at' + msec → off = p.off + 4 → be = 15 → val = ~~~p.val → d.writeOne q off be val = (shut.pairCommit q p.off p.val, false)) ∧
      (d.now ≤ p.at' + msec → ¬ (off = p.off + 4 ∧ be = 15 ∧ val = ~~~p.val) → d.writeOne q off be val = (shut.accessError q p.off 4, true)) ∧
      (p.at' + msec < d.now → d.writeOne q off be val = (shut.accessError q p.off 4).writeFresh q off be val)) ∧
    (∀ x, Tbl.get? d.glb.guards q.key = none → gpBase off = some x → be = 15 → (isKey x = true → q.priv = true) →
      (off = x → d.writeOne q off be val = ({ d with glb := { d.glb with guards := Tbl.put d.glb.guards q.key ⟨x, val, d.now⟩ } }, false)) ∧
      (off ≠ x → d.writeOne q off be val = (d.accessError q x 4, true))) ∧
    (∀ x, Tbl.get? d.glb.guards q.key = none → gpBase off = some x → contiguous be = true →
      (be ≠ 15 → d.writeOne q off be val = (d.accessError q off 3, false)) ∧
      (be = 15 → isKey x = true → q.priv = false → d.writeOne q off be val = (d.accessError q off 6, false))) ∧
    (∀ (q' : Req) off', (off' < 0x7C100 ∨ 0x7C200 ≤ off') → (d.readOne q' off' be).1.glb.guards = d.glb.guards)

/-- LO/HI pairs (R261, R262): HI read after LO by the same requester is the HI of the instant of the LO read, whatever has changed since; LO written is staged and
changes nothing else; HI written commits both as one access.
It also rests on choices of the model: logs 124 and 148. -/
def Obligations.PairsReadAndWriteWhole : Prop :=
  ∀ (d : Dev) (q : Req) (lo : Nat) (be : BitVec 4), isLo lo = true → be ≠ 0 → q.code ≠ 6 → (lo < 0x7C100 ∨ 0x7C200 ≤ lo) → d.hidden lo = false →
    (∀ (d2 : Dev) (be2 : BitVec 4), d2.glb.shadows = (d.readOne q lo be).1.glb.shadows → d2.hidden (lo + 4) = false → be2 ≠ 0 →
      (d2.readOne q (lo + 4) be2).2 = d.busWord q false (lo + 4) &&& beMask be2) ∧
    (∀ (r : RegDesc) (val : Word), findReg lo = some r → r.writable ≠ 0 → gpBase lo = none → contiguous be = true → Tbl.get? d.glb.guards q.key = none →
      (0x20000 ≤ lo → lo < 0x28000 → d.chFree ((lo - 0x20000) / 0x400) = false) →
      let d1 := (d.writeOne q lo be val).1
      ∃ w, d1 = { d with glb := { d.glb with stages := Tbl.put d.glb.stages q.key (lo, w) } } ∧ w &&& beMask be = val &&& beMask be) ∧
    (∀ (s : Word) (val : Word), Tbl.get? d.glb.stages q.key = some (lo, s) →
      d.commitHi q (lo + 4) (beMask be) val =
        ({ d with glb := { d.glb with stages := Tbl.del d.glb.stages q.key } }).writeSet q (lo + 4)
          [⟨lo, BitVec.allOnes 32, s⟩, ⟨lo + 4, beMask be, val⟩])

/-- The planner keeps its limits (R148, R149): in a step that does not arrive the acceleration changes by at most J, and its magnitude stays within A, or comes down by J
toward it; an arrival sets v to the target and a to 0, with a speed step of at most A, or of |a| + J; and the speed never passes the segment's target. -/
def Obligations.PlannerKeepsItsLimits : Prop :=
  ∀ v a vt am j : Int, 0 < am → 0 < j →
    let r := planStep v a vt am j
    (r.2.2 = true → r.1 = vt ∧ r.2.1 = 0) ∧
    (r.2.2 = false → r.1 = v + r.2.1 ∧ (r.2.1 - a).natAbs ≤ j.natAbs ∧ r.2.1.natAbs ≤ max am.natAbs (a.natAbs - j.natAbs)) ∧
    (v < vt → r.1 ≤ vt) ∧ (vt < v → vt ≤ r.1) ∧
    (r.2.2 = true → v ≠ vt → (vt - v).natAbs ≤ max am.natAbs (a.natAbs + j.natAbs)) ∧
    (v = vt → a = 0 → r.2.2 = true)

/-- A shaft that holds a constant rational target is exact (R145): after n advances at target its position has grown by n × (TARGET + TGT_NUM / TGT_DEN) LSB, less
the REM_ACC / TGT_DEN LSB that the accumulator has gained; the accumulator always lies below TGT_DEN, and the shaft stays at target. -/
def Obligations.ConstantSpeedIsExact : Prop :=
  ∀ (x : Shaft) (profs : Tbl Prof) (k n : Nat), x.st = .running → x.sub = 3 ∨ x.sub = 4 → x.prof = none → x.following = false →
    x.v = x.target.tgt * 2 ^ 32 → x.a = 0 → x.trim = 0 → 0 < x.trackJ → x.target.num < x.target.den → x.remAcc < x.target.den →
    let y := x.advances profs k n
    y.atTarget = true ∧ y.target = x.target ∧ y.remAcc < y.target.den ∧
    ∃ grown : Int, y.pos % 2 ^ 80 = wrapN 80 ((x.pos : Int) + grown) ∧
      grown * x.target.den = n * (x.target.tgt * x.target.den + x.target.num) + x.remAcc - y.remAcc

/-- Messages on their way (R271): a block's queue of 8 takes a message behind the others; a full one combines it into its newest entry, which keeps its SOURCE, ORs in KIND and
flags, takes the higher class and sets MERGED, and FLT_COMBINED_COUNT counts it; and the collector takes the message of the lowest source, its oldest. -/
def Obligations.MessagesQueueAndCombine : Prop :=
  ∀ (d : Dev) (m : FaultMsg),
    let q := Tbl.getD d.flt.queues m.source []
    let d1 := d.pushFault m
    (q.length < 8 → Tbl.getD d1.flt.queues m.source [] = q ++ [m] ∧ d1.word R.FLT_COMBINED_COUNT = d.word R.FLT_COMBINED_COUNT) ∧
    (∀ l a, q = l ++ [a] → l.length = 7 →
      ∃ b, Tbl.getD d1.flt.queues m.source [] = l ++ [b] ∧ b.source = a.source ∧ b.kind = a.kind ||| m.kind ∧ b.cls = a.cls.max m.cls ∧
        b.flags = a.flags ||| m.flags ||| 4 ∧ b.address = a.address ∧
        d1.word R.FLT_COMBINED_COUNT = BitVec.ofNat 32 (satAdd (d.word R.FLT_COMBINED_COUNT).toNat 1)) ∧
    (∀ s, s ≠ m.source → Tbl.getD d1.flt.queues s [] = Tbl.getD d.flt.queues s []) ∧
    (∀ s a r, Tbl.sorted d.flt.queues = true → Tbl.get? d.flt.queues s = some (a :: r) → (∀ s', s' < s → Tbl.getD d.flt.queues s' [] = []) →
      faultMessage d = { d with flt := { d.flt with queues := Tbl.put d.flt.queues s r } }.takeFault a)

/-- Capture and merging (R276, R277), for messages that bring no reaction beyond an interrupt or beyond the one in force: a captured message becomes the record, with the
tick index and ToD of the instant; one that comes while a record is handled is merged into it, and FIRST stays. Both set the cause bit of their source. -/
def Obligations.FaultsAreCapturedOrMerged : Prop :=
  ∀ (d : Dev) (m : FaultMsg), m.cls ≠ .f → m.source < 128 →
    let r := d.reactionOf m.source m.cls
    let d1 := d.takeFault m
    (d.flt.rec? = none → r ≤ 1 → m.cls = .u ∨ r = 1 →
      d1.flt.rec? = some { first := { m with merged := false }, lastSource := m.source, kindOr := m.kind, cls := m.cls, reaction := r,
                           flagsOr := m.flags, mergeCount := 0, tick := d.tick.index, sec := secOf d.tod16 % 2 ^ 32, ns := nsOf d.tod16 } ∧
      d1.bit F.FLT_EVENT.CAPTURED = true ∧ (d1.word (R.FLT_CAUSE (m.source / 32))).getLsbD (m.source % 32) = true ∧ d1.glb.mode = d.glb.mode) ∧
    (d.flt.rec? = none → m.cls = .c → r = 0 → d1.flt.rec? = none) ∧
    (∀ x, d.flt.rec? = some x → x.cls ≠ .f → r ≤ x.reaction →
      (∃ y, d1.flt.rec? = some y ∧ y.first = x.first ∧ y.lastSource = m.source ∧ y.kindOr = x.kindOr ||| m.kind ∧
        y.flagsOr = x.flagsOr ||| m.flags ||| 4 ∧ y.mergeCount = satAdd x.mergeCount 1 ∧ y.cls = x.cls.max m.cls ∧ y.reaction = x.reaction) ∧
      d1.bit F.FLT_EVENT.MERGED = true ∧ (d1.word (R.FLT_CAUSE (m.source / 32))).getLsbD (m.source % 32) = true ∧ d1.glb.mode = d.glb.mode)

/-- The acknowledgement ends handling (R279): the record goes to FLT_PREV, vector 4's condition and CROAK_STOP end, FAULT_N keeps no cause but HALT and the time before
CONFIGURE, and nothing else is undone: mode, shafts, and live, degrade, force and cause bits stay. Without a record, and in HALT, it does nothing, and the command without a record
ends with STATE. A write of FLT_ACK.ACK = 1 and the command both make it. -/
def Obligations.AcknowledgementEndsHandling : Prop :=
  ∀ d : Dev,
    (∀ x, d.flt.rec? = some x → d.glb.mode ≠ .halt →
      let d1 := d.ackFault
      d1.fltStatus % 2 = 0 ∧ d1.flt = { d.flt with rec? := none, croakStop := false } ∧ d1.irqFault = false ∧ d1.faultN = !d.flt.configured ∧
      (∀ i, i < 8 → some (d1.word (R.FLT_PREV i)) = (x.words false)[i]?) ∧
      d1 = { d with regs := d1.regs, flt := d1.flt, evt := d1.evt } ∧
      (∀ off, (∀ i, i < 8 → off ≠ R.FLT_PREV i) → off ≠ R.EVT_LOST_COUNT → off ≠ R.EVT_EVENT → d1.word off = d.word off)) ∧
    (d.flt.rec? = none ∨ d.glb.mode = .halt → d.ackFault = d) ∧
    (∀ c : Cmd, d.flt.rec? = none → c.reservedOk fltAckSpec = true → (c.mode d).served = true → d.reject fltAckSpec c = some .state) ∧
    (∀ (s : State) (req : Requester) (be : BitVec 4) (val : Word), s.up → s.dev = d → d.takesWrite req R.FLT_ACK be val → be.getLsbD 0 = true →
      val.getLsbD 0 = true → exec (.fltAckWrite req be val) s = s.goesTo d.ackFault) ∧
    (∀ (s : State) (src : Source) (e : Entry), s.up → s.dev = d → d.accepts fltAckSpec src none e →
      exec (.fltAck src) s =
        s.goesTo (Dev.answer ((d.taken src e).ackFault, .ok 0 0) (Cmd.parse src e fltAckSpec.params none) (d.cidOf src e)))

/-- A mode request (R347, R245): the mode in force answers OK, the five requests of Table 15-8 go through or answer STATE, every other mode answers MODE and
a code that names none RANGE. -/
def Obligations.ModeRequestsFollowTheTable : Prop :=
  ∀ (d : Dev) (m : Mode),
    let asked := (d.glb.mode, m)
    let allowed : List (Mode × Mode) := [(.configure, .run), (.configure, .test), (.test, .configure), (.run, .configure), (.degraded, .run)]
    (m = d.glb.mode → d.judgeMode m.code = some .ok) ∧
    (asked ∈ allowed → d.judgeMode m.code = none ∨ d.judgeMode m.code = some .state) ∧
    (m ≠ d.glb.mode → asked ∉ allowed → d.judgeMode m.code = some .mode) ∧
    (asked = (.run, .configure) → (d.judgeMode m.code = some .state ↔ d.anyShaft = true)) ∧
    (asked = (.degraded, .run) →
      (d.judgeMode m.code = some .state ↔ d.flt.rec? ≠ none ∨ d.flt.degrade &&& (d.flt.live ||| d.flt.force) ≠ 0)) ∧
    (asked ∈ [(.configure, .run), (.configure, .test), (.test, .configure)] → d.judgeMode m.code = none) ∧
    (∀ code, 5 < code → d.judgeMode code = some .range)

/-- Commands that only report (R246, R49, R142, R197, R98, R290, R351, R317, R146, R3, R245): no unit of the device changes, and no register but the
command counters and those of lost events, lost completions and combined messages. TIME_GET also writes the capture registers (R102).
It also rests on choices of the model: logs 42, 62 and 144. -/
def Obligations.ReportsChangeNoUnit : Prop :=
  ∀ (s : State) (src : Source) (ok : Bool) (e : Entry), s.up →
    let own := [R.MGMT_CMD_COUNT, R.MGMT_CMD_LAT_SUM, R.MGMT_CMD_LAT_MAX, R.CMD_LOST_COUNT, R.FLT_COMBINED_COUNT, R.EVT_LOST_COUNT, R.EVT_EVENT]
    let cap := [R.TIME_CAP_SEC_LO, R.TIME_CAP_SEC_LO + 4, R.TIME_CAP_NS, R.TIME_CAP_FRAC, R.TIME_CAP_TICK_LO, R.TIME_CAP_TICK_LO + 4,
      R.TIME_CAP_OPTIME_LO, R.TIME_CAP_OPTIME_LO + 4, R.TIME_CAP_PCC, R.TIME_CAP_STATUS]
    let reports (spec : CmdSpec) (dma : Option (List Byte)) (i : Instr) (offs : List Nat) : Prop :=
      s.dev.accepts spec src dma e → ∃ d1 : Dev, exec i s = s.goesTo d1 ∧ s.dev.unitsKept d1 ∧ s.dev.wordsKeptBut d1 offs
    reports nopSpec none (.nop src) own ∧ reports getInfoSpec none (.getInfo src) own ∧
    reports chStatusSpec (dmaOf ok) (.chStatus src ok) own ∧ reports holdModelGetSpec (dmaOf ok) (.holdModelGet src ok) own ∧
    reports ptpStatusSpec (dmaOf ok) (.ptpStatus src ok) own ∧ reports tickStatusSpec (dmaOf ok) (.tickStatus src ok) own ∧
    reports shaftStatusSpec (dmaOf ok) (.shaftStatus src ok) own ∧ reports profReadSpec (dmaOf ok) (.profRead src ok) own ∧
    reports folStatusSpec (dmaOf ok) (.folStatus src ok) own ∧ reports camReadSpec (dmaOf ok) (.camRead src ok) own ∧
    reports grpStatusSpec (dmaOf ok) (.grpStatus src ok) own ∧ reports calStatusSpec none (.calStatus src) own ∧
    reports calSlotInfoSpec none (.calSlotInfo src) own ∧ reports storeInfoSpec (dmaOf ok) (.storeInfo src ok) own ∧
    reports fltReadSpec (dmaOf ok) (.fltRead src ok) own ∧ reports pwrStatusSpec none (.pwrStatus src) own ∧
    reports snapReadSpec (dmaOf ok) (.snapRead src ok) own ∧ reports timeGetSpec (dmaOf ok) (.timeGet src ok) (own ++ cap)

/-- CH_CREATE, CH_DESTROY and CH_CONFIG touch one channel (R65, R69, R70): every other output keeps its channel, its generation and its registers, and the master
synthesisers, references, tick, shafts and followers stay as they are.
It also rests on a choice of the model: log 113. -/
def Obligations.ChannelCommandsKeepOtherOutputs : Prop :=
  ∀ (s : State) (src : Source) (e : Entry), s.up →
    let others (o : Nat) (d1 : Dev) : Prop := (∀ o', o' ≠ o → o' < 32 → d1.outOf o' = s.dev.outOf o' ∧ d1.gen 1 o' = s.dev.gen 1 o' ∧
        ∀ rel, rel < 0x400 → d1.word (0x20000 + 0x400 * o' + rel) = s.dev.word (0x20000 + 0x400 * o' + rel)) ∧
      d1.ms = s.dev.ms ∧ d1.refs = s.dev.refs ∧ d1.tick = s.dev.tick ∧ d1.time = s.dev.time ∧ d1.sh = s.dev.sh ∧ d1.fo = s.dev.fo
    (s.dev.accepts chCreateSpec src none e → ∃ d1 : Dev, exec (.chCreate src) s = s.goesTo d1 ∧
      others (if (Cmd.parse src e chCreateSpec.params none).p 0 = 0xFF then (lowestFree 32 s.dev.chFree).getD 0
        else (Cmd.parse src e chCreateSpec.params none).p 0) d1) ∧
    (s.dev.accepts chDestroySpec src none e → ∃ d1 : Dev, exec (.chDestroy src) s = s.goesTo d1 ∧ others (Cmd.parse src e chDestroySpec.params none).idx d1) ∧
    (s.dev.accepts chConfigSpec src none e → ∃ d1 : Dev, exec (.chConfig src) s = s.goesTo d1 ∧ others (Cmd.parse src e chConfigSpec.params none).idx d1)

/-- Records are numbered in the order in which they are written (R293): each carries the next SEQ, modulo 2^32, and its code; and the staging FIFO of 64 keeps the order of
events, or counts one that finds it full (R296). -/
def Obligations.RecordsAreNumbered : Prop :=
  ∀ (d : Dev) (code : Nat) (payload : List Byte) (supp : Option (Nat × Nat)) (bucket : Option Nat), code < 4096 → d.evt.seq < 2 ^ 32 →
    (d.writeRecord code payload supp).evt.seq = (d.evt.seq + 1) % 2 ^ 32 ∧
    recSeq (d.recordOf code payload supp) = d.evt.seq ∧ recCode (d.recordOf code payload supp) = code ∧
    (d.bit F.EVT_STATUS.SAND_OFF = false → ∃ off, (d.writeRecord code payload supp).evt.sand.getLast? = some (off, d.recordOf code payload supp)) ∧
    (d.evt.fifo.length < 64 → d.event code bucket payload = { d with evt := { d.evt with fifo := d.evt.fifo ++ [⟨code, bucket, payload⟩] } }) ∧
    (64 ≤ d.evt.fifo.length → (d.event code bucket payload).evt.fifo = d.evt.fifo ∧ (d.event code bucket payload).evt.lost = d.evt.lost + 1 ∧
      (d.event code bucket payload).bit F.EVT_EVENT.LOST = true ∧
      (d.event code bucket payload).word R.EVT_LOST_COUNT = BitVec.ofNat 32 (satAdd (d.word R.EVT_LOST_COUNT).toNat 1))

/-- The register writes that have a row of their own: a write that is accepted does at once what the register's description says, with the fields that
need no boundary (R225, R229, R56, R53, R54, R65, R200, R307, R305, R348, R328, R329, R291, R279, R102); `new` is the word with those fields replaced, and what its
RWP fields ask for waits. Each row has beside its meaning the effect that it completes with where nothing stands against it: the doorbell or the head taken, the ring
enabled or drained, the capture taken, the MS started or stopped, the ramp armed or aborted, the output started or stopped, the link, the store or the field output
enabled or not, the windows freed, the counters cleared, sampling restarted, the checker test begun.
It also rests on choices of the model: logs 2, 71, 72, 88, 97, 101, 129, 136, 139, 159, 175, 188 and 193. -/
def Obligations.RegisterRowsAct : Prop :=
  ∀ (s : State) (req : Requester) (be : BitVec 4) (val : Word), s.up → be.getLsbD 0 = true →
    let d := s.dev
    let m := beMask be
    (∀ r, r < 4 → d.takesWrite .host (R.CMD_SQr_TAIL r) be val →
      let n := d.sqLen r
      let x := d.ring r
      let v := (d.overlaid .host (R.CMD_SQr_TAIL r) be val).toNat
      (v < n → exec (.cmdSqTail r be val) s =
        s.goesTo (d.setRing r { x with sqTail := v, seen := x.seen ++ List.replicate ((v + n - x.sqTail % n) % n) d.now })) ∧
      (n ≤ v → exec (.cmdSqTail r be val) s = s.goesTo (d.ringError r 1))) ∧
    (∀ r, r < 4 → d.takesWrite .host (R.CMD_CQr_HEAD r) be val →
      let v := (d.overlaid .host (R.CMD_CQr_HEAD r) be val).toNat
      (v < d.cqLen r → exec (.cmdCqHead r be val) s = s.goesTo (d.setRing r { d.ring r with cqHead := v })) ∧
      (d.cqLen r ≤ v → exec (.cmdCqHead r be val) s = s.goesTo (d.ringError r 2))) ∧
    (d.takesWrite .host R.CMD_CTRL be val →
      exec (.ringEn be val) s = s.goesTo ((List.range 4).foldl (fun d i => d.ringEnable i (val.getLsbD i)) d)) ∧
    (∀ r, r < 4 → d.takesWrite .host R.CMD_CTRL be val → (∀ i, i < 4 → i ≠ r → val.getLsbD i = (d.ring i).enabled) →
      let x := d.ring r
      (val.getLsbD r = true → x.enabled = false → exec (.ringEn be val) s = s.goesTo (d.setRing r
        { x with enabled := true, draining := false, err := 0, cqBad := false, sqHead := 0, sqTail := 0, cqTail := 0, cqHead := 0, seen := [] })) ∧
      (val.getLsbD r = false → x.enabled = true →
        exec (.ringEn be val) s = s.goesTo (d.setRing r { x with enabled := false, draining := decide (0 < d.outstanding r) }))) ∧
    (d.takesWrite req R.FLT_ACK be val → val.getLsbD 0 = true → exec (.fltAckWrite req be val) s = s.goesTo d.ackFault) ∧
    (d.takesWrite req R.TIME_CAP_CTRL be val → val.getLsbD 0 = true →
      exec (.capture req be val) s = s.goesTo d.doCapture ∧
      d.doCapture.get64 R.TIME_CAP_SEC_LO = secOf d.tod16 % 2 ^ 64 ∧ d.doCapture.word R.TIME_CAP_NS = BitVec.ofNat 32 (nsOf d.tod16) ∧
      d.doCapture.word R.TIME_CAP_FRAC = BitVec.ofNat 32 (fracOf d.tod16) ∧ d.doCapture.get64 R.TIME_CAP_TICK_LO = d.tick.index % 2 ^ 64 ∧
      d.doCapture.get64 R.TIME_CAP_OPTIME_LO = d.optime % 2 ^ 64 ∧ d.doCapture.word R.TIME_CAP_PCC = BitVec.ofNat 32 d.evt.pcc) ∧
    (∀ n, n < 4 → d.takesWrite req (R.MSn_CTRL n) be val →
      let new := d.overlaid req (R.MSn_CTRL n) be val
      let d1 := d.setWord (R.MSn_CTRL n) ((F.MSn_CTRL.EN n).into new (d.get (F.MSn_CTRL.EN n)))
      exec (.msCtrlEn req n be val) s = s.goesTo (d.awaits req (R.MSn_CTRL n) be val (d.msCtrl n new m val)) ∧
      (val.getLsbD 0 = true → d1.bit (F.MSn_CTRL.EN n) = false → d.surveying n = false → ∀ b, d1.selectBand n = some b →
        exec (.msCtrlEn req n be val) s = s.goesTo (d.awaits req (R.MSn_CTRL n) be val (d1.msStartGo n).1) ∧ (d1.msStartGo n).2 = true ∧
        ((d1.msStartGo n).1.msOf n).acqAt = some d.now) ∧
      (val.getLsbD 0 = false → d1.bit (F.MSn_CTRL.EN n) = true → d1.msInUse n = false →
        exec (.msCtrlEn req n be val) s = s.goesTo (d.awaits req (R.MSn_CTRL n) be val (d1.msDisable n .state)))) ∧
    (∀ n, n < 4 → d.takesWrite req (R.MSn_RAMP_CTRL n) be val → val.getLsbD 0 = true →
      let k := d.get64 (R.MSn_RAMP_TICK_LO n)
      exec (.msRampCtrlStart req n be val) s = s.goesTo (d.rampCtrl n (m &&& val)) ∧
      (val.getLsbD 1 = false → (∀ c ∈ d.rampChecks n, c.2 = false) → d.tick.running = true → k = 0 ∨ d.tooNear k = false →
        exec (.msRampCtrlStart req n be val) s = s.goesTo (d.arm (d.bndOf k) (.rampStart n) none))) ∧
    (∀ n, n < 4 → d.takesWrite req (R.MSn_RAMP_CTRL n) be val → val.getLsbD 1 = true →
      exec (.msRampCtrlAbort req n be val) s = s.goesTo (d.rampCtrl n (m &&& val)) ∧
      (∀ z, val.getLsbD 0 = false → (d.msOf n).ramp = some z → z.profile = false →
        exec (.msRampCtrlAbort req n be val) s = s.goesTo (
          let t := d.vcoMark n
          (((t.showWord n (d.rampWord n z) (d.msWord n).mod).setMs n { t.msOf n with ramp := none, exc := d.excFold n z }).set
            (F.MSn_STATUS.RAMPING n) 0).raise (F.MSn_EVENT2.RAMP_ABORTED n)))) ∧
    (∀ o, o < 32 → d.takesWrite req (R.OUTn_CTRL o) be val →
      let new := d.overlaid req (R.OUTn_CTRL o) be val
      let d1 := d.setWord (R.OUTn_CTRL o) ((F.OUTn_CTRL.EN o).into new (d.get (F.OUTn_CTRL.EN o)))
      let k := d.get64 (R.OUTn_START_TICK_LO o)
      exec (.outCtrlEn req o be val) s = s.goesTo (d.outCtrl o new m val) ∧
      (val.getLsbD 0 = true → (∀ c ∈ d1.chStartChecks o k, c.2 = false) → exec (.outCtrlEn req o be val) s = s.goesTo (d1.chStartGo o k)) ∧
      (val.getLsbD 0 = false → exec (.outCtrlEn req o be val) s = s.goesTo (d1.chStop o)) ∧
      (val.getLsbD 0 = false → (d.outOf o).st = .running → (d.outOf o).sub = .active → (d.outOf o).goal = none →
        exec (.outCtrlEn req o be val) s =
          s.goesTo ((d1.setCh o { d.outOf o with st := .stopping, stopReq := true, switchAt := d.now }).fallWait o false))) ∧
    (d.takesWrite req R.LINK_CTRL be val →
      let d1 := d.setWord R.LINK_CTRL (d.overlaid req R.LINK_CTRL be val)
      (d1.bit F.LINK_CTRL.EN = true → exec (.linkCtrlEn req be val) s = s.goesTo (d.awaits req R.LINK_CTRL be val d1)) ∧
      (d1.bit F.LINK_CTRL.EN = false → exec (.linkCtrlEn req be val) s = s.goesTo (d.awaits req R.LINK_CTRL be val (
        let d2 := d1.linkFall true
        ({ d2 with link := { d2.link with down := false } }).linkLive)))) ∧
    (d.takesWrite req R.STORE_CTRL be val →
      let d1 := d.setWord R.STORE_CTRL (d.overlaid req R.STORE_CTRL be val)
      exec (.storeCtrlEn req be val) s = s.goesTo (d.awaits req R.STORE_CTRL be val (d.storeCtrl (d.overlaid req R.STORE_CTRL be val))) ∧
      (d.bit F.STORE_CTRL.EN = false → d1.bit F.STORE_CTRL.EN = true → d1.storeState = 0 → exec (.storeCtrlEn req be val) s =
        s.goesTo (d.awaits req R.STORE_CTRL be val (({ d1 with store := { d1.store with perstAt := some d.now } }).storeTo 1))) ∧
      (d.bit F.STORE_CTRL.EN = true → d1.bit F.STORE_CTRL.EN = false →
        exec (.storeCtrlEn req be val) s = s.goesTo (d.awaits req R.STORE_CTRL be val d1.storeDisable))) ∧
    (d.takesWrite req R.STORE_RELEASE be val →
      let mask := (m &&& val &&& 0xFFFF#32).toNat
      let ws := (List.range 16).map fun i => let w := d.store.windows.getD i Window.free; if mask.testBit i then Window.free else w
      exec (.storeRelease req be val) s = s.goesTo (d.storeFree mask) ∧
      (ws ≠ d.store.windows → exec (.storeRelease req be val) s = s.goesTo (({ d with store := { d.store with windows := ws } }).sbUpdate))) ∧
    (∀ n, n < 8 → d.takesWrite req (R.FIELDn_CTRL n) be val →
      let new := d.overlaid req (R.FIELDn_CTRL n) be val
      (new.getLsbD 0 = true → d.domainOn 21 = true →
        exec (.fieldCtrlEn req n be val) s = s.goesTo (d.awaits req (R.FIELDn_CTRL n) be val (d.setWord (R.FIELDn_CTRL n) new))) ∧
      (new.getLsbD 0 = false ∨ d.domainOn 21 = false →
        exec (.fieldCtrlEn req n be val) s = s.goesTo (d.awaits req (R.FIELDn_CTRL n) be val (
          let d1 := d.setWord (R.FIELDn_CTRL n) ((F.FIELDn_CTRL.EN n).into new 0)
          ({ d1 with field := { d1.field with pulses := Tbl.del d1.field.pulses n } }).fieldLevel n false)))) ∧
    (d.takesWrite req R.MGMT_CTRL be val → val.getLsbD 2 = true →
      let d1 := d.mgmtCtrl (d.overlaid req R.MGMT_CTRL be val)
      exec (.cntClear req be val) s = s.goesTo { d1 with mgmt := { d1.mgmt with cnt := [] } }) ∧
    (d.takesWrite req R.MGMT_CTRL be val → val.getLsbD 2 = false →
      let w := d.overlaid req R.MGMT_CTRL be val
      let d1 := d.mgmtCount.setWord R.MGMT_CTRL (w &&& 0x7B#32)
      (d.mgmtCount.bit F.MGMT_CTRL.SAMP_EN = false → d1.bit F.MGMT_CTRL.SAMP_EN = true →
        exec (.sampEn req be val) s =
          s.goesTo (({ d1 with mgmt := { d1.mgmt with sampCnt := [], marks := [] } }).setWord R.MGMT_SAMP_WR 0)) ∧
      (d.mgmtCount.bit F.MGMT_CTRL.SAMP_EN = true ∨ d1.bit F.MGMT_CTRL.SAMP_EN = false → exec (.sampEn req be val) s = s.goesTo d1)) ∧
    (d.takesWrite req R.DBG_CHECK be val → val.getLsbD 0 = true →
      let d1 := d.setWord R.DBG_CHECK (d.overlaid req R.DBG_CHECK be val)
      exec (.checkerTest req be val) s = s.goesTo d1.checkerStart ∧
      (d.flt.checking = false → d1.get F.DBG_CHECK.TARGET ≠ 7 → d.domainOn 23 = true →
        exec (.checkerTest req be val) s = s.goesTo (({ d1 with flt := { d1.flt with checking := true } }).set F.DBG_CHECK_RESULT.DONE 0)))

/-- The guarded rows: the complement written in time to X + 4 shuts the pair, and the value takes effect as its register says (R257; R269, R346, R333,
R285, R286, R287, R315, R299, R223).
It also rests on choices of the model: logs 9, 94, 95 and 120. -/
def Obligations.GuardedPairRowsAct : Prop :=
  ∀ (s : State) (req : Requester) (v : Word), s.up →
    let d := s.dev.pairShut req
    let code := (s.dev.reqOf req).code
    let ctrl (source kind op : Nat) : Word := BitVec.ofNat 32 (source + kind * 1024 + op * 2 ^ 24)
    let shown (source kind op : Nat) : Dev := d.setWord R.FLT_INJ_CTRL (ctrl source kind op &&& 0x0700FFFF#32)
    (s.dev.pairReady req R.GLB_MODE_REQ v → s.dev.glb.modeReq = none →
      exec (.glbModeReq req (~~~v)) s = s.goesTo (
        let d1 := (((d.setWord R.GLB_MODE_REQ (v &&& 7)).set F.GLB_MODE_REQ_RESULT.STATUS 0).set F.GLB_MODE_REQ_RESULT.MODE
          (F.GLB_MODE_REQ.MODE.ofWord v)).set F.GLB_MODE_REQ_RESULT.DONE 0
        { d1 with glb := { d1.glb with modeReq := some ⟨F.GLB_MODE_REQ.MODE.ofWord v, code, none, false⟩ } })) ∧
    (s.dev.pairReady req R.GLB_SOFT_RESET v → v.getLsbD 0 = true →
      exec (.glbSoftReset req (~~~v)) s = s.goesTo (d.warmReset code)) ∧
    (s.dev.pairReady req R.PWR_DOMAIN_CTRL v →
      exec (.pwrDomainCtrl req (~~~v)) s = s.goesTo (
        let asked : PwrReq := ⟨F.PWR_DOMAIN_CTRL.DOMAIN.ofWord v, decide (F.PWR_DOMAIN_CTRL.ON.ofWord v = 1), none⟩
        { d.setWord R.PWR_DOMAIN_CTRL (v &&& 0x11F#32) with pwr := { d.pwr with asked := d.pwr.asked ++ [(asked, d.clk.aonAt + d.aonPeriod)] } })) ∧
    (s.dev.pairReady req R.FLT_INJ_MODE v → exec (.fltInjMode req (~~~v)) s = s.goesTo (d.injModeCommit v)) ∧
    (∀ source kind cls, source < 128 → kind < 64 → kindClass source kind = some cls → s.dev.injMode = 1 →
      s.dev.pairReady req R.FLT_INJ_CTRL (ctrl source kind 1) →
      exec (.forceSet req source kind) s = s.goesTo ((shown source kind 1).forceGo source kind cls).injAccept) ∧
    (∀ source kind, source < 128 → kind < 64 → s.dev.pairReady req R.FLT_INJ_CTRL (ctrl source kind 2) →
      exec (.forceClear req source kind) s = s.goesTo
        ({ shown source kind 2 with flt := { s.dev.flt with force := s.dev.flt.force &&& ~~~sourceBit source } }).injAccept) ∧
    (s.dev.pairReady req R.FLT_INJ_CTRL (ctrl 0 0 3) →
      exec (.forceClearAll req) s = s.goesTo ({ shown 0 0 3 with flt := { s.dev.flt with force := 0 } }).injAccept) ∧
    (s.dev.pairReady req R.FLT_INJ_CTRL (ctrl 0 0 4) → s.dev.injMode = 2 → s.dev.get F.FLT_INJ_MODE.CB_TARGET ≤ 4 →
      exec (.cbArm req) s = s.goesTo
        ({ shown 0 0 4 with flt := { s.dev.flt with
            cbTarget := s.dev.get F.FLT_INJ_MODE.CB_TARGET, cbBits := if s.dev.get F.FLT_INJ_MODE.CB_BITS = 2 then 2 else 1,
            cbLeft := min 16 (max 1 (s.dev.get F.FLT_INJ_MODE.CB_COUNT)) } }).injAccept) ∧
    (s.dev.pairReady req R.FLT_INJ_CTRL (ctrl 0 0 5) →
      exec (.cbCancel req) s = s.goesTo ({ shown 0 0 5 with flt := { s.dev.flt with cbLeft := 0 } }).injAccept) ∧
    (s.dev.pairReady req R.STORE_ERASE v → v.getLsbD 0 = true → s.dev.storeState = 3 ∨ s.dev.storeState = 4 →
      exec (.storeErase req (~~~v)) s = s.goesTo d.storeEraseGo) ∧
    (s.dev.pairReady req R.EVT_CLAY_CLEAR v → v.getLsbD 0 = true → s.dev.evt.clearing = none →
      exec (.evtClayClear req (~~~v)) s = s.goesTo
        (({ d with evt := { d.evt with clearing := some code, clearUsed := d.get F.EVT_STATUS.CLAY_USED, clayQueue := [] } }).set
          F.EVT_STATUS.CLEARING 1)) ∧
    (∀ slot word, slot < 2 → word < 8 → s.dev.pairReady req (R.LINK_KEY slot word) v →
      exec (.linkKey req slot word (~~~v)) s = s.goesTo (d.setWord (R.LINK_KEY slot word) v)) ∧
    (s.dev.pairReady req R.LINK_KEY_CTRL v → exec (.linkKeyCtrl req (~~~v)) s = s.goesTo (d.setWord R.LINK_KEY_CTRL (v &&& 3)))

/-- A register access as a row (R249 to R251, R257, R261, R262): a read answers its word after its side effects; a write of a register with no
pairing acts as its fields say; one of LO is staged, one of the value of a guarded pair opens it; accesses longer than two dwords do nothing but an error record. An access of the host to BAR2 reads or
writes a word of the MSI-X table (R267, the layout PRESUMED in log 131).
It also rests on choices of the model: logs 7, 8, 124, 125, 131, 133, 137 and 148. -/
def Obligations.RegisterAccessActs : Prop :=
  ∀ (s : State) (req : Requester) (off : Nat) (be : BitVec 4) (val : Word), s.up → s.dev.reaches req = true → off % 4 = 0 → off < 2 ^ 20 →
    let d := s.dev
    let q := d.reqOf req
    (exec (.registerRead req (.one off be)) s = s.goesTo ((d.readOne q off be).1.emit (.readData q.key [(d.readOne q off be).2]))) ∧
    (∀ be1, off + 4 < 2 ^ 20 →
      exec (.registerRead req (.two off be be1)) s = s.goesTo (
        let a := d.readOne q off be
        let b := a.1.readOne q (off + 4) be1
        b.1.emit (.readData q.key [a.2, b.2]))) ∧
    (exec (.registerRead req (.long off)) s = s.goesTo ((d.accessError q off 7).emit (.abort q.key))) ∧
    (∀ r, findReg off = some r → gpBase off = none → isLo off = false → isHi off = false → r.writable &&& beMask be ≠ 0 →
      d.takesWrite req off be val →
      exec (.registerWrite req (.one off be val)) s = s.goesTo (d.awaits req off be val (d.writeWord q ⟨off, beMask be, val⟩))) ∧
    (∀ r, findReg off = some r → gpBase off = none → isLo off = true → r.writable ≠ 0 → d.takesWrite req off be val →
      exec (.registerWrite req (.one off be val)) s = s.goesTo (d.stageLo q r off (beMask be) val)) ∧
    (gpBase off = some off → isKey off = false ∨ q.priv = true → Tbl.get? d.glb.guards q.key = none → req ≠ .smbus →
      exec (.registerWrite req (.one off 15 val)) s = s.goesTo { d with glb := { d.glb with guards := Tbl.put d.glb.guards q.key ⟨off, val, d.now⟩ } }) ∧
    (exec (.registerWrite req (.long off)) s = s.goesTo ((d.accessError q off 7).emit (.abort q.key))) ∧
    (req = .host → exec (.registerRead req (.bar2 off be)) s =
      s.goesTo (d.emit (.readData q.key [d.msix.word (off % 4096 / 4 * 4) &&& beMask be]))) ∧
    (req = .host → exec (.registerWrite req (.bar2 off be val)) s = s.goesTo (d.msixWrite (off % 4096 / 4 * 4) be val)) ∧
    (exec (.registerWrite req (.poisoned off)) s = s.goesTo ((d.accessError q off 7).sendFault 0x052 0x02 .c 0)) ∧
    (∀ p, Tbl.get? d.glb.guards q.key = some p →
      exec (.guardPairTimeout req) s = s.goesTo (
        let d1 := d.till (p.at' + msec)
        ({ d1 with glb := { d1.glb with guards := Tbl.del d1.glb.guards q.key } }).accessError q p.off 4))

/-- Supplies, RST_N and the boundary scan: the rows that act in every state of the supplies (R334, R365, R366), and the tick boundary, the one row that numbers
ticks (R125, R137). A start from the supplies or RST_N numbers ticks anew.
It also rests on choices of the model: logs 2, 3, 4, 5, 6, 7, 9, 108, 115, 116, 117, 122, 142, 143, 178, 181, 203, 206, 207, 208 and 209. -/
def Obligations.SupplyAndBoundaryRowsAct : Prop :=
  ∀ (s : State) (d : Dev), d = s.dev →
    (∀ bootSel, d.boot.powered = false → exec (.powerGood true bootSel) s = .next { s with
      dev := (((((d.coldReset { BootState.powerOn with powered := true }).setMode .boot 2 0).stepTo 1).sensorsStart.bootSample bootSel).aonStart).settle,
      lastOpened := none }) ∧
    (∀ bootSel, d.boot.powered = false → exec (.powerGood false bootSel) s = .next { s with
      dev := (((d.coldReset { BootState.powerOn with powered := true, rstLow := true }).setMode .boot 2 0).stepTo 1).sensorsStart.settle,
      lastOpened := none }) ∧
    (d.boot.powered = true → exec .supplyFall s = .next { s with
      dev := ({ d.fresh.coldReset { BootState.powerOn with vddAon := (d.freeVal 2).testBit 0, vddio := (d.freeVal 2).testBit 1 } with
        tap := TapState.reset } : Dev).settle, lastOpened := none }) ∧
    (∀ lowNs, s.up → d.pulseTaken lowNs = true → exec (.rstNAssert lowNs) s = .next { s with
      dev := (
        let d1 := { d with now := d.now + lowNs * perNs }
        let c := d1.fresh.coldReset { BootState.powerOn with powered := true, rstLow := true }
        let d2 := ({ c with glb := { c.glb with mode := d.glb.mode } }.setMode .boot 2 0).stepTo 2
        ({ d2 with glb := { d2.glb with resetCause := 1 } } : Dev)).settle, lastOpened := none }) ∧
    (∀ bootSel, d.boot.powered = true → d.boot.rstLow = true → exec (.rstNRelease bootSel) s =
      s.goesTo ((({ d with boot := { d.boot with rstLow := false, since := d.now } }).bootSample bootSel).aonStart.sensorsStart)) ∧
    (∀ lowNs, ¬ s.up → d.boot.perst = false → d.pulseTaken lowNs = true → exec (.perstN lowNs) s =
      s.goesTo { d.fresh with boot := { d.boot with perst := true } }) ∧
    (d.boot.perst = true → exec .perstNRelease s = s.goesTo { d with boot := { d.boot with perst := false, perstUp := d.now } }) ∧
    (∀ good, d.boot.powered = true → d.inStep 1 = true → good &&& 0x7F8#17 = 0x7F8#17 → exec (.railCheck good) s =
      s.goesTo ((d.set F.PWR_RAIL_STATUS.GOOD good.toNat).stepTo 2)) ∧
    (∀ tms tdi, d.boot.powered = true → d.tap.trst = false → exec (.testAccessPort (.tck tms tdi)) s =
      s.goesTo { d.tapRise tdi with tap := TapState.fall { (d.tapRise tdi).tap with state := tapNext (d.tapRise tdi).tap.state tms } }) ∧
    (d.boot.powered = true → exec (.testAccessPort (.trst true)) s =
      s.goesTo { d with tap := { TapState.reset with cells := d.tap.cells, trst := true } }) ∧
    (∀ k, s.up → d.opensK s.lastOpened = some k → exec .tickBoundary s = .next { s with
      dev := ((d.tillTod (d.gridTime k * 2 ^ 32)).boundary k).settle, lastOpened := some k })

/-- The device commands (0x00xx), one clause per row: a command whose turn it is and that no check stops is taken and has the effect its chapter gives it,
and it completes or waits with the RESULT and DETAIL of Table 10-5 (R245, R3).
It also rests on choices of the model: logs 101 and 148. -/
def Obligations.DeviceCommandsRun : Prop := ∀ (src : Source),
  RowRuns nopSpec none src (.nop src) (fun _ _ d => (d, .ok 0 0)) ∧
  RowRuns getInfoSpec none src (.getInfo src) (fun _ _ d =>
      let fw := d.word R.GLB_FW_REV
      (d, .ok 0x9640 (leNat (leBytes 2 0x3141 ++ leBytes 1 (F.GLB_FW_REV.MAJOR.ofWord fw) ++ leBytes 1 (F.GLB_FW_REV.MINOR.ofWord fw) ++
        leBytes 2 (F.GLB_FW_REV.PATCH.ofWord fw) ++ leBytes 1 d.lineDevice ++ leBytes 1 d.glb.mode.code)))) ∧
  RowRuns modeRequestSpec none src (.modeRequest src) (fun c cid d =>
      if d.glb.modeReq.isSome then (d, .done .busy 0 0 false)
      else match d.judgeMode (c.p 0) with
      | some st => (d, .done st (if st = .ok then c.p 0 else 0) 0 false)
      | none => ({ d with glb := { d.glb with modeReq := some ⟨c.p 0, Source.req c.src, some cid, false⟩ } }, .wait .mode 0 0)) ∧
  RowRuns configDigestSpec none src (.configDigest src) (fun c _ d =>
      let d1 := d.mgmtCount
      (d1, .ok (crc32 ((List.range (c.p 1 / 4)).flatMap fun i => leBytes 4 (d1.digestWord c.reqOf (c.flag 0) (c.p 0 + 4 * i)).toNat)) 0)) ∧
  RowRuns regReadSpec none src (.regRead src) (fun c _ d =>
      let a := d.readOne c.reqOf (c.p 0) 15
      (a.1, .ok a.2.toNat 0)) ∧
  RowRuns regWriteSpec none src (.regWrite src) (fun c _ d =>
      let a := d.writeOne c.reqOf (c.p 0) 15 (BitVec.ofNat 32 (c.p 1))
      (a.1, .done (if a.2 then .guard else .ok) 0 0 false))

/-- The channel commands (0x010x), one clause per row: a command whose turn it is and that no check stops is taken and has the effect its chapter gives it,
and it completes or waits with the RESULT and DETAIL of Table 10-5 (R65, R69, R58, R67, R68, R63, R246).
It also rests on choices of the model: logs 113, 157, 159, 161 and 188. -/
def Obligations.ChannelCommandsRun : Prop := ∀ (src : Source) (ok : Bool),
  RowRuns chCreateSpec none src (.chCreate src) (fun c _ d =>
      let o := if c.p 0 = 0xFF then (lowestFree 32 d.chFree).getD 0 else c.p 0
      (d.setCh o { OutCh.reset with st := .created }, .ok (d.handle 1 o) 0)) ∧
  RowRuns chDestroySpec none src (.chDestroy src) (fun c _ d => ((((d.setCh c.idx OutCh.reset).dropStops c.idx).bumpGen 1 c.idx).endStale c.handle, .ok 0 0)) ∧
  RowRuns chConfigSpec none src (.chConfig src) (fun c _ d =>
      let o := c.idx
      let d1 := d.chSettings o c
      (d1.setCh o { d1.outOf o with st := .configured, sub := .idle }, .ok 0 0)) ∧
  RowRuns chStartSpec none src (.chStart src) (fun c _ d => (d.chStartGo c.idx (c.p 0), .wait (.chStart c.idx) 0 0)) ∧
  RowRuns chStopSpec none src (.chStop src) (fun c _ d =>
      let o := c.idx
      if c.p 0 ≠ 0 then (d.arm (c.p 0) (.chStop o) none, .wait (.chStop o) 0 (c.p 0))
      else if (d.outOf o).sub = .armed ∨ (d.outOf o).sub = .parked then (d.chStop o, .ok 0 0)
      else (d.chStop o, .wait (.chStop o) 0 0)) ∧
  RowRuns chPhaseSpec none src (.chPhase src) (fun c cid d =>
      let o := c.idx
      let g := wrapN 48 (d.phaseGoal c)
      let p1 := (chg64 (R.OUTn_PHASE_LO o) g).foldl Dev.pendChange d
      let p2 := if c.flag 1 then p1.pendChange (chg (F.OUTn_PH_SLEW.PH_SLEW o) (c.p 1)) else p1
      (p2.arrive [⟨.phase o g (if c.flag 1 then some (c.p 1) else none) (some cid), none⟩], .wait .live 0 0)) ∧
  RowRuns chStatusSpec (dmaOf ok) src (.chStatus src ok) (fun c _ d =>
      let o := c.idx
      d.toHost c (c.p 0) ((List.range 22).flatMap fun i => leBytes 4 (d.outWord o (4 * i)).toNat)
        (.ok (d.outStatus o) (wrapN 48 (d.phaseNow o)))) ∧
  RowRuns chQuerySpec none src (.chQuery src) (fun c _ d => (d, .ok (if d.chFree (c.p 0) then 0 else d.handle 1 (c.p 0)) 0))

/-- The MS commands (0x014x), one clause per row: a command whose turn it is and that no check stops is taken and has the effect its chapter gives it,
and it completes or waits with the RESULT and DETAIL of Table 10-5 (R28, R31, R56, R33, R52, R53, R54).
It also rests on choices of the model: logs 112, 139, 164, 165, 191 and 193. -/
def Obligations.MasterCommandsRun : Prop := ∀ (src : Source) (dma : Option (List Byte)),
  RowRuns msConfigSpec none src (.msConfig src) (fun c _ d =>
      let n := c.p 0
      let d := d.set (F.MSn_CTRL.OSC_PRE n) (c.p 1)
      let d := d.set (F.MSn_CTRL.MOD_ORDER n) (c.p 2)
      let d := d.set (F.MSn_CTRL.DITHER n) (c.p 3)
      let d := d.set (F.MSn_SSC_CFG.SSC_MODE n) (c.p 4)
      let d := d.set (F.MSn_NINT.N_INT n) (c.p 5)
      let d := d.set (F.MSn_SSC_CFG.SSC_DEPTH n) (c.p 6)
      let d := d.set (F.MSn_SSC_CFG.SSC_RATE n) (c.p 7)
      let d := d.set64 (R.MSn_NFRAC_LO n) (c.p 8)
      (d.set64 (R.MSn_NMOD_LO n) (c.p 9), .ok 0 0)) ∧
  RowRuns msStartSpec none src (.msStart src) (fun c _ d =>
      let r := d.msStartGo (c.p 0)
      (r.1, if r.2 then .wait (.msLock (c.p 0)) 0 0 else .done .range 0 0 false)) ∧
  RowRuns msStopSpec none src (.msStop src) (fun c _ d => (d.msDisable (c.p 0) .state, .ok 0 0)) ∧
  RowRuns bandSurveySpec none src (.bandSurvey src) (fun c _ d => (d.surveyBegin (c.p 0), .wait (.survey (c.p 0)) 0 0)) ∧
  RowRuns msRampLoadSpec dma src (.msRampLoad src dma) (fun c _ d =>
      let n := c.p 0
      if c.flag 0 then
        match c.dma with
        | none => (d.sendFault 0x004 0x02 .c (c.p 7), .done .internal 0 0 true)
        | some b => ((List.range (c.p 2)).foldl (fun d i => d.segWrite n (c.p 1 + i) (slice b (16 * i) 16)) d, .ok 0 0)
      else (d.segWrite n (c.p 1) (leBytes 8 (c.p 3 % 2 ^ 61) ++ leBytes 4 (c.p 4) ++ leBytes 4 (c.p 5 + c.p 6 * 65536)), .ok 0 0)) ∧
  RowRuns msRampStartSpec none src (.msRampStart src) (fun c cid d => (d.arm (d.bndOf (c.p 1)) (.rampStart (c.p 0)) (some cid), .wait .armed 0 0)) ∧
  RowRuns msRampAbortSpec none src (.msRampAbort src) (fun c _ d => (d.rampAbortGo (c.p 0), .ok 0 0))

/-- The reference and DPLL commands (0x02xx), one clause per row: a command whose turn it is and that no check stops is taken and has the effect its chapter gives it,
and it completes or waits with the RESULT and DETAIL of Table 10-5 (R41, R42, R43, R51, R49).
It also rests on choices of the model: logs 21 and 111. -/
def Obligations.ReferenceCommandsRun : Prop := ∀ (src : Source) (ok : Bool),
  RowRuns refMonCreateSpec none src (.refMonCreate src) (fun c _ d =>
      let r := if c.p 0 = 0xFF then (lowestFree 8 d.refFree).getD 0 else c.p 0
      let d := d.set (F.REFn_CTRL.EN r) 1
      let d := d.set (F.REFn_CTRL.SE r) (c.p 1)
      let d := d.set (F.REFn_CTRL.INVERT r) (c.p 2)
      let d := d.set (F.REFn_NOM_DEN.REF_NOM_DEN r) (c.p 3)
      let d := d.set64 (R.REFn_NOM_LO r) (c.p 4)
      let d := d.setRef r { d.refOf r with bound := true }
      (d.refEnable r, .ok (d.handle 2 r) 0)) ∧
  RowRuns refMonDestroySpec none src (.refMonDestroy src) (fun c _ d =>
      let r := c.idx
      let d1 := (d.set (F.REFn_CTRL.EN r) 0).refDisable r
      (((d1.setRef r RefMon.reset).bumpGen 2 r).endStale c.handle, .ok 0 0)) ∧
  RowRuns dpllConfigSpec none src (.dpllConfig src) (fun c cid d =>
      let n := c.p 0
      d.bufferedRegs [chg (F.MSn_DPLL_CTRL.DPLL_EN n) (c.p 1), chg (F.MSn_DPLL_CTRL.SEL_MODE n) (c.p 2),
        chg (F.MSn_DPLL_CTRL.MANUAL_REF n) (c.p 3), chg (F.MSn_DPLL_CTRL.PBO n) (c.p 4),
        chg (F.MSn_DPLL_LIMITS.REVERT_HOLD n) (c.p 5), .word (R.MSn_DPLL_PRIO n) (BitVec.allOnes 32) (BitVec.ofNat 32 (c.p 6)),
        chg (F.MSn_DPLL_BW.BW n) (c.p 7), chg (F.MSn_DPLL_FAST_BW.BW n) (c.p 8), chg (F.MSn_DPLL_LIMITS.STEER_LIMIT n) (c.p 9),
        chg (F.MSn_DPLL_LOCK.DPLL_LOCK_WIN n) (c.p 10), chg (F.MSn_DPLL_LOCK.DPLL_LOCK_CNT n) (c.p 11)] cid) ∧
  RowRuns dpllSelectSpec none src (.dpllSelect src) (fun c _ d =>
      let ch := chg (F.MSn_DPLL_CTRL.MANUAL_REF (c.p 0)) (c.p 1)
      ((d.pendChange ch).arrive [⟨ch, none⟩], if d.refValid (c.p 1) then .ok 0 0 else .done .precond 0 0 false)) ∧
  RowRuns dpllHoldoverSpec none src (.dpllHoldover src) (fun c cid d => d.bufferedRegs [chg (F.MSn_DPLL_CTRL.FORCE_HOLDOVER (c.p 0)) (c.p 1)] cid) ∧
  RowRuns holdModelGetSpec (dmaOf ok) src (.holdModelGet src ok) (fun c _ d =>
      let n := c.p 1
      let mins := d.learnedMs n / 60000
      let blk := packBlock [(8, d.coef64 (R.MSn_HOLD_A0_LO n)), (8, d.coef64 (R.MSn_HOLD_A1_LO n)), (8, d.coef64 (R.MSn_HOLD_A2_LO n)),
        (8, d.coef64 (R.MSn_HOLD_D_LO n)), (2, d.get (F.MSn_HOLD_TEMP.T_REF n)), (4, mins)]
      d.toHost c (c.p 0) blk (.ok (mins % 2 ^ 32) (d.coef64 (R.MSn_HOLD_A0_LO n)))) ∧
  RowRuns holdModelSetSpec none src (.holdModelSet src) (fun c cid d =>
      let n := c.p 0
      let pair (lo v : Nat) := chg64 lo (v % 2 ^ 48)
      let cs := [chg (F.MSn_HOLD_TEMP.T_REF n) (c.p 1)] ++ pair (R.MSn_HOLD_A0_LO n) (c.p 2) ++ pair (R.MSn_HOLD_A1_LO n) (c.p 3) ++
        pair (R.MSn_HOLD_A2_LO n) (c.p 4) ++ pair (R.MSn_HOLD_D_LO n) (c.p 5)
      (cs.foldl Dev.pendChange d).buffered (cs ++ [.model n]) cid)

/-- The time, PTP and PPS commands (0x03xx), one clause per row: a command whose turn it is and that no check stops is taken and has the effect its chapter gives it,
and it completes or waits with the RESULT and DETAIL of Table 10-5 (R107, R106, R102, R115, R117, R246, R113).
It also rests on choices of the model: logs 23 and 31. -/
def Obligations.TimeCommandsRun : Prop := ∀ (src : Source) (ok : Bool),
  RowRuns timeSetSpec none src (.timeSet src) (fun c cid d =>
      let q : StepReq := ⟨some (timeOf (c.p 0) (c.p 1) (c.p 2)), 0, d.nextOpen, some cid⟩
      (d.requestStep q, if d.tick.running then .wait .step 0 0 else .ok 0 0)) ∧
  RowRuns timeAdjustSpec none src (.timeAdjust src) (fun c cid d =>
      let off := c.sp 0 64
      if c.flag 0 then
        (d.requestStep ⟨none, off, d.nextOpen, some cid⟩, if d.tick.running then .wait .step 0 0 else .ok 0 0)
      else (d.slew off, .ok 0 0)) ∧
  RowRuns timeGetSpec (dmaOf ok) src (.timeGet src ok) (fun c _ d =>
      let t := d.tod16
      d.doCapture.toHost c (c.p 0)
        (packBlock [(8, secOf t), (4, nsOf t), (2, fracOf t), (8, d.tick.index), (8, d.optime), (4, d.evt.pcc), (4, d.timeStatus)])
        (.ok (nsOf t) (secOf t % 2 ^ 48 + fracOf t * 2 ^ 48))) ∧
  (∀ (s : State) (e : Entry), s.up → s.dev.accepts (timeEpochSetSpec s.lastOpened) src none e →
    exec (.timeEpochSet src) s = s.goesTo (Dev.answer (Dev.epochSetEffect (Cmd.parse src e [pu 8 64, pu 4 32, pu 2 16] none) (s.dev.cidOf src e) (s.dev.taken src e))
      (Cmd.parse src e [pu 8 64, pu 4 32, pu 2 16] none) (s.dev.cidOf src e))) ∧
  RowRuns ptpConfigSpec none src (.ptpConfig src) (fun c cid d =>
      d.bufferedRegs [.word R.PTP_CFG (BitVec.allOnes 32)
          (BitVec.ofNat 32 (c.p 0 + c.p 1 * 2 + c.p 2 * 2 ^ 8 + c.p 3 * 2 ^ 16 + c.p 4 * 2 ^ 24)),
        chg F.PTP_CLASS.CLASS_LOCKED (c.p 5), chg F.PTP_CLASS.CLASS_HOLD (c.p 6), chg F.PTP_CLASS.CLASS_FREE (c.p 7),
        chg F.PTP_CLASS.EXT_PORT_CFG (c.p 8), chg F.PTP_INTERVALS.LOG_SYNC (c.p 9), chg F.PTP_INTERVALS.LOG_ANNOUNCE (c.p 10),
        chg F.PTP_INTERVALS.LOG_PDELAY (c.p 11), chg F.PTP_INTERVALS.ANNOUNCE_TIMEOUT (c.p 12)] cid) ∧
  RowRuns ptpPortConfigSpec none src (.ptpPortConfig src) (fun c cid d =>
      let p := c.p 0
      let en := chg ⟨R.PTP_PORT_EN (p / 32), p % 32, 1⟩ (c.p 1)
      (d.pendChange en).buffered [en, .ptpPort p (decide (c.p 1 = 1)) (decide (c.p 2 = 1)) (c.p 3) (c.sp 4 64)] cid) ∧
  RowRuns ptpStatusSpec (dmaOf ok) src (.ptpStatus src ok) (fun c _ d =>
      let p := c.p 1
      let x := d.portOf p
      let parent := (d.time.parent.map (·.sender)).getD (Config.ptpIdentity.toNat * 65536)
      let off := d.fitS 64 x.offset
      d.fresh.fresh.toHost c (c.p 0)
        (packBlock [(8, d.fresh.fitS 64 x.pathDelay), (8, off), (10, leNat (beBytes 10 parent)), (1, d.portState p)]) (.ok (d.portState p) off)) ∧
  RowRuns ppsConfigSpec none src (.ppsConfig src) (fun c cid d =>
      let ones := BitVec.allOnes 32
      d.bufferedRegs [chg F.TIME_CTRL.PPS_IN_EN (c.p 0), chg F.TIME_CTRL.PPS_OUT_EN (c.p 1), chg F.TIME_CTRL.PPS_IN_EDGE (c.p 2),
        chg F.TIME_PPS_CFG.PPS_WIDTH (c.p 3), .word R.TIME_PPS_IN_DELAY ones (BitVec.ofNat 32 (c.p 4)),
        .word R.TIME_PPS_OUT_DELAY ones (BitVec.ofNat 32 (c.p 5))] cid)

/-- The tick, line and snapshot commands (0x04xx, 0x0Bxx), one clause per row: a command whose turn it is and that no check stops is taken and has the effect its chapter gives it,
and it completes or waits with the RESULT and DETAIL of Table 10-5 (R142, R127, R130, R247, R158).
It also rests on a choice of the model: log 144. -/
def Obligations.TickCommandsRun : Prop := ∀ (src : Source) (ok : Bool),
  RowRuns tickStatusSpec (dmaOf ok) src (.tickStatus src ok) (fun c _ d =>
      d.toHost c (c.p 0)
        (packBlock [(8, d.tick.index), (8, d.tick.num), (2, d.tick.den), (2, d.get F.TICK_SCHED0.FB_CUT), (2, d.get F.TICK_SCHED0.CS),
          (2, d.get F.TICK_SCHED1.PUB), (2, d.get F.TICK_SCHED1.PUB_MARGIN), (1, d.get F.TICK_CTRL.DEG_HOLD), (4, d.tickStatusWord)])
        (.ok d.tickStatusWord d.tick.index)) ∧
  RowRuns tickPeriodSetSpec none src (.tickPeriodSet src) (fun c cid d =>
      if d.tick.running then ({ d with tick := { d.tick with perReq := some ⟨c.p 0, c.p 1, c.p 2, some cid⟩ } }, .wait .armed 0 0)
      else ({ d with tick := { d.tick with num := c.p 0, den := c.p 1, epochRem := 0, startK := none } }, .ok 0 0)) ∧
  RowRuns tickSchedSetSpec none src (.tickSchedSet src) (fun c cid d =>
      let deg := chg F.TICK_CTRL.DEG_HOLD (c.p 4)
      let s0 := Change.word R.TICK_SCHED0 (BitVec.allOnes 32) (BitVec.ofNat 32 (c.p 0 + 65536 * c.p 1))
      let s1 := Change.word R.TICK_SCHED1 (BitVec.allOnes 32) (BitVec.ofNat 32 (c.p 2 + 65536 * c.p 3))
      (([deg, s0, s1].foldl Dev.pendChange d).arrive [⟨deg, none⟩, ⟨s0, none⟩, ⟨s1, some cid⟩], .wait .live 0 0)) ∧
  RowRuns tickWaitSpec none src (.tickWait src) (fun c cid d => (d.arm (c.p 0) .tickWait (some cid), .wait .armed 0 0)) ∧
  RowRuns snapCaptureSpec none src (.snapCapture src) (fun c _ d =>
      let i := (lowestFree 16 d.snapFree).getD 0
      let k := d.bndOf (c.p 0)
      (({ d with snaps := Tbl.put d.snaps i ⟨k, [], [], [], none⟩ }).arm k (.snapshot i) none, .wait (.snapshot i) 0 0)) ∧
  RowRuns snapReadSpec (dmaOf ok) src (.snapRead src ok) (fun c _ d =>
      let b := (((Tbl.get? d.snaps c.idx).bind (·.image)).getD []).take (c.p 1)
      d.toHost c (c.p 0) b (.ok b.length 0)) ∧
  RowRuns snapReleaseSpec none src (.snapRelease src) (fun c _ d =>
      let d1 := { d with snaps := Tbl.del d.snaps c.idx, armed := d.armed.filter fun a => decide (a.op ≠ ArmOp.snapshot c.idx) }
      ((d1.finishWait (.snapshot c.idx) .staleHandle 0 0).bumpGen 9 c.idx, .ok 0 0)) ∧
  RowRuns lineStartAllSpec none src (.lineStartAll src) (fun c cid d => (d.arm (c.p 0) .lineStart (some cid), .wait .armed 0 0)) ∧
  RowRuns lineStopAllSpec none src (.lineStopAll src) (fun c cid d => (d.arm (c.p 0) (.lineStop (c.flag 0)) (some cid), .wait .armed 0 0))

/-- The shaft and profile commands (0x05xx), one clause per row: a command whose turn it is and that no check stops is taken and has the effect its chapter gives it,
and it completes or waits with the RESULT and DETAIL of Table 10-5 (R161, R151, R155, R152, R154, R158, R246, R146, R147).
It also rests on choices of the model: logs 14, 75, 84, 172 and 200. -/
def Obligations.ShaftCommandsRun : Prop := ∀ (src : Source) (ok : Bool) (dma : Option (List Byte)),
  RowRuns shaftCreateSpec none src (.shaftCreate src) (fun c _ d =>
      let s := if c.p 0 = 0xFF then (lowestFree 64 d.shaftFree).getD 0 else c.p 0
      (d.shaftTo s { Shaft.reset with st := .created, mirror := decide (c.p 1 = 1) } 0, .ok (d.handle 3 s) 0)) ∧
  RowRuns shaftDestroySpec none src (.shaftDestroy src) (fun c _ d =>
      let s := c.idx
      let d1 := (((d.dropChanges (Change.ofShaft s)).shaftTo s Shaft.reset 0).bumpGen 3 s).endStale c.handle
      ({ d1 with sh := { d1.sh with shafts := Tbl.del d1.sh.shafts s } }.shaftLive, .ok 0 0)) ∧
  RowRuns shaftConfigSpec none src (.shaftConfig src) (fun c cid d =>
      let s := c.idx
      let x := d.shaftOf s
      let preset := if c.flag 0 then some (c.p 7 * 65536 + c.p 8) else none
      (d.shaftTo s { x with st := .configured, sub := 0, ncfg := c.shaftCfg } 0).buffered
        [.shaftCfg s c.shaftCfg ⟨c.sp 4 64, c.p 3, c.p 5⟩ (c.p 6) preset] cid) ∧
  RowRuns shaftStartSpec none src (.shaftStart src) (fun c cid d =>
      let s := c.idx
      let x := d.shaftOf s
      let k := d.bndOf (c.p 0)
      ((d.shaftTo s { x with st := .running, sub := 1, v := 0, a := 0, start? := some ⟨k, none, d.restRecord x.ncfg.lineId, x.st, some cid⟩ } 0).arm k
        (.shaftStart s) none, .wait .armed 0 k)) ∧
  RowRuns shaftStopSpec none src (.shaftStop src) (fun c cid d =>
      let s := c.idx
      let k := d.bndOf (c.p 0)
      ((d.setShaft s { d.shaftOf s with stop? := some ⟨k, c.flag 0, some cid⟩ }).arm k (.shaftStop s) none, .wait (.shaftStop s) 0 0)) ∧
  RowRuns shaftSpeedSpec none src (.shaftSpeed src) (fun c cid d => d.buffered [.shaftTarget c.idx ⟨c.sp 0 64, c.p 1, c.p 2⟩] cid) ∧
  RowRuns shaftTrimSpec none src (.shaftTrim src) (fun c cid d => d.buffered [.shaftTrim c.idx (c.flag 0) (c.sp 0 64) (c.p 1)] cid) ∧
  RowRuns shaftRetuneSpec none src (.shaftRetune src) (fun c cid d =>
      let s := c.idx
      let k := d.bndOf (c.p 3)
      let z : ShaftStart := ⟨k, some ⟨c.sp 0 64, c.p 1, c.p 2⟩, none, (d.shaftOf s).st, some cid⟩
      ((d.setShaft s { d.shaftOf s with start? := some z }).arm k (.shaftStart s) none, .wait .armed 0 k)) ∧
  RowRuns shaftStatusSpec (dmaOf ok) src (.shaftStatus src ok) (fun c _ d =>
      let s := c.idx
      d.toHost c (c.p 0) ((List.range 28).flatMap fun i => leBytes 4 (d.shaftWord s i).toNat)
        (.ok (d.shaftWord s 0).toNat ((d.shaftWord s 4).toNat + 2 ^ 32 * (d.shaftWord s 5).toNat))) ∧
  RowRuns profCreateSpec none src (.profCreate src) (fun c _ d =>
      let p := (lowestFree 1024 d.profFree).getD 0
      let x : Prof := ⟨(firstFit 4096 (c.p 0) d.profRuns).getD 0, List.replicate (c.p 0) (List.replicate 32 0), false⟩
      ({ d with sh := { d.sh with profs := Tbl.put d.sh.profs p x } }, .ok (d.handle 6 p) 0)) ∧
  RowRuns profDestroySpec none src (.profDestroy src) (fun c _ d => (({ d with sh := { d.sh with profs := Tbl.del d.sh.profs c.idx } }.bumpGen 6 c.idx).endStale c.handle, .ok 0 0)) ∧
  RowRuns profLoadSpec dma src (.profLoad src dma) (fun c _ d =>
      match Tbl.get? d.sh.profs c.idx with
      | none => (d, .ok 0 0)
      | some x =>
        let put (cnt : Nat) (b : List Byte) : Dev × Res :=
          let segs := writeUnits x.segs (c.p 0) 32 cnt b
          let ok := wellFormedSegs segs
          ({ d with sh := { d.sh with profs := Tbl.put d.sh.profs c.idx { x with segs := segs, usable := ok } } }.sramWrite 0 (4 * cnt),
            if ok then .ok 0 0 else .done .range 0 0 false)
        if c.flag 0 then
          match c.dma with
          | none => (d.sendFault 0x004 0x02 .c (c.p 3), .done .internal 0 0 true)
          | some b => put (c.p 1) b
        else put 1 c.segBytes) ∧
  RowRuns profReadSpec (dmaOf ok) src (.profRead src ok) (fun c _ d =>
      let segs := ((Tbl.get? d.sh.profs c.idx).map (·.segs)).getD []
      d.toHost c (c.p 0) (segs.flatMap id) (.ok segs.length 0))

/-- The follower, cam and group commands (0x06xx), one clause per row: a command whose turn it is and that no check stops is taken and has the effect its chapter gives it,
and it completes or waits with the RESULT and DETAIL of Table 10-5 (R171, R169, R191, R189, R190, R172, R183, R185, R246, R177, R180, R197, R194, R176).
It also rests on choices of the model: logs 14, 23, 42, 78 and 84. -/
def Obligations.FollowerCommandsRun : Prop := ∀ (src : Source) (ok : Bool) (dma : Option (List Byte)),
  RowRuns folCreateSpec none src (.folCreate src) (fun c _ d =>
      let f := if c.p 0 = 0xFFFF then (lowestFree 4096 d.folFree).getD 0 else c.p 0
      (d.setFol f { Fol.reset with st := .created }, .ok (d.handle 4 f) 0)) ∧
  RowRuns folDestroySpec none src (.folDestroy src) (fun c _ d =>
      let d1 := d.dropChanges (Change.ofFol c.idx)
      let d2 := { d1 with fo := { d1.fo with fols := Tbl.del d1.fo.fols c.idx } }
      (((d2.bumpGen 4 c.idx).endStale c.handle).folLive, .ok 0 0)) ∧
  RowRuns folConfigSpec none src (.folConfig src) (fun c cid d =>
      let x := d.folOf c.idx
      let st := if x.st = .created then .configured else x.st
      (d.setFol c.idx { x with st := st, nbind := some c.folBind }).buffered [.folBind c.idx c.folBind] cid) ∧
  RowRuns folStartSpec none src (.folStart src) (fun c cid d =>
      let x := d.folOf c.idx
      let k := d.bndOf (c.p 0)
      let y := { x with st := .running, lock := 1, start? := some ⟨k, c.flag 0, c.flag 1, x.st, some cid⟩ }
      (((d.setFol c.idx y).folLive).arm k (.folStart c.idx) none, .wait .armed 0 k)) ∧
  RowRuns folStopSpec none src (.folStop src) (fun c cid d =>
      let k := d.bndOf (c.p 0)
      ((d.setFol c.idx { d.folOf c.idx with stop? := some (k, some cid) }).arm k (.folStop c.idx) none, .wait (.folStop c.idx) 0 0)) ∧
  RowRuns folOffsetSpec none src (.folOffset src) (fun c cid d => d.buffered [.folOffset c.idx (c.flag 0) (c.sp 0 64) (if c.flag 1 then none else some (c.p 1))] cid) ∧
  RowRuns folLimitsSpec none src (.folLimits src) (fun c cid d => d.buffered [.folLimits c.idx (c.p 0) (c.p 1) (c.p 2) (c.p 3)] cid) ∧
  RowRuns folClearSpec none src (.folClear src) (fun c cid d =>
      if d.tick.running then (d.arm d.nextOpen (.folClear c.idx) (some cid), .wait .armed 0 0)
      else (d.folClearAt c.idx, .ok 0 0)) ∧
  RowRuns folStatusSpec (dmaOf ok) src (.folStatus src ok) (fun c _ d =>
      let x := d.folOf c.idx
      let w := d.folWords c.idx
      let b := x.bind.getD ⟨0, none, 0, 0, 0, 0, 0⟩
      let blk := packBlock [(32, leNat (w.flatMap fun v => leBytes 4 v.toNat)), (16, x.g), (8, wrapN 64 x.offTarget), (8, wrapN 64 x.offset),
        (4, x.frem), (4, wrapN 32 b.n), (4, b.m), (4, x.offRate), (4, x.warn), (4, x.trip), (4, x.pubMiss), (4, x.fbStale), (4, x.fbDup),
        (4, x.slips), (4, x.trips), (1, x.missLimit), (1, x.tripAct), (1, min 255 x.goodRun)]
      d.toHost c (c.p 0) blk (.ok (w.getD 0 0).toNat (w.getD 6 0).toNat)) ∧
  RowRuns camCreateSpec none src (.camCreate src) (fun c _ d =>
      let i := (lowestFree 512 d.camFree).getD 0
      let zero := List.replicate (c.p 1) (List.replicate 16 0)
      let x : Cam := ⟨(firstFit 32768 (c.p 1) d.camRuns).getD 0, c.sp 0 64, zero, zero, false⟩
      ({ d with fo := { d.fo with cams := Tbl.put d.fo.cams i x } }, .ok (d.handle 5 i) 0)) ∧
  RowRuns camDestroySpec none src (.camDestroy src) (fun c _ d =>
      let d1 := d.dropChanges fun x => decide (x = .cam c.idx)
      (({ d1 with fo := { d1.fo with cams := Tbl.del d1.fo.cams c.idx } }.bumpGen 5 c.idx).endStale c.handle, .ok 0 0)) ∧
  RowRuns camLoadSpec dma src (.camLoad src dma) (fun c _ d =>
      match Tbl.get? d.fo.cams c.idx with
      | none => (d, .ok 0 0)
      | some x =>
        let put (cnt : Nat) (b : List Byte) : Dev × Res :=
          let y := { x with npts := writeUnits x.npts (c.p 0) 16 cnt b, loaded := true }
          (({ d with fo := { d.fo with cams := Tbl.put d.fo.cams c.idx y } }.sramWrite 0 (2 * cnt)).arrive [⟨.cam c.idx, none⟩], .ok 0 0)
        if c.flag 0 then
          match c.dma with
          | none => (d.sendFault 0x004 0x02 .c (c.p 4), .done .internal 0 0 true)
          | some b => put (c.p 1) b
        else put 1 (leBytes 8 (c.p 2) ++ leBytes 8 (c.p 3))) ∧
  RowRuns camReadSpec (dmaOf ok) src (.camRead src ok) (fun c _ d =>
      match Tbl.get? d.fo.cams c.idx with
      | none => (d, .ok 0 0)
      | some x => d.toHost c (c.p 0) (x.npts.flatMap id ++ leBytes 8 (wrapN 64 x.lift)) (.ok x.npts.length (wrapN 64 x.lift))) ∧
  RowRuns grpCreateSpec none src (.grpCreate src) (fun c _ d =>
      let g := if c.p 0 = 0xFFFF then (lowestFree 1024 d.grpFree).getD 0 else c.p 0
      (d.setGrp g Grp.reset, .ok (d.handle 7 g) 0)) ∧
  RowRuns grpDestroySpec none src (.grpDestroy src) (fun c _ d =>
      let d1 := d.dropChanges (Change.ofGrp c.idx)
      (({ d1 with fo := { d1.fo with grps := Tbl.del d1.fo.grps c.idx } }.bumpGen 7 c.idx).endStale c.handle, .ok 0 0)) ∧
  RowRuns grpConfigSpec none src (.grpConfig src) (fun c cid d =>
      let m := BitVec.ofNat 256 (c.p 0)
      (d.setGrp c.idx { d.grpOf c.idx with nmask := m }).buffered [.grpCfg c.idx m (c.p 1) (c.p 2)] cid) ∧
  RowRuns grpLatencySpec none src (.grpLatency src) (fun c cid d => d.buffered [.grpLatency c.idx (c.p 0) (c.p 1)] cid) ∧
  RowRuns grpStatusSpec (dmaOf ok) src (.grpStatus src ok) (fun c _ d =>
      let g := c.idx
      let x := d.grpOf g
      let slots := (List.range 32).foldl (fun m s => if (d.slotOf g s).isSome then m + 2 ^ s else m) 0
      let flags := b2n (!x.samples.isEmpty) + 2 * b2n x.clamped + 4 * x.latMode + 256 * x.cls
      let delay := d.fitU 32 x.pathDelay
      d.fresh.toHost c (c.p 0) (packBlock [(32, x.mask.toNat), (4, slots), (4, x.lat), (4, delay), (4, flags), (4, x.pubMiss)])
        (.ok slots (x.lat + delay * 2 ^ 32)))

/-- The calibration, recorder, store and stream commands (0x07xx, 0x08xx), one clause per row: a command whose turn it is and that no check stops is taken and has the effect its chapter gives it,
and it completes or waits with the RESULT and DETAIL of Table 10-5 (R85, R90, R98, R94, R97, R300, R317, R308, R302, R318, R305, R316).
It also rests on choices of the model: logs 48, 88, 195 and 196. -/
def Obligations.RecorderCommandsRun : Prop := ∀ (src : Source) (ok : Bool),
  RowRuns calRunSpec none src (.calRun src) (fun c _ d =>
      let n := c.p 0
      let mask := if c.p 1 = 0 then 15 else c.p 1
      ((d.setCal n { d.calOf n with pending := some ⟨3, mask, some d.calFrom⟩ }).calShow n 3 0, .wait (.cal n) 0 0)) ∧
  RowRuns calAbortSpec none src (.calAbort src) (fun c _ d =>
      let n := c.p 0
      if d.calRunning n then
        if d.tick.running then (d.setCal n { d.calOf n with abortK := some d.nextOpen }, .ok 0 0) else (d.calEnd n true, .ok 0 0)
      else (d.calCancel n, .ok 0 0)) ∧
  RowRuns calStatusSpec none src (.calStatus src) (fun c _ d =>
      let n := c.p 0
      (d, .ok (d.word (R.CALn_STATUS n)).toNat ((d.word (R.CALn_RESULT n)).toNat + 2 ^ 32 * (d.word (R.CALn_QUALITY n)).toNat))) ∧
  RowRuns calSaveSpec none src (.calSave src) (fun _ _ d =>
      let slot := match d.newestSlot with | some s => 1 - s | none => 0
      let top := max (((d.validSlot 0).map (·.gen)).getD 0) (((d.validSlot 1).map (·.gen)).getD 0)
      let d1 := { d with cal := { d.cal with save := some ⟨slot, top + 1, none⟩ } }.set F.CAL_SAVE_STATUS.SAVE_BUSY 1
      (if d.tick.running then d1 else d1.saveSnap, .wait .save 0 0)) ∧
  RowRuns calRestoreSpec none src (.calRestore src) (fun c _ d =>
      match d.restoreSlot (c.p 0) with
      | none => (d, .done .precond 0 0 false)
      | some s =>
        let on := [0, 1, 2, 3].filter fun n => d.bit (F.MSn_CTRL.EN n)
        let off := [0, 1, 2, 3].filter fun n => !d.bit (F.MSn_CTRL.EN n)
        let d1 := d.slotWrite s (off.flatMap slotBand)
        let d2 := d1.arrive (restoreOffs.map fun o => ⟨.word o (BitVec.allOnes 32) (Tbl.getD s.words o 0), none⟩)
        let mask := on.foldl (fun m n => m + 2 ^ n) 0
        (d2, if mask = 0 then .ok s.gen 0 else .done .partialDone s.gen mask false)) ∧
  RowRuns calSlotInfoSpec none src (.calSlotInfo src) (fun c _ d =>
      match d.validSlot (c.p 0 - 1) with
      | none => (d, .done .precond 0 0 false)
      | some s => (d, .ok s.gen (s.optime % 2 ^ 44 + s.pcc % 2 ^ 20 * 2 ^ 44))) ∧
  RowRuns evtReadSpec (dmaOf ok) src (.evtRead src ok) (fun c _ d =>
      if c.p 3 = 0 ∧ !c.flag 0 then
        let x := d.readSand (c.p 1) (c.p 2)
        ({ d with evt := { d.evt with sandBytes := 0, threshHit := false } }).toHost c (c.p 0) x.1 (.ok x.1.length x.2)
      else
        let x := if c.p 3 = 1 then d.readClay (c.p 1) (c.p 2) else d.readRegion (c.p 1) (c.p 2)
        d.toHost c (c.p 0) x.1 (.ok x.1.length x.2)) ∧
  RowRuns storeInfoSpec (dmaOf ok) src (.storeInfo src ok) (fun c _ d =>
      let s := d.store
      let held := (List.range 8).flatMap fun i => [(8, (d.oldestTick i).getD 0), (8, d.newestTick i)]
      let fs := [(1, d.storeState), (1, b2n s.cache + 2 * d.get F.STORE_STATUS.FLUSH_MODE), (1, s.gts), (1, s.width), (4, d.trSegCount),
        (4, d.preserved.length), (8, s.lbas), (8, d.fmtId), (8, d.sbGen), (8, s.segSeq)] ++ held ++
        [(512, leNat (s.windows.flatMap Window.image))]
      d.toHost c (c.p 0) (packBlock fs) (.ok d.storeState (d.trSegCount * 512))) ∧
  RowRuns storeFormatSpec none src (.storeFormat src) (fun _ cid d =>
      let freed := { d with store := { d.store with windows := List.replicate 16 Window.free } }
      let img := freed.sbImage (d.evt.pcc * 2 ^ 44 + d.optime) d.store.lbas
      let write := StoreJob.fmt img :: d.sbFlush true
      ((d.jobsPut (write ++ write ++ [.dealloc (some cid)])).storeTo 6, .wait .store 0 0)) ∧
  RowRuns streamCreateSpec none src (.streamCreate src) (fun c _ d =>
      let s := if c.p 0 = 0xFF then (lowestFree 8 d.streamFree).getD 0 else c.p 0
      (d.setStream s { Stream.reset with st := .created }, .ok (d.handle 8 s) 0)) ∧
  RowRuns streamDestroySpec none src (.streamDestroy src) (fun c _ d =>
      ((({ d with store := { d.store with streams := Tbl.del d.store.streams c.idx } }).bumpGen 8 c.idx).endStale c.handle, .ok 0 0)) ∧
  RowRuns streamConfigSpec none src (.streamConfig src) (fun c _ d =>
      let x := d.streamOf c.idx
      (d.setStream c.idx { x with st := .configured, mode := c.p 0, decim := c.p 1, first := c.p 2, count := c.p 3, pre := c.p 4, post := c.p 5 },
        .ok 0 0)) ∧
  RowRuns streamStartSpec none src (.streamStart src) (fun c cid d =>
      let k := d.bndOf (c.p 0)
      ((d.setStream c.idx { d.streamOf c.idx with start? := some (k, some cid) }).arm k (.streamStart c.idx) none, .wait .armed 0 k)) ∧
  RowRuns streamStopSpec none src (.streamStop src) (fun c _ d =>
      let k := d.bndOf (c.p 0)
      ((d.setStream c.idx { d.streamOf c.idx with stop? := some k }).arm k (.streamStop c.idx) none, .wait (.streamStop c.idx) 0 k)) ∧
  RowRuns streamTriggerSpec none src (.streamTrigger src) (fun c _ d =>
      let r := d.trigger c.idx 0
      (r.1, if r.2 then .ok 0 d.tick.index else .done .noResource 0 0 false)) ∧
  RowRuns storeReadSpec (dmaOf ok) src (.storeRead src ok) (fun c cid d =>
      let x := d.readTrace c.idx (c.p 1) (c.p 2)
      let job : ReadJob := ⟨cid, c.dma.isSome, c.p 0, x.1, x.2.1, x.2.2⟩
      (d.jobsPut [.read job], .wait .store 0 0))

/-- The fault and power commands (0x09xx, 0x0Axx), one clause per row: a command whose turn it is and that no check stops is taken and has the effect its chapter gives it,
and it completes or waits with the RESULT and DETAIL of Table 10-5 (R290, R279, R275, R286, R333, R351).
It also rests on choices of the model: logs 62, 94, 95 and 139. -/
def Obligations.FaultCommandsRun : Prop := ∀ (src : Source) (ok : Bool),
  RowRuns fltReadSpec (dmaOf ok) src (.fltRead src ok) (fun c _ d =>
      let x := d.flt.rec?
      d.toHost c (c.p 0) d.fltBlock (.ok ((x.map (·.mergeCount)).getD 0) ((x.map (·.first.code)).getD 0))) ∧
  RowRuns fltAckSpec none src (.fltAck src) (fun _ _ d => (d.ackFault, .ok 0 0)) ∧
  RowRuns fltReactionSpec none src (.fltReaction src) (fun c _ d =>
      (d.set (if c.p 1 = 1 then F.FLT_REACT.REACT_C (c.p 0) else F.FLT_REACT.REACT_U (c.p 0)) (c.p 2), .ok 0 0)) ∧
  RowRuns fltInjectSpec none src (.fltInject src) (fun c _ d =>
      match kindClass (c.p 0) (c.p 1) with
      | some cls => (d.forceGo (c.p 0) (c.p 1) cls, .ok 0 0)
      | none => (d, .ok 0 0)) ∧
  RowRuns fltInjectClearSpec none src (.fltInjectClear src) (fun c _ d =>
      ({ d with flt := { d.flt with force := if c.p 0 = 0xFFFF then 0 else d.flt.force &&& ~~~sourceBit (c.p 0) } }, .ok 0 0)) ∧
  RowRuns pwrDomainSetSpec none src (.pwrDomainSet src) (fun c cid d =>
      let on := decide (c.p 1 = 1)
      if d.domainOn (c.p 0) = on then (d.switchShow (c.p 0) 1, .ok 0 0)
      else if 8 ≤ d.pwr.queue.length then (d.switchShow (c.p 0) 2, .done .state 0 0 false)
      else ({ d with pwr := { d.pwr with queue := d.pwr.queue ++ [⟨c.p 0, on, some cid⟩] } }, .wait (.domain (c.p 0) (c.p 1)) 0 0)) ∧
  RowRuns pwrStatusSpec none src (.pwrStatus src) (fun _ _ d =>
      let t := ((hottest d.validTemps).map fun x => wrapN 16 x.2).getD (d.freeVal 16)
      (d.fresh, .ok (d.get F.PWR_DOMAIN_STATUS.ON) (d.get F.PWR_TOTAL.POWER + 2 ^ 32 * t)))

/-- The rows of the rings: fetching an entry, a fetch error, a drained ring, the coalescing timer, one clause per row (R226, R229, R227): where the row's time or condition has come, it answers the next state with the effect its rule gives it.
It also rests on choices of the model: logs 7, 8 and 14. -/
def Obligations.RingRowsAct : Prop :=
  (∀ (r : Nat) (b : List Byte), r < 4 → RowGoes (.entryFetch r (.entry b)) (fun d => (d.fetches r))
    (fun d =>
      let x := d.ring r
      let e : Entry := ⟨slice b 0 64, x.seen.headD d.now, 0, 0, 0, 0, false⟩
      ((d.emit (.hostRead (d.entryAddr r) 64)).setRing r
        { x with sqHead := (x.sqHead + 1) % d.sqLen r, seen := x.seen.drop 1, fetched := x.fetched ++ [e] }).bufWrite 8)) ∧
  (∀ (r : Nat), r < 4 → RowGoes (.entryFetch r .fetchError) (fun d => (d.fetches r))
    (fun d => (d.emit (.hostRead (d.entryAddr r) 64)).ringError r 3)) ∧
  (∀ (r : Nat), r < 4 → RowGoes (.entryFetch r .completionError) (fun d =>
      let x := d.ring r
      (d.glb.mode.served ∧ (x.enabled ∨ x.draining ∨ x.fetched ≠ []) ∧ !x.cqBad))
    (fun d => d.ringError r 4)) ∧
  (∀ (r : Nat), r < 4 → RowGoes (.ringDrained r) (fun d =>
      let x := d.ring r
      (x.draining ∧ !x.enabled ∧ d.outstanding r = 0))
    (fun d =>
      let x := d.ring r
      d.setRing r { x with draining := false })) ∧
  (∀ (r : Nat) s, r < 4 → RowGoes (.interruptCoalescing r) (fun d =>
      let t := d.get (F.CMD_CQr_IRQ.TIME r)
      ((d.ring r).irqSince = some s) ∧
      (¬ (4 ≤ r ∨ t = 0 ∨ d.get (F.CMD_CQr_IRQ.COUNT r) = 0)))
    (fun d =>
      let t := d.get (F.CMD_CQr_IRQ.TIME r)
      let d1 := d.till (s + t * usec)
      d1.ringIrqDue r true))

/-- The steps of start-up and the short form of a warm reset, one clause per row (R344, R324, R343, R345, R346): where the row's time or condition has come, it answers the next state with the effect its rule gives it.
It also rests on choices of the model: logs 2, 7, 114, 118, 119, 121, 170, 179, 180, 182, 183 and 206. -/
def Obligations.StartUpRowsAct : Prop :=
  (RowGoes .resetRelease (fun d => (d.inStep 2))
    (fun d =>
      let d1 := d.till (d.boot.since + msec)
      { d1 with boot := { d1.boot with released := some d1.now } }.stepTo 3)) ∧
  (∀ (f : FlashInfo), RowGoes (.imageCopy (some f)) (fun d => (d.inStep 3))
    (fun d => { d.emit (.flash .sfdp) with boot := { d.boot with flash := some f } }.stepTo 4)) ∧
  (RowGoes (.imageCopy none) (fun d => (d.inStep 3)) (fun d => (d.emit (.flash .sfdp)).bootFail 0x02)) ∧
  (∀ (body : Option (List Byte)) (f : FlashInfo), RowGoes (.signatureCheck none body) (fun d => (d.inStep 4 ∧ d.boot.flash = some f))
    (fun d => (d.flashRead (flashImage f d.bootSlot) imageHeader).bootFail 0x02)) ∧
  (∀ (header : List Byte) (f : FlashInfo), RowGoes (.signatureCheck (some header) none) (fun d => (d.inStep 4 ∧ d.boot.flash = some f))
    (fun d => ((d.flashRead (flashImage f d.bootSlot) imageHeader).flashRead (flashImage f d.bootSlot + imageHeader) (imageLen header)).bootFail 0x02)) ∧
  (∀ (header body : List Byte) (f : FlashInfo), RowGoes (.signatureCheck (some header) (some body)) (fun d => (d.inStep 4 ∧ d.boot.flash = some f))
    (fun d =>
      let image := header ++ body
      let a := flashImage f d.bootSlot
      let d1 := (d.flashRead a imageHeader).flashRead (a + imageHeader) (imageLen header)
      let put (d : Dev) : Dev := { d with boot := { d.boot with image := image } }
      if imageForm image && keyMatches image && signatureMatches image then
        let d2 := (put d1).setWord R.GLB_FW_REV (BitVec.ofNat 32 (imageRev image))
        ((d2.set64 R.MGMT_FW_BUILD_LO (imageBuild image)).coresStart).stepTo 5
      else if d.boot.second then (put d1).bootFail 0x01
      else { d1 with boot := { d1.boot with image := image, second := true } }.stepTo 3)) ∧
  (∀ (cfgB : Option (List Byte)), RowGoes (.sramInitialisation none cfgB) (fun d => (d.inStep 5))
    (fun d => ((d.flashRead (flashConfig 0) 0x1000).flashRead (flashConfig 1) 0x1000).bootFail 0x02)) ∧
  (∀ (cfgA : List Byte), RowGoes (.sramInitialisation (some cfgA) none) (fun d => (d.inStep 5))
    (fun d => ((d.flashRead (flashConfig 0) 0x1000).flashRead (flashConfig 1) 0x1000).bootFail 0x02)) ∧
  (∀ (cfgA : List Byte) (cfgB : List Byte), RowGoes (.sramInitialisation (some cfgA) (some cfgB)) (fun d => (d.inStep 5))
    (fun d =>
      let d1 := ((((d.fresh.flashRead (flashConfig 0) 0x1000).flashRead (flashConfig 1) 0x1000).cfgLoad (bootCfg d.glb.bootSel cfgA cfgB (decide (d.freeVal 1 = 1)))).ckptBoot false).genBoot
      let d2 := [0, 1, 2, 3].foldl Dev.wordLoad d1.calLoad
      ({ d2 with glb := { d2.glb with regsReady := true } }).clayScan.bootRecord.stepTo 6)) ∧
  (RowGoes .corePllLock (fun d => (d.inStep 6 ∧ d.bit F.REF_OSC_STATUS.OSC_ACTIVE))
    (fun d =>
      let d1 := ((d.coreTo 0).set F.PWR_CLK_STATUS.PLL_LOCKED 1).set F.TIME_STATUS.BYPASS_CLK 0
      (({ d1 with clk := { d1.clk with pllSince := none } }).setLive srcClk false).stepTo 7)) ∧
  (RowGoes .startUpList (fun d => (d.inStep 7 ∧ d.boot.begun ∧ d.cmd.list = [] ∧ !(d.cmd.inProgress.any fun t => decide (t.src = .list)) ∧ !(d.ms.any fun p => p.2.surveyAt.isSome)))
    (fun d => d.stepTo 8)) ∧
  (RowGoes .referenceQualification (fun d => (d.inStep 8))
    (fun d => d.stepWait ((List.range 8).all fun r => !(d.refOf r).bound || d.refValid r) d.boot.refWait 9)) ∧
  (RowGoes .timeAcquisition (fun d => (d.inStep 9))
    (fun d => d.stepWait d.time.st.valid d.boot.timeWait 10)) ∧
  (RowGoes .initialCalibration (fun d => (d.inStep 10))
    (fun d => (d.stepWait ([0, 1, 2, 3].all d.startRunOver) d.boot.calWait 11).toConfigure)) ∧
  (RowGoes .warmResetDone (fun d => (d.glb.mode = .boot ∧ d.boot.warm))
    (fun d => (({ d with boot := { d.boot with warm := false }, glb := { d.glb with regsReady := true } }).bootRecord).toConfigure))

/-- PERST_N, the host link, and the SMBus rows, one clause per row (R346, R365, R362, R363): where the row's time or condition has come, it answers the next state with the effect its rule gives it.
It also rests on choices of the model: logs 116, 122 and 145. -/
def Obligations.HostLinkRowsAct : Prop :=
  (∀ (lowNs : Nat), RowGoes (.perstN lowNs) (fun d => (!d.boot.perst ∧ d.pulseTaken lowNs))
    (fun d =>
      ({ d.fresh with
        cmd := { d.cmd with rings := [], inProgress := d.cmd.inProgress.map Ticket.drop },
        glb := { d.glb with guards := Tbl.del d.glb.guards 0, stages := Tbl.del d.glb.stages 0 },
        boot := { d.boot with perst := true, hpeUp := false } }).resetWords 0x4000 0x5000)) ∧
  (RowGoes .perstNRelease (fun d => (d.boot.perst))
    (fun d => { d with boot := { d.boot with perst := false, perstUp := d.now } })) ∧
  (RowGoes .perstNRelease (fun d => (¬ d.boot.perst))
    (fun d => d)) ∧
  (RowGoes .hpeLinkDown (fun d => (d.boot.hpeUp ∧ !d.boot.perst))
    (fun d => (({ d with boot := { d.boot with hpeUp := false, hpeLost := true } }).sendFault 0x052 0x01 .u 0).setLive 0x052 true)) ∧
  (RowGoes .hpeLinkDown (fun d => (d.boot.hpeUp ∧ d.boot.perst))
    (fun d => { d with boot := { d.boot with hpeUp := false, hpeLost := false } })) ∧
  (RowGoes .hpeLinkUp (fun d => (¬ (d.boot.perst)))
    (fun d => ({ d with boot := { d.boot with hpeUp := true, hpeLost := false } }).setLive 0x052 false)) ∧
  (∀ (code : Nat) (bytes : List Byte) (readExtra : Bool), RowGoes (.smbusProcessCall code bytes readExtra) (fun _ => (code = 0x40 ∧ bytes.length = 3 ∧ (bytes.getD 2 0).toNat < 16))
    (fun d =>
      let answer := 4 :: leBytes 4 (d.smbusWord (leAt bytes 0 3)).toNat
      let all := [0xBC#8, 0x40#8, 3#8] ++ bytes ++ [0xBD#8] ++ answer
      d.emit (.smbus (if readExtra then answer ++ [pec all] else answer)))) ∧
  (∀ (code : Nat) (bytes : List Byte) (readExtra : Bool), RowGoes (.smbusProcessCall code bytes readExtra) (fun _ => (code ≠ 0x40 ∨ bytes.length ≠ 3 ∨ 16 ≤ (bytes.getD 2 0).toNat))
    (fun d => d.emit .smbusEnd)) ∧
  (RowGoes .smbusTimeout (fun _ => True)
    (fun d => d.emit .smbusEnd))

/-- Clocks, rails, temperatures and domains, one clause per row (R340, R339, R337, R335, R336, R332, R358): where the row's time or condition has come, it answers the next state with the effect its rule gives it.
It also rests on choices of the model: logs 2, 7, 63, 98, 103, 104, 105 and 206. -/
def Obligations.PowerRowsAct : Prop :=
  (RowGoes .oscinLost (fun d => (d.bit F.REF_OSC_STATUS.OSC_ACTIVE))
    (fun d =>
      let late := decide (d.get F.PWR_CLK_STATUS.CORE_SRC ≠ 2)
      let d1 := ((((d.oscShow 0).coreTo 2).set F.PWR_CLK_STATUS.AON_SRC 1).set F.PWR_CLK_STATUS.PLL_LOCKED 0).set F.TIME_STATUS.BYPASS_CLK 1
      let d2 := { d1 with clk := { d1.clk with oscSince := some d1.now, pllSince := none, oscLost := late } }.ringRate
      let d3 := (d2.sendFault srcClk 0x02 .u 0).setLive srcClk true
      let d4 := [0, 1, 2, 3].foldl (fun d n => if d.bit (F.MSn_STATUS.LOCKED n) then d.msLose n false else d) d3
      let d7 := (storeLinkDown (d4.outSources.timeAstray.linkFall false)).hpeFall
      { d7 with sh := { d7.sh with clkLoss := some true } })) ∧
  (RowGoes .oscinLost (fun d => (!d.bit F.REF_OSC_STATUS.OSC_ACTIVE))
    (fun d => { d with clk := { d.clk with oscSince := some d.now } })) ∧
  (RowGoes .oscinReturned (fun d => (¬ (d.bit F.REF_OSC_STATUS.OSC_ACTIVE)))
    (fun d =>
      let d0 := d.after d.clk.oscSince (10 * msec)
      let d1 := (d0.oscShow 1).set F.PWR_CLK_STATUS.AON_SRC 0
      let d2 := if d1.clk.oscLost then d1.coreTo 1 else d1
      let d3 := { d2 with clk := { d2.clk with oscLost := false, rateErr := 0, ringAt := some d2.now } }
      let d4 := [0, 1, 2, 3].foldl (fun d n =>
        if d.bit (F.MSn_STATUS.ACQUIRING n) then d.setMs n { d.msOf n with acqAt := some d.now } else d) d3
      d4.outSources)) ∧
  (RowGoes .corePllLost (fun d => (d.get F.PWR_CLK_STATUS.CORE_SRC = 0))
    (fun d =>
      let d1 := d.set F.PWR_CLK_STATUS.PLL_LOCKED 0
      let d3 := (({ d1 with clk := { d1.clk with pllSince := none } }).coreTo 1).set F.TIME_STATUS.BYPASS_CLK 1
      let d4 := (d3.sendFault srcClk 0x01 .u 0).setLive srcClk true
      { d4 with sh := { d4.sh with clkLoss := some (d4.sh.clkLoss.getD false) } })) ∧
  (RowGoes .corePllLost (fun d => (d.get F.PWR_CLK_STATUS.CORE_SRC ≠ 0))
    (fun d =>
      let d1 := d.set F.PWR_CLK_STATUS.PLL_LOCKED 0
      { d1 with clk := { d1.clk with pllSince := none } })) ∧
  (RowGoes .corePllRelocked (fun d => (d.get F.PWR_CLK_STATUS.CORE_SRC = 1 ∧ d.clk.pllSince.isNone ∧ d.bit F.REF_OSC_STATUS.OSC_ACTIVE))
    (fun d => { d with clk := { d.clk with pllSince := some d.now } }.set F.PWR_CLK_STATUS.PLL_LOCKED 1)) ∧
  (∀ (hz : Nat), RowGoes (.ringOscillatorMeasurement hz) (fun d => (d.bit F.REF_OSC_STATUS.OSC_ACTIVE))
    (fun d =>
      let d1 := d.after d.clk.ringAt msec
      { d1 with clk := { d1.clk with ringAt := some d1.now } }.set F.PWR_RING_FREQ.FREQ hz)) ∧
  (∀ (r : Nat) (mv : Nat) (mw : Nat), r < 17 → RowGoes (.railUv r mv mw) (fun d => (d.railWatched r ∧ !d.railHigh r mv))
    (fun d => (d.railRead r mv mw).railJudge r (d.railLow r mv) 0x01 .u)) ∧
  (∀ (r : Nat) (mv : Nat) (mw : Nat), r < 17 → RowGoes (.railOv r mv mw) (fun d => (d.railWatched r ∧ !d.railLow r mv))
    (fun d => (d.railRead r mv mw).railJudge r (d.railHigh r mv) 0x02 .f)) ∧
  (∀ (s : Nat) (reading : Int), s < 8 → RowGoes (.tempConversion s reading) (fun _ => (¬ (8 ≤ s)))
    (fun d =>
      let d0 := d.till (Tbl.getD d.pwr.convAt s 0 + 250 * usec)
      let ok := d0.tempOk s reading
      let one : BitVec 8 := 1#8 <<< s
      let failed := d0.pwr.tempFail.getLsbD s
      let d1 := d0.fresh.setWord (R.TEMPn s) (BitVec.ofNat 32 (wrapN 16 reading + 65536 * b2n ok))
      let p := { d1.pwr with
        convAt := Tbl.put d1.pwr.convAt s d1.now, tempRead := d1.pwr.tempRead ||| one,
        tempFail := (if ok then d1.pwr.tempFail &&& ~~~one else d1.pwr.tempFail ||| one),
        highAt := overSince d1.pwr.highAt s d1.now (ok && decide (d1.tempHigh < reading)),
        critAt := overSince d1.pwr.critAt s d1.now (ok && decide (2000 < reading)) }
      let d2 := { d1 with pwr := p }.tempMax
      let d3 := (if !ok ∧ !failed then d2.sendFault 0x006 0x01 .c s else d2).setLive 0x006 (decide (p.tempFail ≠ 0))
      let hot := d3.pwr.hot && !(d3.validTemps.all fun x => decide (x.2 ≤ d3.tempHigh - 32))
      ({ d3 with pwr := { d3.pwr with hot := hot, crit := d3.pwr.crit && !p.critAt.isEmpty } }).pwrLive)) ∧
  (∀ (s : Nat) t, s < 8 → RowGoes (.tjHigh s) (fun d =>
      (Tbl.get? d.pwr.highAt s = some t) ∧
      (¬ (d.pwr.hot)))
    (fun d =>
      let d1 := d.till (t + 10 * msec)
      ({ d1 with pwr := { d1.pwr with hot := true } }.sendFault srcPwr 0x04 .u s).pwrLive)) ∧
  (∀ (s : Nat) t, s < 8 → RowGoes (.tjCrit s) (fun d =>
      (Tbl.get? d.pwr.critAt s = some t) ∧
      (¬ (d.pwr.crit)))
    (fun d =>
      let d1 := d.till (t + msec)
      ({ d1 with pwr := { d1.pwr with crit := true } }.sendFault srcPwr 0x05 .f s).pwrLive)) ∧
  (RowGoes .domainSwitchStart (fun d => (d.pwr.cur.isNone ∧ d.ctrlAwait.pwr.queue ≠ []))
    (fun d =>
      let d1 := d.ctrlAwait.after d.ctrlAwait.pwr.lastAt (20 * usec)
      d1.serveDomains d1.pwr.queue)) ∧
  (∀ q, RowGoes .switchDone (fun d => (d.pwr.cur = some q))
    (fun d =>
      let d1 := ((d.switchEnd 1 q).domainPut q.dom q.on).raise F.PWR_EVENT.SWITCH_DONE
      (d1.eventLimited 0x0B0 [(1, q.dom), (1, b2n q.on)]).finishCid q.cid .ok 0 0)) ∧
  (∀ q, RowGoes .switchFail (fun d =>
      (d.pwr.cur = some q) ∧
      (q.on))
    (fun d =>
      let d1 := (((d.till (d.pwr.curAt + 50 * usec)).switchEnd 3 q).raise F.PWR_EVENT.SWITCH_FAIL).sendFault srcPwr 0x03 .u q.dom
      d1.finishCid q.cid .internal 0 0)) ∧
  (∀ (bank : Nat) (mv : Nat), bank < 4 → RowGoes (.vddoLevel bank mv) (fun _ => (bank < 4))
    (fun d =>
      let code := if 1620 ≤ mv ∧ mv ≤ 1980 then 1 else if 2250 ≤ mv ∧ mv ≤ 2750 then 2 else if 3000 ≤ mv ∧ mv ≤ 3600 then 3 else 0
      d.set (F.OUT_BANKb_STATUS.VDDO_LEVEL bank) code))

/-- Locks, surveys and ramps of the masters, one clause per row (R34, R35, R36, R38, R33, R52, R54): where the row's time or condition has come, it answers the next state with the effect its rule gives it.
It also rests on choices of the model: logs 2, 7, 20, 112, 139, 155, 166, 167, 186, 187 and 189. -/
def Obligations.MasterRowsAct : Prop :=
  (∀ (n : Nat) (phErr : Int), n < 4 → RowGoes (.lockGained n phErr) (fun d => (d.bit (F.MSn_STATUS.ACQUIRING n) ∧ d.domainOn (10 + n) ∧ d.bit F.REF_OSC_STATUS.OSC_ACTIVE ∧ d.lockWithin n phErr))
    (fun d =>
      let m := d.msOf n
      let d := d.after m.acqAt ((d.msWord n).pfdTime d.fOsc (d.lockCnt n))
      let d1 := ((d.set (F.MSn_PHERR.PHERR n) (wrapN 16 phErr)).set (F.MSn_STATUS.ACQUIRING n) 0).set (F.MSn_STATUS.LOCKED n) 1
      let d2 := d1.fresh.setMs n { m with acqAt := none, starting := false, second := false, lockAt := some d.now, lost := false, returned := false,
                                          phase := signedN 96 (d1.freeVal 96), phaseAt := d.now }
      let d3 := ((d2.raise (F.MSn_EVENT.LOCK_GAINED n)).lockEvent n 0).msLive n
      let d4 := (d3.dpllEval n).msEndStart n .ok (d.band n)
      if m.starting ∧ (d.get F.CAL_CTRL.AUTO_START_EN).testBit n then d4.calTrigger n 1 else d4)) ∧
  (∀ (n : Nat) (slip : Bool) (phErr : Int), n < 4 → RowGoes (.lockLost n slip phErr) (fun d =>
      let w := d.msWord n
      let cond :=
        if slip then decide (w.pfdTime d.fOsc 1 * 1000 < 2 * phErr.natAbs * perNs)
        else !d.lockWithin n phErr
      (d.bit (F.MSn_STATUS.LOCKED n) && cond))
    (fun d =>
      let m := d.msOf n
      let w := d.msWord n
      let t := if slip then d else d.after m.lockAt (w.pfdTime d.fOsc (d.lockCnt n))
      (t.set (F.MSn_PHERR.PHERR n) (wrapN 16 phErr)).msLose n slip)) ∧
  (∀ (n : Nat), n < 4 → RowGoes (.msStartTimeout n) (fun d =>
      let m := d.msOf n
      (m.starting ∧ m.acqAt.isSome))
    (fun d =>
      let m := d.msOf n
      (d.after m.acqAt (5 * msec)).msDisable n .timeout)) ∧
  (∀ (n : Nat) b, n < 4 → RowGoes (.reacqTimeout n) (fun d =>
      let m := d.msOf n
      let t := d.after m.acqAt (5 * msec)
      (d.bit (F.MSn_STATUS.ACQUIRING n) ∧ !m.starting ∧ d.bit F.REF_OSC_STATUS.OSC_ACTIVE ∧ !m.second ∧ t.selectBand n = some b))
    (fun d =>
      let m := d.msOf n
      let t := d.after m.acqAt (5 * msec)
      (t.set (F.MSn_STATUS.BAND n) b).setMs n { m with acqAt := some t.now, second := true })) ∧
  (∀ (n : Nat), n < 4 → RowGoes (.reacqTimeout n) (fun d =>
      let m := d.msOf n
      let t := d.after m.acqAt (5 * msec)
      (d.bit (F.MSn_STATUS.ACQUIRING n) ∧ !m.starting ∧ d.bit F.REF_OSC_STATUS.OSC_ACTIVE ∧ !m.second ∧ t.selectBand n = none))
    (fun d =>
      let m := d.msOf n
      let t := d.after m.acqAt (5 * msec)
      ((((t.set (F.MSn_STATUS.ACQUIRING n) 0).setMs n { m with acqAt := none }).set (F.MSn_STATUS.NO_BAND n) 1).raise (F.MSn_EVENT2.NO_BAND n)))) ∧
  (∀ (n : Nat), n < 4 → RowGoes (.reacqTimeout n) (fun d =>
      let m := d.msOf n
      (d.bit (F.MSn_STATUS.ACQUIRING n) ∧ !m.starting ∧ d.bit F.REF_OSC_STATUS.OSC_ACTIVE ∧ m.second))
    (fun d =>
      let m := d.msOf n
      let t := d.after m.acqAt (5 * msec)
      (t.set (F.MSn_STATUS.ACQUIRING n) 0).setMs n { m with acqAt := none })) ∧
  (∀ (n : Nat), n < 4 → RowGoes (.msSettle n) (fun d =>
      let m := d.msOf n
      (d.bit (F.MSn_STATUS.LOCKED n) ∧ !m.returned))
    (fun d =>
      let m := d.msOf n
      let d := d.after m.lockAt (max 1 (d.get (F.MSn_BAND_GUARD.MS_SETTLE n)) * usec)
      (d.fedBy n).foldl Dev.outReturn (d.setMs n { m with returned := true }))) ∧
  (∀ (n : Nat) (bands : List BandMeasure), n < 4 → RowGoes (.surveyDone n bands) (fun d => (d.bit (F.MSn_STATUS.SURVEYING n) ∧ d.domainOn (10 + n)))
    (fun d =>
      let m := d.msOf n
      let d := d.after m.surveyAt (64 * 28 * usec)
      let d1 := ((List.range 64).foldl (fun d i => d.bandWrite n i (bands.getD i ⟨false, 0, 0⟩)) d).fresh
      let dk := (List.range 64).foldl (fun d i => d.set (F.CALn_KDCO.VALID n i) 0) d1
      let d2 := (dk.set (F.MSn_STATUS.SURVEYING n) 0).setMs n { m with surveyAt := none }
      (d2.raise (F.MSn_EVENT2.SURVEY_DONE n)).finishWait (.survey n) .ok (d2.bandCount n) 0)) ∧
  (∀ (n : Nat) z i, n < 4 → RowGoes (.rampSegmentEnd n) (fun d =>
      let m := d.msOf n
      (m.ramp = some z ∧ d.segNext n z = some i))
    (fun d =>
      let e := d.segEnd n z
      let t := (d.till e.1).vcoMark n
      let d1 := t.setMs n { t.msOf n with ramp := some { z with seg := i, start := e.2, since := e.1 }, exc := t.excFold n z }
      if z.profile then d1 else d1.showWord n e.2 (d.msWord n).mod)) ∧
  (∀ (n : Nat) z, n < 4 → RowGoes (.rampDone n) (fun d =>
      let m := d.msOf n
      (m.ramp = some z ∧ d.segNext n z = none))
    (fun d =>
      let e := d.segEnd n z
      let t := (d.till e.1).vcoMark n
      (((t.showWord n e.2 (d.msWord n).mod).setMs n { t.msOf n with ramp := none, exc := t.excFold n z }).set (F.MSn_STATUS.RAMPING n) 0).raise
        (F.MSn_EVENT2.RAMP_DONE n)))

/-- The rows of the outputs, one clause per row (R72, R75, R67, R68, R63): where the row's time or condition has come, it answers the next state with the effect its rule gives it.
It also rests on choices of the model: logs 2, 7, 113, 159, 187, 188 and 190. -/
def Obligations.OutputRowsAct : Prop :=
  (∀ (o : Nat) g, o < 32 → RowGoes (.bypassSwitchDone o) (fun d =>
      let x := d.outOf o
      (x.goal = some g))
    (fun d =>
      let held := if (d.outOf o).held then d else (d.toWait o).hold o
      (held.toWait o).switchOver o)) ∧
  (∀ (o : Nat) g, o < 32 → RowGoes (.bypassSwitchDone o) (fun d =>
      let x := d.outOf o
      (x.goal = some g ∧ x.held = true ∧ d.toWait o = d ∧ x.st ≠ .stopping))
    (fun d =>
      let x := d.outOf o
      let d1 := ((d.unparkLive o).setOut o { x with sub := g, goal := none, held := false, waitH := none, waitAt := none }).bypassFlag (d.srcMs o)
      if g = .bypass ∧ x.sub ≠ .bypass then d1.raise (F.OUTn_EVENT2.BYPASS_ENTER o)
      else if g ≠ .bypass ∧ x.sub = .bypass then d1.raise (F.OUTn_EVENT2.BYPASS_EXIT o)
      else d1)) ∧
  (∀ (o : Nat), o < 32 → RowGoes (.highTimeLimit o) (fun d =>
      let x := d.outOf o
      (x.goal.isSome ∧ !x.held))
    (fun d => (d.till (d.highLimit o)).hold o)) ∧
  (∀ (o : Nat), o < 32 → RowGoes (.highTimeLimit o) (fun d =>
      let x := d.outOf o
      (x.st = .stopping ∧ (x.goal = none ∨ x.held)))
    (fun d => (d.till (d.highLimit o)).chStopped o)) ∧
  (∀ (o : Nat) (half : Nat), o < 32 → RowGoes (.outGuard ⟨o, half⟩) (fun d =>
      let x := d.outOf o
      let passing : Bool := decide (x.sub = .bypass) && d.bit (F.OUTn_BYPASS.BYP_TYPE o) && x.goal.isNone
      (x.st.moving ∧ (x.sub = .active ∨ x.sub = .bypass ∨ x.goal.isSome) ∧ !passing ∧ d.guardShort o half))
    (fun d =>
      let x := d.outOf o
      let level : Bool := match x.sub with
        | .active => d.clockHigh o
        | .bypass => decide (d.freeVal 1 = 1)
        | .highZ | .idle | .armed | .parked => false
      let d1 := d.fresh.setOut o { x with guard := some (level, d.now + (d.guardMin o - half) * perNs / 1000000) }
      ((d1.count (R.OUTn_GUARD_COUNT o) 1).raise (F.OUTn_EVENT.GUARD o)).sendFault (0x020 + o) 0x02 .c 0)) ∧
  (∀ (o : Nat), o < 32 → RowGoes (.channelStart o) (fun d =>
      let x := d.outOf o
      let t := d.afterSettle o
      (x.st = .running ∧ x.sub = .armed ∧ x.first = none ∧ x.armK = none ∧ t.msReady o))
    (fun d =>
      let t := d.afterSettle o
      (t.chFirstEdge o false 0).toFirst o)) ∧
  (∀ (o : Nat) z, o < 32 → RowGoes (.channelStart o) (fun d =>
      let x := d.outOf o
      (x.st = .running ∧ x.sub = .armed ∧ x.first = some z))
    (fun d => (d.till z.at').chEmit o)) ∧
  (∀ (o : Nat), o < 32 → RowGoes (.chStartTimeout o) (fun d =>
      let x := d.outOf o
      let t := d.till (x.armAt + 10 * msec)
      (x.st = .running ∧ x.sub = .armed ∧ x.due ∧ !t.msReady o))
    (fun d =>
      let x := d.outOf o
      let t := d.till (x.armAt + 10 * msec)
      (t.setCh o { x with st := .configured, sub := .idle, armK := none, due := false }).finishWait (.chStart o) .timeout 0 0)) ∧
  (∀ (o : Nat), o < 32 → RowGoes (.channelStopped o) (fun d =>
      let x := d.outOf o
      (x.st = .stopping ∧ x.goal = none))
    (fun d => (d.toWait o).chStopped o)) ∧
  (∀ (o : Nat), o < 32 → RowGoes (.phaseSlewDone o) (fun d =>
      let x := d.outOf o
      (x.st.moving ∧ x.sub ≠ .armed))
    (fun d =>
      let x := d.outOf o
      let left := (d.phTarget o - x.applied).natAbs
      (d.till (x.slewAt + (left * usec + d.phSlew o - 1) / d.phSlew o)).phaseRebase o))

/-- Reference monitors and DPLLs, one clause per row (R42, R43, R47, R48, R49): where the row's time or condition has come, it answers the next state with the effect its rule gives it.
It also rests on choices of the model: logs 7, 20, 81, 89, 139, 162, 163 and 192. -/
def Obligations.ReferenceRowsAct : Prop :=
  (∀ (r : Nat), r < 8 → RowGoes (.activityFail r) (fun d => (¬ (d.get (F.REFn_STATUS.STATE r) = 0)))
    (fun d =>
      let d := d.till ((d.refOf r).seenAt + d.actTimeout r * halfTime (d.refNom r))
      let d1 := d.set (F.REFn_STATUS.ACTIVE r) 0
      if d.get (F.REFn_STATUS.STATE r) = 1 then d1 else d1.refInvalid r)) ∧
  (∀ (r : Nat), r < 8 → RowGoes (.activityPresent r) (fun d => (d.domainOn 9 ∧ d.get (F.REFn_STATUS.STATE r) = 1))
    (fun d => ((d.set (F.REFn_STATUS.ACTIVE r) 1).set (F.REFn_STATUS.STATE r) 2).setRef r { d.refOf r with good := 0, gateAt := d.now, seenAt := d.now })) ∧
  (∀ (r : Nat) (ppb : Int), r < 8 → RowGoes (.frequencyGate r ppb) (fun d =>
      let st := d.get (F.REFn_STATUS.STATE r)
      (¬ (st = 0 ∨ !d.domainOn 9 ∨ !d.bit F.REF_OSC_STATUS.OSC_ACTIVE)))
    (fun d =>
      let st := d.get (F.REFn_STATUS.STATE r)
      let m := d.refOf r
      let d := d.till (m.gateAt + d.gateTime r)
      let tol := 10 * d.get (F.REFn_FREQ_TOL.FREQ_TOL r)
      let d1 := (d.setWord (R.REFn_FOFF r) (BitVec.ofInt 32 ppb)).setRef r { m with gateAt := d.now, seenAt := d.now }
      if tol < ppb.natAbs then
        let d2 := (d1.set (F.REFn_STATUS.FREQ_OK r) 0).raise (F.REFn_EVENT.FREQ_FAIL r)
        if st = 1 then d2 else d2.refInvalid r
      else
        let d2 := d1.set (F.REFn_STATUS.FREQ_OK r) 1
        if st = 2 ∨ (st = 1 ∧ d.bit (F.REFn_STATUS.ACTIVE r)) then
          let good := if 10 * ppb.natAbs ≤ 8 * tol then m.good + 1 else 0
          if max 1 (d.get (F.REFn_MON_CFG.QUAL_GATES r)) ≤ good then
            let d3 := (d2.selWatch.set (F.REFn_STATUS.STATE r) 3).setRef r { d2.refOf r with good := 0, lost := false, validAt := d.now }
            (((d3.raise (F.REFn_EVENT.VALID r)).refLive).selMark).outSources
          else (d2.set (F.REFn_STATUS.STATE r) 2).setRef r { d2.refOf r with good := good }
        else d2)) ∧
  (∀ (n : Nat), n < 4 → RowGoes (.referenceSelection n) (fun _ => True)
    (fun d =>
      let d := if d.selAt.isSome then d.dpllEvalAll else d
      ((d.dpllEval n).dpllSteer n).dpllLearn n)) ∧
  (∀ (n : Nat) (measured : Int), n < 4 → RowGoes (.dpllNarrow n measured) (fun d =>
      let e := d.dpllCompare n 16 measured
      (d.dpllState n = 1 ∧ d.bit (F.MSn_STATUS.LOCKED n) ∧ !(d.msOf n).narrowed ∧ d.dpllWithin n e.2))
    (fun d =>
      let e := d.dpllCompare n 16 measured
      (e.1.setWord (R.MSn_DPLL_PHERR n) (BitVec.ofInt 32 e.2)).setMs n { e.1.msOf n with narrowed := true, dpllAt := e.1.now })) ∧
  (∀ (n : Nat) (measured : Int), n < 4 → RowGoes (.dpllLocked n measured) (fun d =>
      let e := d.dpllCompare n (d.get (F.MSn_DPLL_LOCK.DPLL_LOCK_CNT n)) measured
      (d.dpllState n = 1 ∧ d.bit (F.MSn_STATUS.LOCKED n) ∧ (d.msOf n).narrowed ∧ d.dpllWithin n e.2))
    (fun d =>
      let e := d.dpllCompare n (d.get (F.MSn_DPLL_LOCK.DPLL_LOCK_CNT n)) measured
      let t := e.1.holdTemp n
      let m := e.1.msOf n
      let first := decide (m.lockedMs = 0)
      let d1 := (e.1.setWord (R.MSn_DPLL_PHERR n) (BitVec.ofInt 32 e.2)).setMs n
        { m with lockedAt := some e.1.now, learnAt := e.1.now, tempLo := if first then t else m.tempLo, tempHi := if first then t else m.tempHi }
      (((d1.set (F.MSn_DPLL_STATUS.STATE n) 2).set (F.MSn_DPLL_STATUS.STEER_LIMITED n) 0).raise (F.MSn_DPLL_EVENT.DPLL_LOCKED n)).msLive n)) ∧
  (∀ (n : Nat) (correction : Int), n < 4 → RowGoes (.steerLimit n correction) (fun d => ((d.dpllState n ≠ 0 ∧ d.steerMax n < correction.natAbs) ∨ d.bit (F.MSn_DPLL_STATUS.STEER_LIMITED n)))
    (fun d => d.steerTo n correction true)) ∧
  (∀ (n : Nat), n < 4 → RowGoes (.modelValid n) (fun d => (d.dpllState n = 2))
    (fun d =>
      let left := d.get (F.MSn_HOLD_CFG.LEARN_MIN n) * 60000 - d.learnedMs n
      (d.till (d.now + left * msec)).set (F.MSn_DPLL_STATUS.MODEL_VALID n) 1)) ∧
  (∀ (n : Nat), n < 4 → RowGoes (.extTempTimeout n) (fun d => (d.bit (F.MSn_HOLD_TEMP.EXT_EN n)))
    (fun d =>
      let d := d.till ((d.msOf n).extAt + 5000 * msec)
      (d.setMs n { d.msOf n with extOld := true }).set (F.MSn_DPLL_STATUS.EXTRAP n) 1))

/-- Calibration runs and saves, one clause per row (R79, R84, R87, R90, R94): where the row's time or condition has come, it answers the next state with the effect its rule gives it.
It also rests on choices of the model: logs 7, 169, 180, 185 and 196. -/
def Obligations.CalibrationRowsAct : Prop :=
  (∀ (n : Nat) (sums : List (Nat × Int)), n < 4 → RowGoes (.calUpdate n sums) (fun d =>
      let c := d.calOf n
      (d.firmwareRuns ∧ d.calRunning n ∧ d.tickLive ∧ d.tick.phase < 3 ∧ 1024 ≤ c.samples ∧ c.staged = none))
    (fun d =>
      let c := d.calOf n
      d.setCal n { c with staged := some (lmsSteps (addSums c.sums sums) c.samples), samples := 0, sums := [], skip := true })) ∧
  (∀ (n : Nat) (sums : List (Nat × Int)), n < 4 → RowGoes (.calUpdate n sums) (fun d =>
      let c := d.calOf n
      (d.firmwareRuns ∧ d.calRunning n ∧ d.tickLive ∧ d.tick.phase = 4 ∧ 1024 ≤ c.samples ∧ c.late = none))
    (fun d =>
      let c := d.calOf n
      (d.setCal n { c with late := some (lmsSteps (addSums c.sums sums) c.samples), samples := 0, sums := [] }).count R.TICK_APPLY_DEFER_COUNT 1)) ∧
  (∀ (n : Nat) (sums : List (Nat × Int)), n < 4 → RowGoes (.calUpdate n sums) (fun d =>
      (d.firmwareRuns ∧ d.calRunning n ∧ d.tickLive ∧ d.tick.phase ≠ 3 ∧ (d.calOf n).samples < 1024))
    (fun d => d.setCal n { d.calOf n with sums := addSums (d.calOf n).sums sums })) ∧
  (∀ (n : Nat), n < 4 → RowGoes (.tempTrigger n) (fun d =>
      let t := signedN 16 (d.get (F.TEMPn.TEMP n))
      let l := signedN 16 (d.get (F.CALn_LAST_TEMP.LAST_TEMP n))
      let dl := min 320 (max 8 (d.get F.CAL_TEMP_DELTA.TEMP_DELTA))
      (d.firmwareRuns ∧ (d.get F.CAL_CTRL.AUTO_TEMP_EN).testBit n ∧ d.bit (F.TEMPn.VALID n) ∧ (d.calOf n).ranOnce ∧ dl < (t - l).natAbs))
    (fun d => d.calTrigger n 2)) ∧
  (∀ (n : Nat) p, n < 4 → RowGoes (.precondCheck n) (fun d =>
      ((d.calOf n).pending = some p) ∧
      (d.firmwareRuns ∧ p.ready.isNone ∧ d.calPre n))
    (fun d => (d.setCal n { d.calOf n with pending := some { p with ready := some d.calFrom } }))) ∧
  (∀ (n : Nat), n < 4 → RowGoes (.calRunTimeout n) (fun d => (d.calRunning n))
    (fun d => (d.till ((d.calOf n).since + 4000 * msec)).calEnd n true)) ∧
  (∀ (readBackOk : Bool) s x, RowGoes (.calSaveComplete readBackOk) (fun d => (d.cal.save = some s ∧ s.snap = some x ∧ readBackOk))
    (fun d =>
      let d0 := (d.flashRead (flashSave s.slot) 0x1564).flashProgram (flashSave s.slot + 0x1564) [0x5A]
      let d1 := { d0 with cal := { d.cal with save := none, slots := Tbl.put d.cal.slots s.slot { x with mark := 0x5A } } }.slotShow
      (d1.set F.CAL_SAVE_STATUS.SAVE_BUSY 0).finishWait .save .ok s.gen 0)) ∧
  (∀ (readBackOk : Bool) s, RowGoes (.calSaveComplete readBackOk) (fun d => (d.cal.save = some s ∧ s.snap.isSome ∧ !readBackOk))
    (fun d => d.saveFail)) ∧
  (∀ s, RowGoes .flashTimeout (fun d =>
      (d.cal.save = some s) ∧
      (s.snap.isSome))
    (fun d => d.saveFail))

/-- The points of a tick after its boundary, and the field outputs, one clause per row (R131, R144, R348, R349): where the row's time or condition has come, it answers the next state with the effect its rule gives it.
It also rests on choices of the model: logs 7, 14, 99, 108, 139, 198 and 206. -/
def Obligations.TickRowsAct : Prop :=
  (∀ (left : List Nat), RowGoes (.feedbackCutoff left) (fun d => (d.tickLive ∧ !d.tick.cutDone))
    (fun d => (d.toPoint d.fbCutOff).doCutoff left)) ∧
  (RowGoes .computeStart (fun d => (d.tickLive ∧ d.tick.phase = 1))
    (fun d => (d.toPoint d.csOff).doCompute)) ∧
  (∀ (w : ComputeWork), RowGoes (.computeComplete w) (fun d => (d.tickLive ∧ d.tick.compEnd.isNone ∧ d.tick.phase ≤ 2))
    (fun d => (d.doCompute.toPoint d.compOff).doComplete (some w))) ∧
  (∀ (endNs : Nat), RowGoes (.publishDeadline endNs) (fun d => (d.tickLive ∧ d.tick.phase ≤ 2))
    (fun d => ((d.doComplete none).toPoint d.pubOff).doPublish (some endNs))) ∧
  (∀ (staged : Bool), RowGoes (.gapWorkComplete staged) (fun d => (d.tick.running ∧ d.tick.phase ≠ 4))
    (fun d => ((d.doPublish none).tillTod ((d.nextTime - 250 * 65536) * 2 ^ 32)).doGap staged)) ∧
  (∀ (n : Nat), n < 8 → RowGoes (.ftickPulse n) (fun d =>
      let div := max 1 (d.get (F.FIELDn_DIV.DIV n))
      (n < 8 ∧ d.bit (F.FIELDn_CTRL.EN n) ∧ d.domainOn 21 ∧ d.tick.running ∧ !d.offsetLate n ∧ !d.startLate n ∧
          d.tick.index % div = d.get (F.FIELDn_DIV.PHASE n) % div ∧ Tbl.get? d.field.last n ≠ some d.tick.index))
    (fun d =>
      let d1 := d.toPoint (min 7999900 (d.get (F.FIELDn_OFFSET.OFFSET n)) * 65536)
      { d1 with field := ⟨Tbl.put d1.field.pulses n d1.now, Tbl.put d1.field.last n d1.tick.index⟩ }.fieldLevel n true)) ∧
  (∀ (n : Nat), n < 8 → RowGoes (.ftickPulseEnd n) (fun d => ((Tbl.get? d.field.pulses n).isSome))
    (fun d =>
      let width := min 1000000 (max 100 (d.get (F.FIELDn_WIDTH.WIDTH n)))
      let t := min (d.tick.bound + (min 7999900 (d.get (F.FIELDn_OFFSET.OFFSET n)) + width) * 65536) (d.nextTime - 50 * 65536)
      let d1 := d.tillTod (t * 2 ^ 32)
      { d1 with field := { d1.field with pulses := Tbl.del d1.field.pulses n } }.fieldLevel n false)) ∧
  (∀ (n : Nat), n < 8 → RowGoes (.overcurrent n) (fun d => (n < 8 ∧ d.bit (F.FIELDn_CTRL.EN n) ∧ d.glb.mode ≠ .halt))
    (fun d =>
      let d1 := (d.set (F.FIELDn_CTRL.EN n) 0).fieldLevel n false
      let d2 := { d1 with field := { d1.field with pulses := Tbl.del d1.field.pulses n } }
      (d2.raise ⟨R.FIELD_EVENT0 + 4 * (n / 4), 8 * (n % 4), 1⟩).sendFault 0x067 0x01 .u n))

/-- Mirrors, followers and groups, one clause per row (R164, R183, R188, R176): where the row's time or condition has come, it answers the next state with the effect its rule gives it.
It also rests on choices of the model: logs 23, 40, 80 and 83. -/
def Obligations.FollowerRowsAct : Prop :=
  (∀ (s : Nat), s < 64 → RowGoes (.mirrorLost s) (fun d =>
      let x := d.shaftOf s
      (x.following ∧ x.advancing ∧ x.cfg.missLimit ≤ x.missRun))
    (fun d =>
      let d1 := (d.cancelStart s 0).cancelStop s
      ((d1.setShaft s { d1.shaftOf s with lost := true }).stopBegin s true 4).shaftLive.sendFault 0x042 0x01 .u s)) ∧
  (∀ (f : Nat), f < 4096 → RowGoes (.missRun f) (fun d =>
      let x := d.folOf f
      (d.glb.mode.publishes ∧ (x.lock = 2 ∨ x.lock = 3 ∨ x.lock = 4) ∧ x.missLimit < x.missRun))
    (fun d => d.folTrip f 2)) ∧
  (∀ (f : Nat), f < 4096 → RowGoes (.goodRun f) (fun d =>
      let x := d.folOf f
      (d.glb.mode.publishes ∧ (x.lock = 2 ∨ x.lock = 4) ∧ 8 ≤ x.goodRun))
    (fun d =>
      let x := d.folOf f
      d.setFol f { x with lock := 3 })) ∧
  (∀ (f : Nat) b, f < 4096 → RowGoes (.resyncCompare f) (fun d =>
      let x := d.folOf f
      (x.bind = some b) ∧
      (d.glb.mode.publishes ∧ x.lock = 7 ∧ 16 ≤ x.resync ∧ d.portSampled b))
    (fun d =>
      let x := d.folOf f
      if 2 ≤ d.tick.phase then (d.folCompare f).reframe b.group [] else d.setFol f { x with compare := true })) ∧
  (∀ (g : Nat) x, g < 1024 → RowGoes (.latencyUpdate g) (fun d =>
      (Tbl.get? d.fo.grps g = some x) ∧
      let need := (x.pathDelay + x.margin + 9) / 10 * 10
      (x.latMode = 1 ∧ x.samples ≠ [] ∧ ((x.lat : Int) < need ∨ 4096 ≤ x.ticks)))
    (fun d =>
      let need := (x.pathDelay + x.margin + 9) / 10 * 10
      let d1 := if 4096 ≤ x.ticks then d.setGrp g { x with ticks := 0 } else d
      { d1.fresh with pendNow := d1.pendNow ++ [⟨.grpWant g (d.fitU 32 need), none⟩] }))

/-- Frames, reports and ports of the switch link, one clause per row (R200, R202, R209, R215, R203, R210, R211, R218, R217, R213, R221): where the row's time or condition has come, it answers the next state with the effect its rule gives it.
It also rests on choices of the model: logs 7, 14, 23, 44, 45, 139, 153, 173 and 182. -/
def Obligations.LinkRowsAct : Prop :=
  (RowGoes .linkUp (fun d => (d.bit F.LINK_CTRL.EN && !d.linkUp && d.domainOn 18))
    (fun d =>
      let d1 := (d.set F.LINK_STATUS.LINK_UP 1).set F.LINK_STATUS.AN_DONE (d.get F.LINK_CTRL.AN_EN)
      let d2 := ((d1.raise F.LINK_EVENT.LINK_UP).linkEvent 1).reportsLost d1.link.sent
      ({ d2 with link := { d2.link with down := false, syncAt := d2.now } }).linkLive)) ∧
  (RowGoes .linkDown (fun _ => True)
    (fun d => d.linkFall false)) ∧
  (∀ (classes : BitVec 8) (quanta : List Nat), RowGoes (.pfcFrame classes quanta) (fun d => (d.receives))
    (fun d =>
      let d1 := d.relayed (.pfc classes quanta)
      let on := (List.range 8).filter fun c => classes.getLsbD c && (d1.get F.LINK_PFC.RX_EN).testBit c
      let q (c : Nat) : Nat := quanta.getD c 0 % 65536
      let paused := on.foldl (fun t c => if q c = 0 then Tbl.del t c else Tbl.put t c (d1.now + q c * 256 * perNs / 100)) d1.link.paused
      let d2 := { d1 with link := { d1.link with paused := paused } }
      if on.any fun c => decide (q c ≠ 0) then d2.count R.LINK_PFC_RX 1 else d2)) ∧
  (∀ (cls : Nat) t, cls < 8 → RowGoes (.pauseExpiry cls) (fun d => (Tbl.get? d.link.paused cls = some t))
    (fun d =>
      let d1 := d.till t
      { d1 with link := { d1.link with paused := Tbl.del d1.link.paused cls } })) ∧
  (∀ (cls : Nat), cls < 8 → RowGoes (.xon cls) (fun d => (d.link.xoff.getLsbD cls))
    (fun d => { d with link := { d.link with xoff := d.link.xoff &&& ~~~(1#8 <<< cls), fill := Tbl.del d.link.fill cls } }.sendXon cls)) ∧
  (∀ i f, RowGoes .carriageFrameTransmit (fun d => (d.nextFrame = some i ∧ d.link.queue[i]? = some f))
    (fun d => ({ d with link := { d.link with queue := d.link.queue.eraseIdx i } }).transmit f)) ∧
  (∀ f, RowGoes .backpressureTimeout (fun d =>
      let held (f : LinkFrame) : Bool := f.kind.timed && (d.classPaused f.cls || !d.linkUp)
      (d.link.queue.find? held = some f))
    (fun d =>
      let held (f : LinkFrame) : Bool := f.kind.timed && (d.classPaused f.cls || !d.linkUp)
      let d1 := d.till (f.since + 10 * msec)
      let old (g : LinkFrame) : Bool := held g && d1.passed g.since (10 * msec)
      let n := (d1.link.queue.filter old).length
      ({ d1 with link := { d1.link with queue := d1.link.queue.filter fun g => !old g } }).count R.LINK_TX_DISCARD n)) ∧
  (∀ (cause : DiscardCause), RowGoes (.discardedFrame cause) (fun d => (d.receives))
    (fun d => (d.relayed (.other cause)).count R.LINK_RX_DISCARD 1)) ∧
  (∀ (f : FeedbackFrame), RowGoes (.feedbackFrame f) (fun d =>
      let n := f.recs.length
      let d1 := d.relayed (.feedback f)
      (d.receives ∧ d1.headerOk f.header 2 n ∧ d1.glb.mode.publishes ∧ d1.ingests ∧ !d1.tick.cutDone) ∧
      (!d1.grpFree f.header.group ∧ f.header.firstSlot + n ≤ 32))
    (fun d =>
      let n := f.recs.length
      ((List.range n).foldl (fun d i =>
        match f.recs[i]? with
        | some r => d.fbRecord f (f.header.firstSlot + i) r
        | none => d) (d.relayed (.feedback f))).sramSome 0)) ∧
  (∀ (f : ShaftFrame), RowGoes (.shaftStateFrame f) (fun d => (d.receives ∧ (d.relayed (.shafts f)).headerOk f.header 3 f.recs.length))
    (fun d => f.recs.foldl Dev.receiveRecord (d.relayed (.shafts f)))) ∧
  (∀ (rs : List EgressReport), RowGoes (.egressReports rs) (fun d => (d.receives))
    (fun d => rs.foldl Dev.egressReport (d.relayed (.reports rs)))) ∧
  (RowGoes .reportMissing (fun d =>
      let line := d.link.sent.filter fun s => s.kind.line && decide (s.k + 2 ≤ d.tick.index)
      (d.linkUp ∧ line ≠ []))
    (fun d =>
      let line := d.link.sent.filter fun s => s.kind.line && decide (s.k + 2 ≤ d.tick.index)
      d.reportsLost line)) ∧
  (∀ f, RowGoes .reportMissing (fun d => (d.linkUp ∧ (d.link.sent.filter fun s => s.kind.line && decide (s.k + 2 ≤ d.tick.index)) = [] ∧ (d.link.sent.find? fun s => s.kind.timed) = some f))
    (fun d =>
      let d1 := d.till (f.sentAt + 10 * msec)
      d1.reportsLost (d1.link.sent.filter fun s => s.kind.timed && d1.passed s.sentAt (10 * msec)))) ∧
  (∀ (mask : Nat), RowGoes (.portStatus mask) (fun d => (d.receives))
    (fun d =>
      let d0 := d.relayed (.ports mask)
      let up := (List.range 256).filter fun p => mask.testBit p && !(d0.word (R.LINK_PORT_UP (p / 32))).getLsbD (p % 32)
      let down := (List.range 256).filter fun p => !mask.testBit p && (d0.word (R.LINK_PORT_UP (p / 32))).getLsbD (p % 32)
      let d1 := (List.range 8).foldl (fun d i => d.setWord (R.LINK_PORT_UP i) (BitVec.ofNat 32 (mask / 2 ^ (32 * i)))) d0
      let last := (d0.link.seq + 2 ^ 32 - 1) % 2 ^ 32
      let d2 := { d1 with link := { d1.link with portSeq := up.foldl (fun t p => Tbl.put t p last) d1.link.portSeq } }
      let d3 := up.foldl Dev.folPortUp d2
      if up = [] ∧ down = [] then d3 else d3.raise F.LINK_EVENT.PORT_CHANGE)) ∧
  (RowGoes .timeSyncUnit (fun d => (¬ (!d.linkUp)))
    (fun d =>
      let d1 := d.till (d.link.syncAt + d.tsyncPeriod * usec)
      let d2 := { d1 with link := { d1.link with syncAt := d1.now, noEcho := d1.link.noEcho + 1, syncs := d1.link.syncs.drop (d1.link.syncs.length - 31) } }
      let d3 := d2.enqueue ⟨.tsync, 0, d.get F.LINK_CLASS.PTP_TC, 0, .tsync [], d.tick.index, d1.now⟩
      if d1.link.noEcho = 16 then
        (((((d3.set F.LINK_STATUS.TSYNC_OK 0).raise F.LINK_EVENT2.TSYNC_LOST).linkEvent 4).sendFault srcLink 0x03 .u 0)).linkLive
      else d3)) ∧
  (∀ (e : TimeEcho) s, RowGoes (.timeEcho e) (fun d =>
      (d.receives) ∧
      (((d.relayed (.echo e)).link.syncs.find? fun s => decide (s.1 = e.syncSeq)) = some s))
    (fun d =>
      let d1 := d.relayed (.echo e)
      let turn : Int := (d1.expand48 e.t3 e.t3Frac : Nat) - (d1.expand48 e.t2 e.t2Frac : Nat)
      let samples := (((d1.tod16 : Int) - s.2 - turn) :: d1.link.delays).take 8
      let mean := (samples.foldl (· + ·) 0).fdiv (2 * samples.length)
      let shown := d1.fitU 32 (mean + signedN 32 (d1.word R.LINK_ASYM).toNat)
      let l := { d1.link with delays := samples, noEcho := 0, syncs := d1.link.syncs.filter fun x => decide (x.1 ≠ e.syncSeq) }
      ((({ d1.fresh with link := l }).setWord R.LINK_DELAY (BitVec.ofNat 32 shown)).set F.LINK_STATUS.TSYNC_OK 1).linkLive)) ∧
  (∀ (f : InBandFrame) t, RowGoes (.inBandCommandFrame f) (fun d =>
      let b := f.body
      let key := beAt b 16 1
      let counter := beAt b 24 8
      let d1 := d.relayed (.command f)
      (d.receives ∧ d1.rxFits f.cls (14 + b.length)) ∧
      (beAt b 0 1 = 1 ∧ beAt b 1 1 = 4 ∧ d1.lineId ≠ 0 ∧ beAt b 2 2 = d1.lineId ∧ beAt b 9 1 = 1 ∧ b.length = 112) ∧
      (d1.bit F.LINK_CTRL.CMD_EN ∧ d1.keyValid key ∧ d1.lineMac key f.sa (b.take 96) = b.drop 96) ∧
      ((d1.rxFill f.cls (14 + b.length)).replayCheck f.sa counter = some t) ∧
      ((d1.rxFill f.cls (14 + b.length)).cmd.inband.length < 32))
    (fun d =>
      let b := f.body
      let key := beAt b 16 1
      let counter := beAt b 24 8
      let d1 := d.relayed (.command f)
      let e : Entry := ⟨slice b 32 64, d1.now, f.sa, f.port, key, counter, true⟩
      let d2 := d1.rxFill f.cls (14 + b.length)
      { d2.fresh with link := { d2.link with saCounters := t }, cmd := { d2.cmd with inband := d2.cmd.inband ++ [e] } }.bufWrite 8))

/-- PTP, PPS and ToD slews, one clause per row (R212, R117, R121, R112, R113, R106): where the row's time or condition has come, it answers the next state with the effect its rule gives it.
It also rests on choices of the model: logs 5, 7, 23, 31, 44, 90, 92, 151, 173, 199, 205 and 206. -/
def Obligations.TimeRowsAct : Prop :=
  (∀ (m : PtpMessage), RowGoes (.ptpMessage m) (fun d =>
      let d1 := (d.relayed (.ptp m)).rxFill m.cls m.bytes
      (d.receives ∧ (d.relayed (.ptp m)).rxFits m.cls m.bytes ∧ d1.ptpEnabled m.port ∧ m.domain = d1.get F.PTP_CFG.DOMAIN ∧
        m.sender / 65536 ≠ Config.ptpIdentity.toNat))
    (fun d =>
      let d1 := (d.relayed (.ptp m)).rxFill m.cls m.bytes
      (d1.fresh.portWake m.port).ptpTake m (d1.expand48 m.ts m.tsFrac))) ∧
  (∀ (p : Nat) (kind : PtpKind), p < 256 → RowGoes (.ptpMessageInterval p kind) (fun d =>
      let d1 := d.portWake p
      (d.linkUp ∧ d.ptpEnabled p ∧ d1.ptpSends p kind))
    (fun d =>
      let d1 := d.portWake p
      let d2 := d1.after (Tbl.get? (d1.portOf p).lastTx (ptpCode kind)) (d1.ptpInterval p kind)
      let x := d2.portOf p
      let y := { x with txSeq := (x.txSeq + 1) % 65536, lastTx := Tbl.put x.lastTx (ptpCode kind) d2.now }
      let m := d2.ptpOut p kind x.txSeq 0 0
      match kind with
      | .announce => (d2.setPort p y).ptpSend { m with dataset := some d2.announced, utc := some d2.utcOffset } false
      | .sync => (d2.setPort p y).ptpSend m true
      | _ => (d2.setPort p (y.askDelay (decide (kind = .pdelayReq)) x.txSeq d2.now)).ptpSend m true)) ∧
  (∀ (p : Nat) t, p < 256 → RowGoes (.announceTimeout p) (fun d =>
      (d.timeSrc = 2 ∧ d.time.st = .locked ∧ d.slavePort = none ∧ d.time.lostBy = some t ∧
        (!d.ptpEnabled p ∨ t ≤ d.annDue p)))
    (fun d => (d.till t).ptpHoldover)) ∧
  (∀ (p : Nat), p < 256 → RowGoes (.announceTimeout p) (fun d =>
      let x := d.portOf p
      (d.ptpEnabled p ∧ x.state = 9 ∧ d.slavePort ≠ none ∧ d.timeSrc = 2 ∧ d.time.st = .locked ∧ (d.syncDue p < d.annDue p ∨ d.bit F.PTP_CLASS.EXT_PORT_CFG)))
    (fun d => (d.till ((d.portOf p).lastSync + 3 * logTime d.logSync + 1)).ptpHoldover)) ∧
  (∀ (p : Nat), p < 256 → RowGoes (.announceTimeout p) (fun d =>
      let x := d.portOf p
      (d.ptpEnabled p ∧ d.ptpOrphan = false ∧ ¬ (x.state = 9 ∧ d.timeSrc = 2 ∧ d.time.st = .locked ∧ (d.syncDue p < d.annDue p ∨ d.bit F.PTP_CLASS.EXT_PORT_CFG)) ∧
        (x.state = 4 ∨ x.state = 7 ∨ x.state = 9)))
    (fun d =>
      let d0 := d.till ((d.portOf p).heardAt + d.get F.PTP_INTERVALS.ANNOUNCE_TIMEOUT * logTime d.logAnnounce)
      let x := d0.portOf p
      let d1 := (d0.setPort p { x with heard := none, state := if x.state = 4 ∧ !d0.bit F.PTP_CLASS.EXT_PORT_CFG then 6 else x.state }).ptpDecide
      if x.state = 9 ∧ d1.slavePort.isNone then d1.ptpHoldover else d1)) ∧
  (RowGoes .ppsIn (fun d => (¬ d.bit F.TIME_CTRL.PPS_IN_EN ∨ d.boot.ppsIn ≠ d.bit F.TIME_CTRL.PPS_IN_EDGE))
    (fun d => { d with boot := { d.boot with ppsIn := !d.boot.ppsIn } })) ∧
  (RowGoes .ppsIn (fun d => (d.bit F.TIME_CTRL.PPS_IN_EN ∧ d.boot.ppsIn = d.bit F.TIME_CTRL.PPS_IN_EDGE))
    (fun d0 =>
      let d := { d0 with boot := { d0.boot with ppsIn := !d0.boot.ppsIn } }
      let ts := (d.tod16 : Int) - signedN 32 (d.word R.TIME_PPS_IN_DELAY).toNat
      let r := ts % sec16
      let err := if sec16 / 2 ≤ r then r - sec16 else r
      let shown := max (-(2 ^ 31)) (min (2 ^ 31 - 1) err)
      let d1 := d.setWord R.TIME_PPS_IN_ERR (BitVec.ofNat 32 (wrapN 32 shown))
      if d.timeSrc ≠ 1 ∨ d.time.st = .unset then d1 else d1.ppsServo r err)) ∧
  (∀ t, RowGoes .ppsInLost (fun d =>
      (d.time.lastPps = some t) ∧
      (d.timeSrc = 1 ∧ d.time.st = .locked))
    (fun d =>
      let d1 := (d.till (t + 1100 * msec)).timeTo .holdover
      { d1 with time := { d1.time with lastPps := none } })) ∧
  (RowGoes .ppsOut (fun d => (¬ (!d.ppsEnabled)))
    (fun d =>
      let dl := signedN 32 (d.word R.TIME_PPS_OUT_DELAY).toNat
      let t := ((d.tod16 : Int) + dl).toNat
      let s := if t % sec16 = 0 ∧ t / sec16 ≠ d.time.ppsSec then t / sec16 else t / sec16 + 1
      let d2 := d.tillTod ((((s * sec16 : Nat) : Int) - dl).toNat * 2 ^ 32)
      { d2 with time := { d2.time with ppsSec := s, ppsOutAt := some d2.now } }.emit (.pps true))) ∧
  (∀ t, RowGoes .ppsOutFall (fun d => (d.time.ppsOutAt = some t))
    (fun d =>
      let d1 := (d.till (t + min 500 (max 1 (d.get F.TIME_PPS_CFG.PPS_WIDTH)) * msec)).toEdge
      { d1 with time := { d1.time with ppsOutAt := none } }.emit (.pps false))) ∧
  (RowGoes .slewDone (fun d => (d.time.slewing ∧ (!d.onRing ∨ d.time.slewLeft = 0)))
    (fun d =>
      let left := d.time.slewLeft.natAbs
      let d1 := d.advance ((left * 100000000 + d.slewMax - 1) / d.slewMax)
      { d1 with time := { d1.time with slewing := false } }.raise F.TIME_EVENT.SLEW_DONE))

/-- Faults, CROAK, the checkers and the management cores, one clause per row (R276, R273, R284, R291, R321, R322, R329, R326): where the row's time or condition has come, it answers the next state with the effect its rule gives it.
It also rests on choices of the model: logs 2, 7, 9, 14, 60, 61, 100, 101, 177 and 204. -/
def Obligations.FaultRowsAct : Prop :=
  (∀ s m r, RowGoes .faultMessage (fun d => (d.nextSource = some (s, m, r)))
    (fun d => { d with flt := { d.flt with queues := Tbl.put d.flt.queues s r } }.takeFault m)) ∧
  (∀ (bank : Nat) (addr : Nat), bank < 4 → RowGoes (.eccCorr bank addr) (fun d => (¬ (!d.bankIn bank)))
    (fun d =>
      let a := addr % 2 ^ 40
      let f := d.cbMatch bank a 1
      let l := (d.now :: (Tbl.getD d.flt.eccAt bank []).filter fun t => decide (d.now < t + 1000 * msec)).take 17
      let d1 := { d with flt := { d.flt with eccAt := Tbl.put d.flt.eccAt bank l } }
      let d2 := d1.bankMsg bank 0x01 .c a f
      if l.length = 17 then d2.bankOut bank a f else d2)) ∧
  (∀ (bank : Nat) (addr : Nat), bank < 4 → RowGoes (.eccUncorr bank addr) (fun d => (¬ (!d.bankIn bank)))
    (fun d =>
      let a := addr % 2 ^ 40
      let f := d.cbMatch bank a 2
      ((d.bankMsg bank 0x02 (d.bankClass bank) a f).readFails bank d.turn).bankOut bank a f)) ∧
  (RowGoes .croakEdge (fun d => (¬ (!d.flt.croakOn)))
    (fun d =>
      let d1 := d.till d.croakEnd
      let bad := d1.flt.croakBad ||| d1.croakFailsAt (d1.clk.aonN - 1) ||| (if d1.heartbeatOk then 0 else 2)
      let go := decide (bad = 0)
      let level := if go then !d1.flt.croakLevel else d1.flt.croakLevel
      let f := { d1.flt with croakLevel := level, croakSince := d.flt.croakSince + 125, croakBad := 0 }
      { d1 with flt := f }.setWord R.FLT_CROAK_STATUS
        (BitVec.ofNat 32 (b2n go + 2 * b2n level + 4 * (15 - bad.toNat))))) ∧
  (∀ (missed : Nat) (falseFlags : Nat), RowGoes (.checkerTestDone missed falseFlags) (fun d => (d.flt.checking))
    (fun d =>
      let d1 := ({ d with flt := { d.flt with checking := false } }).set F.DBG_CHECK_RESULT.DONE 1
      let d2 := d1.set F.DBG_CHECK_RESULT.PASS (b2n (decide (missed = 0 ∧ falseFlags = 0)))
      (d2.set F.DBG_CHECK_RESULT.MISSED (min 255 missed)).set F.DBG_CHECK_RESULT.FALSE (min 255 falseFlags))) ∧
  (RowGoes .firmwareHeartbeat (fun d => (d.beats))
    (fun d =>
      let d1 := d.after d.mgmt.beat msec
      let late := !(d1.mgmt.beat.any fun t => decide (d1.now ≤ t + 10 * msec))
      let bad := if late then d1.flt.croakBad ||| 2 else d1.flt.croakBad
      { d1 with mgmt := { d1.mgmt with beat := some d1.now, beatLost := false }, flt := { d1.flt with croakBad := bad } }.setLive srcNewt false)) ∧
  (RowGoes .heartbeat (fun d => (¬ (d.mgmt.started.isNone ∨ d.mgmt.beatLost)))
    (fun d =>
      let d1 := d.after (some (d.mgmt.beat.getD (d.mgmt.started.getD 0))) (10 * msec)
      ({ d1 with mgmt := { d1.mgmt with beatLost := true } }.setLive srcNewt true).sendFault srcNewt 0x01 .u 0)) ∧
  (∀ (core : Nat) (addr : Word), core < 4 → RowGoes (.newtException core addr) (fun d => (d.coreOn core ∧ d.glb.mode ≠ .halt))
    (fun d =>
      let d1 := d.mgmtCount
      let d2 := d1.set F.MGMT_STATUS.ONLINE (d1.get F.MGMT_STATUS.ONLINE - 2 ^ core)
      let d3 := (d2.raise F.MGMT_EVENT.CORE_OFFLINE).sendFault srcNewt 0x02 .u (core * 2 ^ 38 + addr.toNat)
      d3.fresh.execCaught (if d3.freeVal 1 = 1 then d.turn else none))) ∧
  (∀ (s : StepSample), RowGoes (.stepSample s) (fun d =>
      (d.mgmtCount.bit F.MGMT_CTRL.SAMP_EN ∧ d.mgmtCount.coreOn s.core ∧ d.mgmtCount.glb.mode ≠ .halt ∧ 0 < d.mgmtCount.marked s.core))
    (fun d =>
      let put (d : Dev) : Dev :=
        let wr := (d.word R.MGMT_SAMP_WR).toNat
        let d1 := { d with mgmt := { d.mgmt with samples := Tbl.put d.mgmt.samples (wr % 4096) (d.sampleWords s) } }
        let d2 := d1.setWord R.MGMT_SAMP_WR (d.word R.MGMT_SAMP_WR + 1)
        if d2.bit F.MGMT_CTRL.SAMP_FULL ∧ 4095 ≤ wr then (d2.set F.MGMT_CTRL.SAMP_EN 0).raise F.MGMT_EVENT.SAMP_FULL else d2
      put (d.mgmtCount.unmark s.core))) ∧
  (∀ (meanUp maxUp : Bool), RowGoes (.mgmtLoad meanUp maxUp) (fun d => (d.mgmt.started.isSome ∧ d.coresRun ∧ d.glb.mode ≠ .halt))
    (fun d =>
      let d1 := (d.till (d.mgmt.loadAt + 100 * msec)).mgmtCount
      let use := ([0, 1, 2, 3].filter d1.coreOn).map fun c => Tbl.getD d1.mgmt.used c (0, 0)
      let busy := use.map fun x => x.2 - x.1
      let all := use.map (·.2)
      let d2 := { d1 with mgmt := { d1.mgmt with loadAt := d1.now, used := [] } }
      ((d2.set F.MGMT_LOAD.MEAN (percent busy.sum all.sum meanUp)).set F.MGMT_LOAD.MAX (percent (busy.foldl max 0) (all.foldl max 0) maxUp)).loadHigh))

/-- Event records, the Clay area, checkpoints and the store, one clause per row (R293, R298, R299, R301, R310, R307, R312, R309): where the row's time or condition has come, it answers the next state with the effect its rule gives it.
It also rests on choices of the model: logs 2, 7, 46, 47, 86, 87, 93, 173, 175, 176 and 180. -/
def Obligations.RecorderRowsAct : Prop :=
  (∀ i r, RowGoes .eventRecordWrite (fun d =>
      (d.evt.fifo = i :: r) ∧
      (¬ (d.glb.mode = .halt ∨ !d.coresRun)))
    (fun d =>
      let d1 := ({ d with evt := { d.evt with fifo := r } }).writeItem i
      if d1.evt.lost = 0 then d1
      else
        let d2 := d1.writeRecord 0x003 (packFields [(4, d1.evt.lost), (4, d1.evt.lostMs)]) none
        ({ d2 with evt := { d2.evt with lost := 0, lostMs := 0 } }).sendFault srcEvt 0x01 .c 0x003)) ∧
  (∀ (ok : Bool) b r s, RowGoes (.clayProgram ok) (fun d => (d.coresRun ∧ d.evt.haltQueue = b :: r ∧ d.haltSlot = some s))
    (fun d =>
      let d1 := { d with evt := { d.evt with haltQueue := r } }
      let d2 := d1.flashClaySlot s (slotImage b)
      if ok then { d2 with evt := { d2.evt with clay := Tbl.put d2.evt.clay s (slotImage b) } } else (d2.slotBroken s).flashFail (recCode b))) ∧
  (∀ (ok : Bool) b r, RowGoes (.clayProgram ok) (fun d => (d.coresRun ∧ d.evt.haltQueue = [] ∧ d.evt.clayQueue = b :: r ∧ d.glb.mode ≠ .halt))
    (fun d =>
      let n := d.get F.EVT_STATUS.CLAY_USED
      let d1 := { d with evt := { d.evt with clayQueue := r } }.flashClaySlot n (slotImage b)
      if ok then { d1 with evt := { d1.evt with clay := Tbl.put d1.evt.clay n (slotImage b) } }.clayUse (recCode b)
      else
        let d2 := d1.slotBroken n
        ((d2.set F.EVT_STATUS.CLAY_SPOILT (min 255 (d2.get F.EVT_STATUS.CLAY_SPOILT + 1))).flashFail (recCode b)).clayUse (recCode b))) ∧
  (∀ (ok : Bool) req, RowGoes (.clayClearDone ok) (fun d => (d.evt.clearing = some req))
    (fun d =>
      let d1 := ({ d with evt := { d.evt with clearing := none } }).set F.EVT_STATUS.CLEARING 0
      if !ok then d1.flashFail 0x004
      else
        let d2 := { d1 with evt := { d1.evt with clay := [], clayQueue := [] } }.flashClayErase
        let d3 := ((d2.set F.EVT_STATUS.CLAY_USED 0).set F.EVT_STATUS.CLAY_FULL 0).set F.EVT_STATUS.CLAY_SPOILT 0
        d3.writeRecord 0x004 (packFields [(2, d.evt.clearUsed), (1, req)]) none)) ∧
  (∀ (ok : Bool), RowGoes (.checkpoint ok) (fun d => (d.firmwareRuns))
    (fun d => (d.till (d.evt.optAt + (d.evt.lastCkpt + 600000 - d.evt.optBase) * msec)).ckptWrite ok)) ∧
  (∀ t, RowGoes .eventBlockTimer (fun d => (d.store.evSince = some t))
    (fun d =>
      let d1 := d.till (t + 100 * msec)
      { d1 with store := { d1.store with jobs := d1.store.jobs ++ [.block d1.store.evPos d1.evBlockBytes], evSince := none } })) ∧
  (∀ t, RowGoes .stoPerstN (fun d => (d.store.perstAt = some t))
    (fun d =>
      let d1 := d.till (t + 100 * msec)
      { d1 with store := { d1.store with perstAt := none, training := true } }.perstTo true)) ∧
  (∀ (i : NvmeIdent), RowGoes (.storeMounted i) (fun d => (d.storeStarting ∧ d.domainOn 20 ∧ d.ssdReached ∧ d.coresRun))
    (fun d =>
      let first := decide (d.store.lbas = 0)
      let lbas := min i.nsze (2 ^ 30)
      let d0 := { d with store := { d.store with gts := i.gts, width := i.width, cache := i.cache } }
      let d1 := d0.set F.STORE_STATUS.LINK_UP 1
      if !i.nsPresent ∨ !i.formatOk ∨ i.nsze < 2 ^ 18 then
        ((d1.emit (.nvmeEnable 32 4096)).nvmeOut 0 [.identify false, .identify true]).storeTo 2
      else
        let d2 := (({ d1 with store := { d1.store with lbas := lbas } }).bringUp i.cache).set64 R.STORE_CAPACITY_LO lbas
        (d2.set F.STORE_STATUS.FLUSH_MODE (b2n (i.cache && i.refused))).mount first)) ∧
  (RowGoes .storeLinkDown (fun d => (d.bit F.STORE_STATUS.LINK_UP))
    (fun d =>
      let d1 := ((d.set F.STORE_STATUS.LINK_UP 0).fresh.endJobs true).sendFault srcStore 0x03 .u d.noLba
      ({ d1 with store := { d1.store with lostAt := some d.now } }).storeTo 1)) ∧
  (∀ (trained : Bool) t, RowGoes (.storeRetrain trained) (fun d => (d.store.lostAt = some t))
    (fun d =>
      let d1 := d.till (t + 1000 * msec)
      if trained then (({ d1 with store := { d1.store with lostAt := none } }).set F.STORE_STATUS.LINK_UP 1).storeLive
      else { d1 with store := { d1.store with lostAt := some d1.now } })) ∧
  (∀ (ok : Bool) s, RowGoes (.segmentWrite ok) (fun d =>
      (¬ (!d.storeWrites ∨ !d.ssdReached)) ∧
      (d.store.flight.find? TraceSeg.due = some s))
    (fun d =>
      if !ok then d.failSeg s
      else if !s.zeroed then d.segZero s
      else if 0 < s.staged then d.segData s
      else d.segHeader s)) ∧
  (∀ (ok : Bool) j r, RowGoes (.nvmeCompletion ok) (fun d => (d.ssdReached ∧ !d.storeStarting ∧ d.bit F.STORE_STATUS.LINK_UP ∧ d.store.jobs = j :: r))
    (fun d =>
      let d1 := ({ d with store := { d.store with jobs := r } }).nvmeOut 2 (d.jobCmds j)
      if ok then d1.jobDone j else d1.jobFailed j)) ∧
  (∀ (ok : Bool), RowGoes (.nvmeCompletion ok) (fun d => (d.ssdReached ∧ d.storeStarting ∧ !ok))
    (fun d => d.fresh.ioErr d.noLba)) ∧
  (∀ j r, RowGoes .nvmeTimeout (fun d => (!d.storeStarting ∧ d.bit F.STORE_STATUS.LINK_UP ∧ d.store.jobs = j :: r))
    (fun d => ((({ d with store := { d.store with jobs := r } }).nvmeOut 2 (d.jobCmds j)).jobFailed j).storeTo 5)) ∧
  (∀ s, RowGoes .nvmeTimeout (fun d => (!d.storeStarting ∧ d.bit F.STORE_STATUS.LINK_UP ∧ d.store.jobs = [] ∧ d.store.flight.find? TraceSeg.due = some s ∧ d.storeWrites))
    (fun d => (d.failSeg s).storeTo 5)) ∧
  (RowGoes .nvmeTimeout (fun d => (d.storeStarting))
    (fun d => (d.fresh.ioErr d.noLba).storeTo 5))
end

