-- ==== Sys2Proof/Laws/Commands.lean ====
section
/-! SUPPORT. What the one operation behind every command row does with an entry that no check stops. -/

namespace Sys2Proof.Machine

/-- An up state lets a row act on the device, which then settles. -/
theorem State.onDev_of_up {s : State} (h : s.up) (f : Dev → Dev) : Host.Outcome.next (φ := Fault) (ρ := Refusal) (s.onDev f) = s.goesTo (f s.dev) := by
  simp [State.onDev, State.goesTo, h.1, h.2]

/-- As `onDev_of_up`, for a row of an object that the device has. -/
theorem State.onDevFor_of_up {s : State} (h : s.up) (f : Dev → Dev) {b : Bool} (hb : b = true) :
    Host.Outcome.next (φ := Fault) (ρ := Refusal) (s.onDevFor b f) = s.goesTo (f s.dev) := by
  simp [State.onDevFor, hb, State.onDev_of_up h]

/-- A command row on an accepted entry: the entry is taken, the effect happens, the command completes or waits (R236, R238, R241). -/
theorem Dev.command_of_accepts {d : Dev} {spec : CmdSpec} {src : Source} {dma : Option (List Byte)} {e : Entry}
    (h : d.accepts spec src dma e) (hop : opcodes.contains spec.opcode = true) :
    d.command spec src dma =
      Dev.answer (spec.run (Cmd.parse src e spec.params dma) (d.cidOf src e) (d.taken src e)) (Cmd.parse src e spec.params dma) (d.cidOf src e) := by
  obtain ⟨ht, hf, ho, hl, hi, hc, hp⟩ := h
  have hlist : ¬ (src = .list ∧ (!listAccepts e.opcode) = true) := fun ⟨a, b⟩ => by simp [hl a] at b
  have htime : ¬ ((Cmd.parse src e spec.params dma).timeout ≠ 0 ∧ e.seen + (Cmd.parse src e spec.params dma).timeout * msec < d.now) :=
    fun ⟨a, b⟩ => absurd (hi a) (Nat.not_le_of_lt b)
  have hplace : ¬ ((spec.waits (Cmd.parse src e spec.params dma) ((d.popCmd src).countCommand e) &&
      !((d.popCmd src).countCommand e).hasPlace src) = true) := fun a => by
    simp only [Bool.and_eq_true, Bool.not_eq_true'] at a
    exact absurd (hp a.1) (by simp [a.2])
  have hskip : (decide (src = .list) && !listAccepts e.opcode) = false := by
    cases h : (decide (src = .list) && !listAccepts e.opcode) with
    | false => rfl
    | true => exact absurd (by simpa using h) hlist
  have hpop : (!opcodes.contains e.opcode) = false := by rw [ho, hop]; rfl
  unfold Dev.command
  rw [if_neg (not_not_intro ht)]
  simp only [hf, hpop, hskip, Bool.false_eq_true, if_false]
  rw [if_neg (fun a => a.2.2 ho), if_neg htime]
  unfold Dev.execute
  simp only [hc]
  rw [if_neg (by exact hplace)]
  rfl

/-- An event row whose effect is `eff` where `cond` holds meets `RowGoes`. -/
theorem RowGoes.of_row {i : Instr} {cond : Dev → Prop} {f eff : Dev → Dev} (hexec : ∀ s : State, exec i s = .next (s.onDev f))
    (h : ∀ d, cond d → f d = eff d) : RowGoes i cond eff := by
  intro s hu hc
  rw [hexec, State.onDev_of_up hu, h s.dev hc]

/-- A command row whose effect is `eff` meets `RowRuns`. -/
theorem RowRuns.of_run {spec : CmdSpec} {dma : Option (List Byte)} {src : Source} {i : Instr} {eff : Cmd → Nat → Dev → Dev × Res}
    (hop : opcodes.contains spec.opcode = true) (hexec : ∀ s : State, exec i s = .next (s.onDev fun d => d.command spec src dma))
    (hrun : spec.run = eff) : RowRuns spec dma src i eff := by
  intro s e hu ha
  rw [hexec, State.onDev_of_up hu, Dev.command_of_accepts ha hop, hrun]

end Sys2Proof.Machine
end

