-- ==== Sys2Proof/Laws/Exec.lean ====
section
/-! SUPPORT. What a row can do, said once: every row acts through one of five operations on the state, and what each of them leaves. -/

namespace Sys2Proof.Machine

/-! ### The operations -/

/-- A device that takes part acts and settles. -/
theorem State.onDev_up {s : State} (h1 : s.dev.boot.powered = true) (h2 : s.dev.boot.rstLow = false) (f : Dev → Dev) :
    s.onDev f = { s with dev := (f s.dev).settle } := by
  simp [State.onDev, h1, h2]

/-- A device that takes no part stays as it is. -/
theorem State.onDev_down {s : State} (h : (s.dev.boot.powered && !s.dev.boot.rstLow) = false) (f : Dev → Dev) : s.onDev f = s := by
  simp [State.onDev, h]

@[simp] theorem State.onDev_pending (s : State) (f : Dev → Dev) : (s.onDev f).pending = s.pending := by
  unfold State.onDev; split <;> rfl

@[simp] theorem State.onDev_lastOpened (s : State) (f : Dev → Dev) : (s.onDev f).lastOpened = s.lastOpened := by
  unfold State.onDev; split <;> rfl

@[simp] theorem State.onDevFor_pending (s : State) (b : Bool) (f : Dev → Dev) : (s.onDevFor b f).pending = s.pending := by
  unfold State.onDevFor; split
  · exact State.onDev_pending s f
  · rfl

@[simp] theorem State.onDevFor_lastOpened (s : State) (b : Bool) (f : Dev → Dev) : (s.onDevFor b f).lastOpened = s.lastOpened := by
  unfold State.onDevFor; split
  · exact State.onDev_lastOpened s f
  · rfl

@[simp] theorem State.onAll_pending (s : State) (f : Dev → Dev) : (s.onAll f).pending = s.pending := by simp only [State.onAll]

@[simp] theorem State.onAll_lastOpened (s : State) (f : Dev → Dev) : (s.onAll f).lastOpened = s.lastOpened := by simp only [State.onAll]

@[simp] theorem State.onReset_pending (s : State) (b : Bool) (f : Dev → Dev) : (s.onReset b f).pending = s.pending := by simp only [State.onReset]

@[simp] theorem State.onBoundary_pending (s : State) : s.onBoundary.pending = s.pending := by
  unfold State.onBoundary; split <;> rfl

/-- What holds of every settled device holds after an operation on a state in which it held. -/
theorem State.onDev_keeps {P : Dev → Prop} (hP : ∀ d : Dev, P d.settle) {s : State} (h : P s.dev) (f : Dev → Dev) : P (s.onDev f).dev := by
  unfold State.onDev; split
  · exact hP _
  · exact h

theorem State.onDevFor_keeps {P : Dev → Prop} (hP : ∀ d : Dev, P d.settle) {s : State} (h : P s.dev) (b : Bool) (f : Dev → Dev) :
    P (s.onDevFor b f).dev := by
  unfold State.onDevFor; split
  · exact State.onDev_keeps hP h f
  · exact h

theorem State.onBoundary_keeps {P : Dev → Prop} (hP : ∀ d : Dev, P d.settle) {s : State} (h : P s.dev) : P s.onBoundary.dev := by
  unfold State.onBoundary; split
  · exact hP _
  · exact h

/-! ### The rows -/

/-- The rows that act only on a device that takes part, those of an object among them. -/
def Instr.acts (c : Instr) : Prop :=
  (∃ f : Option Nat → Dev → Dev, ∀ s : State, exec c s = .next (s.onDev (f s.lastOpened))) ∨
    (∃ (b : Bool) (f : Dev → Dev), ∀ s : State, exec c s = .next (s.onDevFor b f))

/-- Each row acts on a device that takes part, or is the tick boundary, or acts in every state, or restarts the device. -/
theorem exec_shape (c : Instr) :
    Instr.acts c ∨ (c = .tickBoundary ∧ ∀ s : State, exec c s = .next s.onBoundary) ∨
      (((∃ a, c = .rstNRelease a) ∨ (∃ a, c = .railCheck a) ∨ (∃ a, c = .testAccessPort a) ∨ (∃ a, c = .perstN a) ∨ c = .perstNRelease) ∧
        ∃ f : Dev → Dev, ∀ s : State, exec c s = .next (s.onAll f)) ∨
      (((∃ a b, c = .powerGood a b) ∨ c = .supplyFall ∨ (∃ a, c = .rstNAssert a)) ∧
        ∃ (b : State → Bool) (f : Dev → Dev), ∀ s : State, exec c s = .next (s.onReset (b s) f)) := by
  cases c with
  | nop src => exact .inl (.inl ⟨fun _ => (nop src), fun _ => rfl⟩)
  | getInfo src => exact .inl (.inl ⟨fun _ => (getInfo src), fun _ => rfl⟩)
  | modeRequest src => exact .inl (.inl ⟨fun _ => (modeRequest src), fun _ => rfl⟩)
  | configDigest src => exact .inl (.inl ⟨fun _ => (configDigest src), fun _ => rfl⟩)
  | regRead src => exact .inl (.inl ⟨fun _ => (regRead src), fun _ => rfl⟩)
  | regWrite src => exact .inl (.inl ⟨fun _ => (regWrite src), fun _ => rfl⟩)
  | chCreate src => exact .inl (.inl ⟨fun _ => (chCreate src), fun _ => rfl⟩)
  | chDestroy src => exact .inl (.inl ⟨fun _ => (chDestroy src), fun _ => rfl⟩)
  | chConfig src => exact .inl (.inl ⟨fun _ => (chConfig src), fun _ => rfl⟩)
  | chStart src => exact .inl (.inl ⟨fun _ => (chStart src), fun _ => rfl⟩)
  | chStop src => exact .inl (.inl ⟨fun _ => (chStop src), fun _ => rfl⟩)
  | chPhase src => exact .inl (.inl ⟨fun _ => (chPhase src), fun _ => rfl⟩)
  | chStatus src dmaOk => exact .inl (.inl ⟨fun _ => (chStatus src dmaOk), fun _ => rfl⟩)
  | chQuery src => exact .inl (.inl ⟨fun _ => (chQuery src), fun _ => rfl⟩)
  | msConfig src => exact .inl (.inl ⟨fun _ => (msConfig src), fun _ => rfl⟩)
  | msStart src => exact .inl (.inl ⟨fun _ => (msStart src), fun _ => rfl⟩)
  | msStop src => exact .inl (.inl ⟨fun _ => (msStop src), fun _ => rfl⟩)
  | bandSurvey src => exact .inl (.inl ⟨fun _ => (bandSurvey src), fun _ => rfl⟩)
  | msRampLoad src dma => exact .inl (.inl ⟨fun _ => (msRampLoad src dma), fun _ => rfl⟩)
  | msRampStart src => exact .inl (.inl ⟨fun _ => (msRampStart src), fun _ => rfl⟩)
  | msRampAbort src => exact .inl (.inl ⟨fun _ => (msRampAbort src), fun _ => rfl⟩)
  | refMonCreate src => exact .inl (.inl ⟨fun _ => (refMonCreate src), fun _ => rfl⟩)
  | refMonDestroy src => exact .inl (.inl ⟨fun _ => (refMonDestroy src), fun _ => rfl⟩)
  | dpllConfig src => exact .inl (.inl ⟨fun _ => (dpllConfig src), fun _ => rfl⟩)
  | dpllSelect src => exact .inl (.inl ⟨fun _ => (dpllSelect src), fun _ => rfl⟩)
  | dpllHoldover src => exact .inl (.inl ⟨fun _ => (dpllHoldover src), fun _ => rfl⟩)
  | holdModelGet src dmaOk => exact .inl (.inl ⟨fun _ => (holdModelGet src dmaOk), fun _ => rfl⟩)
  | holdModelSet src => exact .inl (.inl ⟨fun _ => (holdModelSet src), fun _ => rfl⟩)
  | timeSet src => exact .inl (.inl ⟨fun _ => (timeSet src), fun _ => rfl⟩)
  | timeAdjust src => exact .inl (.inl ⟨fun _ => (timeAdjust src), fun _ => rfl⟩)
  | timeGet src dmaOk => exact .inl (.inl ⟨fun _ => (timeGet src dmaOk), fun _ => rfl⟩)
  | timeEpochSet src => exact .inl (.inl ⟨fun l => (timeEpochSet src l), fun _ => rfl⟩)
  | ptpConfig src => exact .inl (.inl ⟨fun _ => (ptpConfig src), fun _ => rfl⟩)
  | ptpPortConfig src => exact .inl (.inl ⟨fun _ => (ptpPortConfig src), fun _ => rfl⟩)
  | ptpStatus src dmaOk => exact .inl (.inl ⟨fun _ => (ptpStatus src dmaOk), fun _ => rfl⟩)
  | ppsConfig src => exact .inl (.inl ⟨fun _ => (ppsConfig src), fun _ => rfl⟩)
  | tickStatus src dmaOk => exact .inl (.inl ⟨fun _ => (tickStatus src dmaOk), fun _ => rfl⟩)
  | tickPeriodSet src => exact .inl (.inl ⟨fun _ => (tickPeriodSet src), fun _ => rfl⟩)
  | tickSchedSet src => exact .inl (.inl ⟨fun _ => (tickSchedSet src), fun _ => rfl⟩)
  | tickWait src => exact .inl (.inl ⟨fun _ => (tickWait src), fun _ => rfl⟩)
  | shaftCreate src => exact .inl (.inl ⟨fun _ => (shaftCreate src), fun _ => rfl⟩)
  | shaftDestroy src => exact .inl (.inl ⟨fun _ => (shaftDestroy src), fun _ => rfl⟩)
  | shaftConfig src => exact .inl (.inl ⟨fun _ => (shaftConfig src), fun _ => rfl⟩)
  | shaftStart src => exact .inl (.inl ⟨fun _ => (shaftStart src), fun _ => rfl⟩)
  | shaftStop src => exact .inl (.inl ⟨fun _ => (shaftStop src), fun _ => rfl⟩)
  | shaftSpeed src => exact .inl (.inl ⟨fun _ => (shaftSpeed src), fun _ => rfl⟩)
  | shaftTrim src => exact .inl (.inl ⟨fun _ => (shaftTrim src), fun _ => rfl⟩)
  | shaftRetune src => exact .inl (.inl ⟨fun _ => (shaftRetune src), fun _ => rfl⟩)
  | shaftStatus src dmaOk => exact .inl (.inl ⟨fun _ => (shaftStatus src dmaOk), fun _ => rfl⟩)
  | profCreate src => exact .inl (.inl ⟨fun _ => (profCreate src), fun _ => rfl⟩)
  | profDestroy src => exact .inl (.inl ⟨fun _ => (profDestroy src), fun _ => rfl⟩)
  | profLoad src dma => exact .inl (.inl ⟨fun _ => (profLoad src dma), fun _ => rfl⟩)
  | profRead src dmaOk => exact .inl (.inl ⟨fun _ => (profRead src dmaOk), fun _ => rfl⟩)
  | folCreate src => exact .inl (.inl ⟨fun _ => (folCreate src), fun _ => rfl⟩)
  | folDestroy src => exact .inl (.inl ⟨fun _ => (folDestroy src), fun _ => rfl⟩)
  | folConfig src => exact .inl (.inl ⟨fun _ => (folConfig src), fun _ => rfl⟩)
  | folStart src => exact .inl (.inl ⟨fun _ => (folStart src), fun _ => rfl⟩)
  | folStop src => exact .inl (.inl ⟨fun _ => (folStop src), fun _ => rfl⟩)
  | folOffset src => exact .inl (.inl ⟨fun _ => (folOffset src), fun _ => rfl⟩)
  | folLimits src => exact .inl (.inl ⟨fun _ => (folLimits src), fun _ => rfl⟩)
  | folClear src => exact .inl (.inl ⟨fun _ => (folClear src), fun _ => rfl⟩)
  | folStatus src dmaOk => exact .inl (.inl ⟨fun _ => (folStatus src dmaOk), fun _ => rfl⟩)
  | camCreate src => exact .inl (.inl ⟨fun _ => (camCreate src), fun _ => rfl⟩)
  | camDestroy src => exact .inl (.inl ⟨fun _ => (camDestroy src), fun _ => rfl⟩)
  | camLoad src dma => exact .inl (.inl ⟨fun _ => (camLoad src dma), fun _ => rfl⟩)
  | camRead src dmaOk => exact .inl (.inl ⟨fun _ => (camRead src dmaOk), fun _ => rfl⟩)
  | grpCreate src => exact .inl (.inl ⟨fun _ => (grpCreate src), fun _ => rfl⟩)
  | grpDestroy src => exact .inl (.inl ⟨fun _ => (grpDestroy src), fun _ => rfl⟩)
  | grpConfig src => exact .inl (.inl ⟨fun _ => (grpConfig src), fun _ => rfl⟩)
  | grpLatency src => exact .inl (.inl ⟨fun _ => (grpLatency src), fun _ => rfl⟩)
  | grpStatus src dmaOk => exact .inl (.inl ⟨fun _ => (grpStatus src dmaOk), fun _ => rfl⟩)
  | calRun src => exact .inl (.inl ⟨fun _ => (calRun src), fun _ => rfl⟩)
  | calAbort src => exact .inl (.inl ⟨fun _ => (calAbort src), fun _ => rfl⟩)
  | calStatus src => exact .inl (.inl ⟨fun _ => (calStatus src), fun _ => rfl⟩)
  | calSave src => exact .inl (.inl ⟨fun _ => (calSave src), fun _ => rfl⟩)
  | calRestore src => exact .inl (.inl ⟨fun _ => (calRestore src), fun _ => rfl⟩)
  | calSlotInfo src => exact .inl (.inl ⟨fun _ => (calSlotInfo src), fun _ => rfl⟩)
  | evtRead src dmaOk => exact .inl (.inl ⟨fun _ => (evtRead src dmaOk), fun _ => rfl⟩)
  | storeInfo src dmaOk => exact .inl (.inl ⟨fun _ => (storeInfo src dmaOk), fun _ => rfl⟩)
  | storeFormat src => exact .inl (.inl ⟨fun _ => (storeFormat src), fun _ => rfl⟩)
  | streamCreate src => exact .inl (.inl ⟨fun _ => (streamCreate src), fun _ => rfl⟩)
  | streamDestroy src => exact .inl (.inl ⟨fun _ => (streamDestroy src), fun _ => rfl⟩)
  | streamConfig src => exact .inl (.inl ⟨fun _ => (streamConfig src), fun _ => rfl⟩)
  | streamStart src => exact .inl (.inl ⟨fun _ => (streamStart src), fun _ => rfl⟩)
  | streamStop src => exact .inl (.inl ⟨fun _ => (streamStop src), fun _ => rfl⟩)
  | streamTrigger src => exact .inl (.inl ⟨fun _ => (streamTrigger src), fun _ => rfl⟩)
  | storeRead src dmaOk => exact .inl (.inl ⟨fun _ => (storeRead src dmaOk), fun _ => rfl⟩)
  | fltRead src dmaOk => exact .inl (.inl ⟨fun _ => (fltRead src dmaOk), fun _ => rfl⟩)
  | fltAck src => exact .inl (.inl ⟨fun _ => (fltAck src), fun _ => rfl⟩)
  | fltReaction src => exact .inl (.inl ⟨fun _ => (fltReaction src), fun _ => rfl⟩)
  | fltInject src => exact .inl (.inl ⟨fun _ => (fltInject src), fun _ => rfl⟩)
  | fltInjectClear src => exact .inl (.inl ⟨fun _ => (fltInjectClear src), fun _ => rfl⟩)
  | pwrDomainSet src => exact .inl (.inl ⟨fun _ => (pwrDomainSet src), fun _ => rfl⟩)
  | pwrStatus src => exact .inl (.inl ⟨fun _ => (pwrStatus src), fun _ => rfl⟩)
  | snapCapture src => exact .inl (.inl ⟨fun _ => (snapCapture src), fun _ => rfl⟩)
  | snapRead src dmaOk => exact .inl (.inl ⟨fun _ => (snapRead src dmaOk), fun _ => rfl⟩)
  | snapRelease src => exact .inl (.inl ⟨fun _ => (snapRelease src), fun _ => rfl⟩)
  | lineStartAll src => exact .inl (.inl ⟨fun _ => (lineStartAll src), fun _ => rfl⟩)
  | lineStopAll src => exact .inl (.inl ⟨fun _ => (lineStopAll src), fun _ => rfl⟩)
  | entryFetch ring dma => exact .inl (.inr ⟨(decide (ring < 4)), (entryFetch ring dma), fun _ => rfl⟩)
  | cmdSqTail ring be val => exact .inl (.inr ⟨(decide (ring < 4)), (cmdSqTail ring be val), fun _ => rfl⟩)
  | cmdCqHead ring be val => exact .inl (.inr ⟨(decide (ring < 4)), (cmdCqHead ring be val), fun _ => rfl⟩)
  | ringEn be val => exact .inl (.inl ⟨fun _ => (ringEn be val), fun _ => rfl⟩)
  | ringDrained ring => exact .inl (.inr ⟨(decide (ring < 4)), (ringDrained ring), fun _ => rfl⟩)
  | inBandCommandFrame frame => exact .inl (.inl ⟨fun _ => (inBandCommandFrame frame), fun _ => rfl⟩)
  | registerWrite req tlp => exact .inl (.inl ⟨fun _ => (registerWrite req tlp), fun _ => rfl⟩)
  | guardPairTimeout req => exact .inl (.inl ⟨fun _ => (guardPairTimeout req), fun _ => rfl⟩)
  | glbModeReq req compl => exact .inl (.inl ⟨fun _ => (glbModeReq req compl), fun _ => rfl⟩)
  | glbSoftReset req compl => exact .inl (.inl ⟨fun _ => (glbSoftReset req compl), fun _ => rfl⟩)
  | warmResetDone => exact .inl (.inl ⟨fun _ => warmResetDone, fun _ => rfl⟩)
  | pwrDomainCtrl req compl => exact .inl (.inl ⟨fun _ => (pwrDomainCtrl req compl), fun _ => rfl⟩)
  | fltInjMode req compl => exact .inl (.inl ⟨fun _ => (fltInjMode req compl), fun _ => rfl⟩)
  | forceSet req source kind => exact .inl (.inl ⟨fun _ => (forceSet req source kind), fun _ => rfl⟩)
  | forceClear req source kind => exact .inl (.inl ⟨fun _ => (forceClear req source kind), fun _ => rfl⟩)
  | forceClearAll req => exact .inl (.inl ⟨fun _ => (forceClearAll req), fun _ => rfl⟩)
  | cbArm req => exact .inl (.inl ⟨fun _ => (cbArm req), fun _ => rfl⟩)
  | cbCancel req => exact .inl (.inl ⟨fun _ => (cbCancel req), fun _ => rfl⟩)
  | fltAckWrite req be val => exact .inl (.inl ⟨fun _ => (fltAckWrite req be val), fun _ => rfl⟩)
  | storeErase req compl => exact .inl (.inl ⟨fun _ => (storeErase req compl), fun _ => rfl⟩)
  | evtClayClear req compl => exact .inl (.inl ⟨fun _ => (evtClayClear req compl), fun _ => rfl⟩)
  | clayClearDone ok => exact .inl (.inl ⟨fun _ => (clayClearDone ok), fun _ => rfl⟩)
  | linkKey req slot word compl => exact .inl (.inl ⟨fun _ => (linkKey req slot word compl), fun _ => rfl⟩)
  | linkKeyCtrl req compl => exact .inl (.inl ⟨fun _ => (linkKeyCtrl req compl), fun _ => rfl⟩)
  | capture req be val => exact .inl (.inl ⟨fun _ => (capture req be val), fun _ => rfl⟩)
  | msCtrlEn req ms be val => exact .inl (.inr ⟨(decide (ms < 4)), (msCtrlEn req ms be val), fun _ => rfl⟩)
  | msRampCtrlStart req ms be val => exact .inl (.inr ⟨(decide (ms < 4)), (msRampCtrlStart req ms be val), fun _ => rfl⟩)
  | msRampCtrlAbort req ms be val => exact .inl (.inr ⟨(decide (ms < 4)), (msRampCtrlAbort req ms be val), fun _ => rfl⟩)
  | outCtrlEn req out be val => exact .inl (.inr ⟨(decide (out < 32)), (outCtrlEn req out be val), fun _ => rfl⟩)
  | linkCtrlEn req be val => exact .inl (.inl ⟨fun _ => (linkCtrlEn req be val), fun _ => rfl⟩)
  | storeCtrlEn req be val => exact .inl (.inl ⟨fun _ => (storeCtrlEn req be val), fun _ => rfl⟩)
  | stoPerstN => exact .inl (.inl ⟨fun _ => stoPerstN, fun _ => rfl⟩)
  | storeMounted ident => exact .inl (.inl ⟨fun _ => (storeMounted ident), fun _ => rfl⟩)
  | storeRelease req be val => exact .inl (.inl ⟨fun _ => (storeRelease req be val), fun _ => rfl⟩)
  | fieldCtrlEn req field be val => exact .inl (.inr ⟨(decide (field < 8)), (fieldCtrlEn req field be val), fun _ => rfl⟩)
  | cntClear req be val => exact .inl (.inl ⟨fun _ => (cntClear req be val), fun _ => rfl⟩)
  | sampEn req be val => exact .inl (.inl ⟨fun _ => (sampEn req be val), fun _ => rfl⟩)
  | checkerTest req be val => exact .inl (.inl ⟨fun _ => (checkerTest req be val), fun _ => rfl⟩)
  | checkerTestDone missed falseFlags => exact .inl (.inl ⟨fun _ => (checkerTestDone missed falseFlags), fun _ => rfl⟩)
  | smbusProcessCall code bytes readExtra => exact .inl (.inl ⟨fun _ => (smbusProcessCall code bytes readExtra), fun _ => rfl⟩)
  | smbusTimeout => exact .inl (.inl ⟨fun _ => smbusTimeout, fun _ => rfl⟩)
  | powerGood rstHigh bootSel => exact .inr (.inr (.inr ⟨.inl ⟨_, _, rfl⟩, fun s => (!s.dev.boot.powered), (powerGood rstHigh bootSel), fun _ => rfl⟩))
  | supplyFall => exact .inr (.inr (.inr ⟨.inr (.inl rfl), fun s => s.dev.boot.powered, (supplyFall), fun _ => rfl⟩))
  | rstNAssert lowNs => exact .inr (.inr (.inr ⟨.inr (.inr ⟨_, rfl⟩), fun s => (s.dev.boot.powered && !s.dev.boot.rstLow && s.dev.pulseTaken lowNs), (rstNAssert lowNs), fun _ => rfl⟩))
  | rstNRelease bootSel => exact .inr (.inr (.inl ⟨.inl ⟨_, rfl⟩, (rstNRelease bootSel), fun _ => rfl⟩))
  | perstN lowNs => exact .inr (.inr (.inl ⟨.inr (.inr (.inr (.inl ⟨_, rfl⟩))), (perstN lowNs), fun _ => rfl⟩))
  | hpeLinkDown => exact .inl (.inl ⟨fun _ => hpeLinkDown, fun _ => rfl⟩)
  | railCheck good => exact .inr (.inr (.inl ⟨.inr (.inl ⟨_, rfl⟩), (railCheck good), fun _ => rfl⟩))
  | resetRelease => exact .inl (.inl ⟨fun _ => resetRelease, fun _ => rfl⟩)
  | imageCopy flash => exact .inl (.inl ⟨fun _ => (imageCopy flash), fun _ => rfl⟩)
  | signatureCheck header body => exact .inl (.inl ⟨fun _ => (signatureCheck header body), fun _ => rfl⟩)
  | sramInitialisation cfgA cfgB => exact .inl (.inl ⟨fun _ => (sramInitialisation cfgA cfgB), fun _ => rfl⟩)
  | corePllLock => exact .inl (.inl ⟨fun _ => corePllLock, fun _ => rfl⟩)
  | startUpList => exact .inl (.inl ⟨fun _ => startUpList, fun _ => rfl⟩)
  | referenceQualification => exact .inl (.inl ⟨fun _ => referenceQualification, fun _ => rfl⟩)
  | timeAcquisition => exact .inl (.inl ⟨fun _ => timeAcquisition, fun _ => rfl⟩)
  | initialCalibration => exact .inl (.inl ⟨fun _ => initialCalibration, fun _ => rfl⟩)
  | oscinLost => exact .inl (.inl ⟨fun _ => oscinLost, fun _ => rfl⟩)
  | oscinReturned => exact .inl (.inl ⟨fun _ => oscinReturned, fun _ => rfl⟩)
  | corePllLost => exact .inl (.inl ⟨fun _ => corePllLost, fun _ => rfl⟩)
  | corePllRelocked => exact .inl (.inl ⟨fun _ => corePllRelocked, fun _ => rfl⟩)
  | railUv rail mv mw => exact .inl (.inr ⟨(decide (rail < 17)), (railUv rail mv mw), fun _ => rfl⟩)
  | railOv rail mv mw => exact .inl (.inr ⟨(decide (rail < 17)), (railOv rail mv mw), fun _ => rfl⟩)
  | tempConversion sensor reading => exact .inl (.inr ⟨(decide (sensor < 8)), (tempConversion sensor reading), fun _ => rfl⟩)
  | tjHigh sensor => exact .inl (.inr ⟨(decide (sensor < 8)), (tjHigh sensor), fun _ => rfl⟩)
  | tjCrit sensor => exact .inl (.inr ⟨(decide (sensor < 8)), (tjCrit sensor), fun _ => rfl⟩)
  | domainSwitchStart => exact .inl (.inl ⟨fun _ => domainSwitchStart, fun _ => rfl⟩)
  | switchDone => exact .inl (.inl ⟨fun _ => switchDone, fun _ => rfl⟩)
  | switchFail => exact .inl (.inl ⟨fun _ => switchFail, fun _ => rfl⟩)
  | vddoLevel bank mv => exact .inl (.inr ⟨(decide (bank < 4)), (vddoLevel bank mv), fun _ => rfl⟩)
  | lockGained ms phErr => exact .inl (.inr ⟨(decide (ms < 4)), (lockGained ms phErr), fun _ => rfl⟩)
  | lockLost ms slip phErr => exact .inl (.inr ⟨(decide (ms < 4)), (lockLost ms slip phErr), fun _ => rfl⟩)
  | msStartTimeout ms => exact .inl (.inr ⟨(decide (ms < 4)), (msStartTimeout ms), fun _ => rfl⟩)
  | reacqTimeout ms => exact .inl (.inr ⟨(decide (ms < 4)), (reacqTimeout ms), fun _ => rfl⟩)
  | msSettle ms => exact .inl (.inr ⟨(decide (ms < 4)), (msSettle ms), fun _ => rfl⟩)
  | bypassSwitchDone out => exact .inl (.inr ⟨(decide (out < 32)), (bypassSwitchDone out), fun _ => rfl⟩)
  | highTimeLimit out => exact .inl (.inr ⟨(decide (out < 32)), (highTimeLimit out), fun _ => rfl⟩)
  | outGuard pulse => exact .inl (.inr ⟨(decide (pulse.out < 32)), (outGuard pulse.out pulse.half), fun _ => rfl⟩)
  | surveyDone ms bands => exact .inl (.inr ⟨(decide (ms < 4)), (surveyDone ms bands), fun _ => rfl⟩)
  | rampSegmentEnd ms => exact .inl (.inr ⟨(decide (ms < 4)), (rampSegmentEnd ms), fun _ => rfl⟩)
  | rampDone ms => exact .inl (.inr ⟨(decide (ms < 4)), (rampDone ms), fun _ => rfl⟩)
  | channelStart out => exact .inl (.inr ⟨(decide (out < 32)), (channelStart out), fun _ => rfl⟩)
  | chStartTimeout out => exact .inl (.inr ⟨(decide (out < 32)), (chStartTimeout out), fun _ => rfl⟩)
  | channelStopped out => exact .inl (.inr ⟨(decide (out < 32)), (channelStopped out), fun _ => rfl⟩)
  | phaseSlewDone out => exact .inl (.inr ⟨(decide (out < 32)), (phaseSlewDone out), fun _ => rfl⟩)
  | activityFail refin => exact .inl (.inr ⟨(decide (refin < 8)), (activityFail refin), fun _ => rfl⟩)
  | frequencyGate refin ppb => exact .inl (.inr ⟨(decide (refin < 8)), (frequencyGate refin ppb), fun _ => rfl⟩)
  | referenceSelection ms => exact .inl (.inr ⟨(decide (ms < 4)), (referenceSelection ms), fun _ => rfl⟩)
  | dpllNarrow ms phErr => exact .inl (.inr ⟨(decide (ms < 4)), (dpllNarrow ms phErr), fun _ => rfl⟩)
  | dpllLocked ms phErr => exact .inl (.inr ⟨(decide (ms < 4)), (dpllLocked ms phErr), fun _ => rfl⟩)
  | steerLimit ms correction => exact .inl (.inr ⟨(decide (ms < 4)), (steerLimit ms correction), fun _ => rfl⟩)
  | modelValid ms => exact .inl (.inr ⟨(decide (ms < 4)), (modelValid ms), fun _ => rfl⟩)
  | extTempTimeout ms => exact .inl (.inr ⟨(decide (ms < 4)), (extTempTimeout ms), fun _ => rfl⟩)
  | calUpdate ms steps => exact .inl (.inr ⟨(decide (ms < 4)), (calUpdate ms steps), fun _ => rfl⟩)
  | tempTrigger ms => exact .inl (.inr ⟨(decide (ms < 4)), (tempTrigger ms), fun _ => rfl⟩)
  | precondCheck ms => exact .inl (.inr ⟨(decide (ms < 4)), (precondCheck ms), fun _ => rfl⟩)
  | calRunTimeout ms => exact .inl (.inr ⟨(decide (ms < 4)), (calRunTimeout ms), fun _ => rfl⟩)
  | calSaveComplete readBackOk => exact .inl (.inl ⟨fun _ => (calSaveComplete readBackOk), fun _ => rfl⟩)
  | flashTimeout => exact .inl (.inl ⟨fun _ => flashTimeout, fun _ => rfl⟩)
  | tickBoundary => exact .inr (.inl ⟨rfl, fun _ => rfl⟩)
  | feedbackCutoff unevaluated => exact .inl (.inl ⟨fun _ => (feedbackCutoff unevaluated), fun _ => rfl⟩)
  | computeStart => exact .inl (.inl ⟨fun _ => computeStart, fun _ => rfl⟩)
  | mirrorLost shaft => exact .inl (.inr ⟨(decide (shaft < 64)), (mirrorLost shaft), fun _ => rfl⟩)
  | computeComplete work => exact .inl (.inl ⟨fun _ => (computeComplete work), fun _ => rfl⟩)
  | publishDeadline endNs => exact .inl (.inl ⟨fun _ => (publishDeadline endNs), fun _ => rfl⟩)
  | gapWorkComplete staged => exact .inl (.inl ⟨fun _ => (gapWorkComplete staged), fun _ => rfl⟩)
  | carriageFrameTransmit => exact .inl (.inl ⟨fun _ => carriageFrameTransmit, fun _ => rfl⟩)
  | backpressureTimeout => exact .inl (.inl ⟨fun _ => backpressureTimeout, fun _ => rfl⟩)
  | feedbackFrame frame => exact .inl (.inl ⟨fun _ => (feedbackFrame frame), fun _ => rfl⟩)
  | missRun follower => exact .inl (.inr ⟨(decide (follower < 4096)), (missRun follower), fun _ => rfl⟩)
  | goodRun follower => exact .inl (.inr ⟨(decide (follower < 4096)), (goodRun follower), fun _ => rfl⟩)
  | resyncCompare follower => exact .inl (.inr ⟨(decide (follower < 4096)), (resyncCompare follower), fun _ => rfl⟩)
  | latencyUpdate group => exact .inl (.inr ⟨(decide (group < 1024)), (latencyUpdate group), fun _ => rfl⟩)
  | shaftStateFrame frame => exact .inl (.inl ⟨fun _ => (shaftStateFrame frame), fun _ => rfl⟩)
  | egressReports reports => exact .inl (.inl ⟨fun _ => (egressReports reports), fun _ => rfl⟩)
  | reportMissing => exact .inl (.inl ⟨fun _ => reportMissing, fun _ => rfl⟩)
  | portStatus mask => exact .inl (.inl ⟨fun _ => (portStatus mask), fun _ => rfl⟩)
  | ptpMessage msg => exact .inl (.inl ⟨fun _ => (ptpMessage msg), fun _ => rfl⟩)
  | ptpMessageInterval port kind => exact .inl (.inr ⟨(decide (port < 256)), (ptpMessageInterval port kind), fun _ => rfl⟩)
  | announceTimeout port => exact .inl (.inr ⟨(decide (port < 256)), (announceTimeout port), fun _ => rfl⟩)
  | ppsIn => exact .inl (.inl ⟨fun _ => ppsIn, fun _ => rfl⟩)
  | ppsInLost => exact .inl (.inl ⟨fun _ => ppsInLost, fun _ => rfl⟩)
  | ppsOut => exact .inl (.inl ⟨fun _ => ppsOut, fun _ => rfl⟩)
  | ppsOutFall => exact .inl (.inl ⟨fun _ => ppsOutFall, fun _ => rfl⟩)
  | slewDone => exact .inl (.inl ⟨fun _ => slewDone, fun _ => rfl⟩)
  | timeSyncUnit => exact .inl (.inl ⟨fun _ => timeSyncUnit, fun _ => rfl⟩)
  | timeEcho echo => exact .inl (.inl ⟨fun _ => (timeEcho echo), fun _ => rfl⟩)
  | pfcFrame classes quanta => exact .inl (.inl ⟨fun _ => (pfcFrame classes quanta), fun _ => rfl⟩)
  | pauseExpiry cls => exact .inl (.inr ⟨(decide (cls < 8)), (pauseExpiry cls), fun _ => rfl⟩)
  | linkUp => exact .inl (.inl ⟨fun _ => linkUp, fun _ => rfl⟩)
  | linkDown => exact .inl (.inl ⟨fun _ => linkDown, fun _ => rfl⟩)
  | faultMessage => exact .inl (.inl ⟨fun _ => faultMessage, fun _ => rfl⟩)
  | eccCorr bank addr => exact .inl (.inr ⟨(decide (bank < 4)), (eccCorr bank addr), fun _ => rfl⟩)
  | eccUncorr bank addr => exact .inl (.inr ⟨(decide (bank < 4)), (eccUncorr bank addr), fun _ => rfl⟩)
  | croakEdge => exact .inl (.inl ⟨fun _ => croakEdge, fun _ => rfl⟩)
  | firmwareHeartbeat => exact .inl (.inl ⟨fun _ => firmwareHeartbeat, fun _ => rfl⟩)
  | heartbeat => exact .inl (.inl ⟨fun _ => heartbeat, fun _ => rfl⟩)
  | newtException core addr => exact .inl (.inr ⟨(decide (core < 4)), (newtException core addr), fun _ => rfl⟩)
  | stepSample sample => exact .inl (.inl ⟨fun _ => (stepSample sample), fun _ => rfl⟩)
  | mgmtLoad meanUp maxUp => exact .inl (.inl ⟨fun _ => (mgmtLoad meanUp maxUp), fun _ => rfl⟩)
  | eventRecordWrite => exact .inl (.inl ⟨fun _ => eventRecordWrite, fun _ => rfl⟩)
  | clayProgram ok => exact .inl (.inl ⟨fun _ => (clayProgram ok), fun _ => rfl⟩)
  | checkpoint ok => exact .inl (.inl ⟨fun _ => (checkpoint ok), fun _ => rfl⟩)
  | segmentWrite ok => exact .inl (.inl ⟨fun _ => (segmentWrite ok), fun _ => rfl⟩)
  | eventBlockTimer => exact .inl (.inl ⟨fun _ => eventBlockTimer, fun _ => rfl⟩)
  | nvmeTimeout => exact .inl (.inl ⟨fun _ => nvmeTimeout, fun _ => rfl⟩)
  | storeLinkDown => exact .inl (.inl ⟨fun _ => storeLinkDown, fun _ => rfl⟩)
  | storeRetrain trained => exact .inl (.inl ⟨fun _ => (storeRetrain trained), fun _ => rfl⟩)
  | ftickPulse field => exact .inl (.inr ⟨(decide (field < 8)), (ftickPulse field), fun _ => rfl⟩)
  | ftickPulseEnd field => exact .inl (.inr ⟨(decide (field < 8)), (ftickPulseEnd field), fun _ => rfl⟩)
  | overcurrent field => exact .inl (.inr ⟨(decide (field < 8)), (overcurrent field), fun _ => rfl⟩)
  | registerRead req tlp => exact .inl (.inl ⟨fun _ => (registerRead req tlp), fun _ => rfl⟩)
  | interruptCoalescing ring => exact .inl (.inr ⟨(decide (ring < 4)), (interruptCoalescing ring), fun _ => rfl⟩)
  | xon cls => exact .inl (.inr ⟨(decide (cls < 8)), (xon cls), fun _ => rfl⟩)
  | activityPresent refin => exact .inl (.inr ⟨(decide (refin < 8)), (activityPresent refin), fun _ => rfl⟩)
  | perstNRelease => exact .inr (.inr (.inl ⟨.inr (.inr (.inr (.inr rfl))), perstNRelease, fun _ => rfl⟩))
  | hpeLinkUp => exact .inl (.inl ⟨fun _ => hpeLinkUp, fun _ => rfl⟩)
  | nvmeCompletion ok => exact .inl (.inl ⟨fun _ => (nvmeCompletion ok), fun _ => rfl⟩)
  | ringOscillatorMeasurement hz => exact .inl (.inl ⟨fun _ => (ringOscillatorMeasurement hz), fun _ => rfl⟩)
  | discardedFrame cause => exact .inl (.inl ⟨fun _ => (discardedFrame cause), fun _ => rfl⟩)
  | testAccessPort op => exact .inr (.inr (.inl ⟨.inr (.inr (.inl ⟨_, rfl⟩)), (testAccessPort op), fun _ => rfl⟩))

/-- A row that acts on a device that takes part leaves the queue, and the index of the last tick opened. -/
theorem Instr.acts.frame {c : Instr} (h : Instr.acts c) {s t : State} (he : exec c s = .next t) :
    t.pending = s.pending ∧ t.lastOpened = s.lastOpened := by
  rcases h with ⟨f, hf⟩ | ⟨b, f, hf⟩ <;> rw [hf] at he <;> cases he <;> simp

/-- It does nothing to a device that takes no part. -/
theorem Instr.acts.down {c : Instr} (h : Instr.acts c) {s : State} (hd : (s.dev.boot.powered && !s.dev.boot.rstLow) = false) :
    exec c s = .next s := by
  rcases h with ⟨f, hf⟩ | ⟨b, f, hf⟩
  · rw [hf, State.onDev_down hd]
  · rw [hf]; unfold State.onDevFor; split
    · rw [State.onDev_down hd]
    · rfl

/-- What holds of every settled device is kept by every row. -/
theorem exec_keeps {P : Dev → Prop} (hP : ∀ d : Dev, P d.settle) {c : Instr} {s t : State} (h : P s.dev) (he : exec c s = .next t) : P t.dev := by
  rcases exec_shape c with hc | ⟨-, hc⟩ | ⟨-, f, hc⟩ | ⟨-, b, f, hc⟩
  · rcases hc with ⟨f, hf⟩ | ⟨b, f, hf⟩ <;> rw [hf] at he <;> cases he
    · exact State.onDev_keeps hP h _
    · exact State.onDevFor_keeps hP h b f
  · rw [hc] at he; cases he; exact State.onBoundary_keeps hP h
  · rw [hc] at he; cases he; exact hP _
  · rw [hc] at he; cases he; exact hP _

end Sys2Proof.Machine
end

