-- ==== Sys2Proof/Laws/Tables.lean ====
section
/-! SUPPORT. Tables keyed by number: reading after writing, and the canonical form. -/

namespace Sys2Proof

/-- Reading a key after a write: the value written there, and every other key as before. -/
theorem Tbl.get?_put {α : Type} (t : Tbl α) (k k' : Nat) (v : α) : Tbl.get? (Tbl.put t k v) k' = if k = k' then some v else Tbl.get? t k' := by
  induction t with
  | nil => simp [Tbl.put, Tbl.get?]
  | cons p r ih =>
    obtain ⟨a, w⟩ := p
    simp only [Tbl.put]
    split
    · subst_vars; simp only [Tbl.get?]; split <;> rfl
    · split
      · simp only [Tbl.get?]
      · simp only [Tbl.get?, ih]; split
        · subst_vars; rw [if_neg]; intro h; simp_all
        · rfl

@[simp] theorem Tbl.get?_put_same {α : Type} (t : Tbl α) (k : Nat) (v : α) : Tbl.get? (Tbl.put t k v) k = some v := by
  simp [Tbl.get?_put]

theorem Tbl.get?_put_other {α : Type} (t : Tbl α) {k k' : Nat} (v : α) (h : k ≠ k') : Tbl.get? (Tbl.put t k v) k' = Tbl.get? t k' := by
  simp [Tbl.get?_put, h]

@[simp] theorem Tbl.getD_put_same {α : Type} (t : Tbl α) (k : Nat) (v x : α) : Tbl.getD (Tbl.put t k v) k x = v := by
  simp [Tbl.getD]

theorem Tbl.getD_put_other {α : Type} (t : Tbl α) {k k' : Nat} (v x : α) (h : k ≠ k') : Tbl.getD (Tbl.put t k v) k' x = Tbl.getD t k' x := by
  simp [Tbl.getD, Tbl.get?_put_other t v h]

/-- Reading a key after a deletion. -/
theorem Tbl.get?_del {α : Type} (t : Tbl α) (k k' : Nat) : Tbl.get? (Tbl.del t k) k' = if k = k' then none else Tbl.get? t k' := by
  induction t with
  | nil => simp [Tbl.del, Tbl.get?]
  | cons p r ih =>
    obtain ⟨a, w⟩ := p
    simp only [Tbl.del, List.filter] at ih ⊢
    by_cases ha : a = k
    · subst ha
      simp only [bne_self_eq_false, ih, Tbl.get?]
      split <;> rfl
    · have : (a != k) = true := by simp [ha]
      simp only [this, Tbl.get?, ih]
      split
      · subst_vars; rw [if_neg]; intro h; simp_all
      · rfl

/-- A write keeps the canonical form. -/
theorem Tbl.sorted_put {α : Type} (t : Tbl α) (k : Nat) (v : α) (h : Tbl.sorted t = true) : Tbl.sorted (Tbl.put t k v) = true := by
  have least : ∀ (r : Tbl α) (m : Nat), m < k → (r.all fun p => decide (m < p.1)) = true → ((Tbl.put r k v).all fun p => decide (m < p.1)) = true := by
    intro r m hm
    induction r with
    | nil => intro _; simp [Tbl.put, hm]
    | cons p r ih =>
      obtain ⟨a, w⟩ := p
      intro hr
      simp only [List.all_cons, Bool.and_eq_true, decide_eq_true_eq] at hr
      simp only [Tbl.put]
      split
      · simp [hm, hr.2]
      · split
        · simp [hm, hr.1, hr.2]
        · simp [hr.1, ih hr.2]
  induction t with
  | nil => simp [Tbl.put, Tbl.sorted]
  | cons p r ih =>
    obtain ⟨a, w⟩ := p
    simp only [Tbl.sorted, Bool.and_eq_true] at h
    simp only [Tbl.put]
    split
    · rename_i hk; subst hk; simp [Tbl.sorted, h.1, h.2]
    · split
      · rename_i hk
        simp only [Tbl.sorted, Bool.and_eq_true, List.all_cons, decide_eq_true_eq]
        refine ⟨⟨hk, ?_⟩, h.1, h.2⟩
        rw [List.all_eq_true] at h ⊢
        intro x hx
        have := h.1 x hx
        simp only [decide_eq_true_eq] at this ⊢
        omega
      · rename_i h1 h2
        simp only [Tbl.sorted, Bool.and_eq_true]
        exact ⟨least r a (by omega) h.1, ih h.2⟩

/-- A deletion keeps the canonical form. -/
theorem Tbl.sorted_del {α : Type} (t : Tbl α) (k : Nat) (h : Tbl.sorted t = true) : Tbl.sorted (Tbl.del t k) = true := by
  induction t with
  | nil => rfl
  | cons p r ih =>
    obtain ⟨a, w⟩ := p
    simp only [Tbl.sorted, Bool.and_eq_true] at h
    simp only [Tbl.del, List.filter]
    split
    · simp only [Tbl.sorted, Bool.and_eq_true]
      refine ⟨?_, ih h.2⟩
      rw [List.all_eq_true] at h ⊢
      intro x hx
      exact h.1 x (List.mem_filter.1 hx).1
    · exact ih h.2

end Sys2Proof
end

