-- ==== Sys2Proof/Laws/Ops.lean ====
section
/-! SUPPORT. The shared operations, each with what it can change: register words, completions, fault messages, events, handles. -/

namespace Sys2Proof.Machine

/-! ### Register words -/

@[simp] theorem Dev.word_setWord_same (d : Dev) (off : Nat) (w : Word) : (d.setWord off w).word off = w := by
  simp [Dev.word, Dev.setWord]

theorem Dev.word_setWord_other (d : Dev) {off off' : Nat} (w : Word) (h : off ≠ off') : (d.setWord off w).word off' = d.word off' := by
  simp [Dev.word, Dev.setWord, Tbl.getD_put_other _ _ _ h]

theorem Dev.word_setWord (d : Dev) (off off' : Nat) (w : Word) : (d.setWord off w).word off' = if off = off' then w else d.word off' := by
  split
  · subst_vars; simp
  · exact d.word_setWord_other w ‹_›

theorem Dev.word_set_other (d : Dev) (f : Fld) (v : Nat) {off : Nat} (h : f.off ≠ off) : (d.set f v).word off = d.word off :=
  d.word_setWord_other _ h

theorem Dev.word_count_other (d : Dev) {off off' : Nat} (n : Nat) (h : off ≠ off') : (d.count off n).word off' = d.word off' :=
  d.word_setWord_other _ h

/-! ### What serving a command can change -/

namespace Dev

theorem unitsKept.refl (d : Dev) : d.unitsKept d := rfl

theorem unitsKept.trans {d d1 d2 : Dev} (h1 : d.unitsKept d1) (h2 : d1.unitsKept d2) : d.unitsKept d2 := by
  unfold unitsKept at *
  rw [h1] at h2
  exact h2

theorem unitsKept_setWord (d : Dev) (off : Nat) (w : Word) : d.unitsKept (d.setWord off w) := rfl

theorem unitsKept_set (d : Dev) (f : Fld) (v : Nat) : d.unitsKept (d.set f v) := rfl

theorem unitsKept_count (d : Dev) (off n : Nat) : d.unitsKept (d.count off n) := rfl

theorem unitsKept_emit (d : Dev) (o : Output) : d.unitsKept (d.emit o) := rfl

theorem unitsKept_setRing (d : Dev) (r : Nat) (x : Ring) : d.unitsKept (d.setRing r x) := rfl

/-- A fault message goes into a queue, or into the newest of 8 (R271). -/
theorem unitsKept_pushFault (d : Dev) (m : FaultMsg) : d.unitsKept (d.pushFault m) := by
  unfold pushFault; simp only []; split <;> rfl

theorem unitsKept_sendFault (d : Dev) (s k : Nat) (cls : FClass) (a : Nat) : d.unitsKept (d.sendFault s k cls a) := unitsKept_pushFault d _

/-- An event goes into the FIFO, or is counted as lost (R296). -/
theorem unitsKept_event (d : Dev) (code : Nat) (b : Option Nat) (p : List Byte) : d.unitsKept (d.event code b p) := by
  unfold event; split <;> rfl

theorem unitsKept_eventLimited (d : Dev) (code : Nat) (f : List (Nat × Nat)) : d.unitsKept (d.eventLimited code f) := unitsKept_event d _ _ _

/-- A vector is sent, or becomes a pending bit (R267). -/
theorem unitsKept_sendVector (d : Dev) (v : Nat) : d.unitsKept (d.sendVector v) := by
  unfold sendVector; split <;> rfl

theorem unitsKept_ringIrqDue (d : Dev) (r : Nat) (n : Bool) : d.unitsKept (d.ringIrqDue r n) := by
  unfold ringIrqDue; simp only []; split
  · exact (unitsKept_setRing d r _).trans (unitsKept_sendVector _ _)
  · rfl

theorem unitsKept_ringIrq (d : Dev) (r : Nat) (n : Bool) : d.unitsKept (d.ringIrq r n) :=
  (unitsKept_setRing d r _).trans (unitsKept_ringIrqDue _ _ _)

theorem unitsKept_postRing (d : Dev) (r : Nat) (tag : Word) (n : Bool) (st : Status) (a b : Nat) : d.unitsKept (d.postRing r tag n st a b) := by
  unfold postRing; simp only []; split
  · rfl
  · split
    · exact unitsKept.trans (d1 := (d.setRing r _).emit _) rfl (unitsKept_ringIrq _ _ _)
    · exact unitsKept.trans (d1 := ((d.setRing r _).emit _).emit _) rfl (unitsKept_ringIrq _ _ _)

/-- A completion reaches its ring, its response or the start-up list, and nothing else (R225, R222, R345). -/
theorem unitsKept_post (d : Dev) (src : Source) (e : Entry) (tag : Word) (n : Bool) (st : Status) (a b : Nat) :
    d.unitsKept (d.post src e tag n st a b) := by
  unfold post; split
  · rfl
  · cases src with
    | ring r => exact unitsKept_postRing d r tag n st a b
    | inband => rfl
    | list =>
      simp only []
      split
      · rfl
      · exact (unitsKept_eventLimited d _ _).trans (unitsKept_emit _ _)

theorem unitsKept_internalReport (d : Dev) (tag : Word) (op : Nat) (st : Status) (s : Bool) : d.unitsKept (d.internalReport tag op st s) := by
  unfold internalReport; split
  · simp only []; split
    · exact unitsKept_eventLimited _ _ _
    · exact (unitsKept_eventLimited _ _ _).trans (unitsKept_sendFault _ _ _ _ _)
  · rfl

/-- A command in progress that ends touches no unit of the device (R233, R238). -/
theorem unitsKept_finishAs (d : Dev) (t : Ticket) (st : Status) (a b : Nat) (s : Bool) : d.unitsKept (d.finishAs t st a b s) := by
  unfold finishAs; simp only []
  refine unitsKept.trans (d1 := { d with cmd := { d.cmd with inProgress := d.cmd.inProgress.filter fun x => x.cid != t.cid } }) rfl ?_
  split
  · exact (unitsKept_count _ _ _).trans (unitsKept_internalReport _ _ _ _ _)
  · exact (unitsKept_post _ _ _ _ _ _ _ _).trans (unitsKept_internalReport _ _ _ _ _)

theorem unitsKept_finish (d : Dev) (t : Ticket) (st : Status) (a b : Nat) : d.unitsKept (d.finish t st a b) := unitsKept_finishAs d t st a b true

theorem unitsKept_foldl {α : Type} (f : Dev → α → Dev) (hf : ∀ (d : Dev) (a : α), d.unitsKept (f d a)) (l : List α) (d : Dev) : d.unitsKept (l.foldl f d) := by
  induction l generalizing d with
  | nil => rfl
  | cons a r ih => exact (hf d a).trans (ih _)

theorem unitsKept_endStale (d : Dev) (h : Nat) : d.unitsKept (d.endStale h) :=
  unitsKept_foldl _ (fun d t => unitsKept_finish d t _ _ _) _ d

theorem unitsKept_finishWait (d : Dev) (w : Wait) (st : Status) (a b : Nat) : d.unitsKept (d.finishWait w st a b) :=
  unitsKept_foldl _ (fun d t => unitsKept_finishAs d t _ _ _ _) _ d

theorem unitsKept_popCmd (d : Dev) (src : Source) : d.unitsKept (d.popCmd src) := by
  unfold popCmd; cases src with
  | ring r => simp only []; split <;> rfl
  | inband => rfl
  | list => rfl

theorem unitsKept_countCommand (d : Dev) (e : Entry) : d.unitsKept (d.countCommand e) := by
  unfold countCommand; simp only []; split <;> rfl

/-- Taking an entry touches no unit. -/
theorem unitsKept_taken (d : Dev) (src : Source) (e : Entry) : d.unitsKept (d.taken src e) :=
  ((unitsKept_popCmd d src).trans (unitsKept_countCommand _ e)).trans rfl

/-- Completing, or taking a place among the commands in progress, touches no unit. -/
theorem unitsKept_answer (r : Dev × Res) (c : Cmd) (cid : Nat) : r.1.unitsKept (Dev.answer r c cid) := by
  unfold Dev.answer
  cases r.2 with
  | done st a b s => exact (unitsKept_post _ _ _ _ _ _ _ _).trans (unitsKept_internalReport _ _ _ _ _)
  | wait w a b => rfl

/-- Data for HOST_ADDR, with its completion, touch no unit (R234). -/
theorem unitsKept_toHost (d : Dev) (c : Cmd) (a : Nat) (b : List Byte) (ok : Res) : d.unitsKept (d.toHost c a b ok).1 := by
  unfold toHost; split
  · rfl
  · split
    · exact unitsKept_sendFault _ _ _ _ _
    · rfl

/-! What is kept, field by field. -/

section
variable {d d1 : Dev} (h : d.unitsKept d1)
include h

theorem unitsKept.outs : d1.outs = d.outs := by rw [h]
theorem unitsKept.gens : d1.gens = d.gens := by rw [h]
theorem unitsKept.baseGen : d1.baseGen = d.baseGen := by rw [h]
theorem unitsKept.glb : d1.glb = d.glb := by rw [h]
theorem unitsKept.ms : d1.ms = d.ms := by rw [h]
theorem unitsKept.tick : d1.tick = d.tick := by rw [h]
theorem unitsKept.time : d1.time = d.time := by rw [h]
theorem unitsKept.now : d1.now = d.now := by rw [h]

/-- Handles mean what they meant. -/
theorem unitsKept.gen (ty idx : Nat) : d1.gen ty idx = d.gen ty idx := by
  unfold Dev.gen; rw [h.gens, h.baseGen]

/-- Outputs are as they were. -/
theorem unitsKept.outOf (o : Nat) : d1.outOf o = d.outOf o := by
  unfold Dev.outOf; rw [h.outs]

end

end Dev

/-! ### Handles -/

/-- A destroy steps the generation of its object, modulo 256 (R242). -/
theorem Dev.gen_bumpGen (d : Dev) (ty idx : Nat) : (d.bumpGen ty idx).gen ty idx = (d.gen ty idx + 1) % 256 := by
  simp only [Dev.gen, Dev.bumpGen, Tbl.getD_put_same]; omega

/-- And of no other. -/
theorem Dev.gen_bumpGen_other (d : Dev) {ty idx ty' idx' : Nat} (h : ty * 65536 + idx ≠ ty' * 65536 + idx') :
    (d.bumpGen ty idx).gen ty' idx' = d.gen ty' idx' := by
  simp only [Dev.gen, Dev.bumpGen, Tbl.getD_put_other _ _ _ h]

/-- What a handle that passes its check meets (R243). -/
theorem Dev.checkHandle_none {d : Dev} {h ty : Nat} {isFree : Dev → Nat → Bool} {wrong : Status} (hc : d.checkHandle h ty isFree wrong = none) :
    h ≠ 0 ∧ h / 2 ^ 24 = ty ∧ hIdx h < typeCount ty ∧ h / 2 ^ 16 % 256 = d.gen ty (hIdx h) ∧ isFree d (hIdx h) = false := by
  unfold Dev.checkHandle at hc
  by_cases h1 : h = 0
  · rw [if_pos h1] at hc; cases hc
  · rw [if_neg h1] at hc
    by_cases h2 : h / 2 ^ 24 = ty
    · rw [if_neg (not_not_intro h2)] at hc
      by_cases h3 : typeCount ty ≤ hIdx h
      · rw [if_pos h3] at hc; cases hc
      · rw [if_neg h3] at hc
        by_cases h4 : h / 2 ^ 16 % 256 = d.gen ty (hIdx h)
        · rw [if_neg (not_not_intro h4)] at hc
          cases h5 : isFree d (hIdx h)
          · exact ⟨h1, h2, by omega, h4, rfl⟩
          · rw [if_pos h5] at hc; cases hc
        · rw [if_pos h4] at hc; cases hc
    · rw [if_pos h2] at hc; cases hc

/-- A handle of another generation is stale (R243). -/
theorem Dev.checkHandle_stale {d : Dev} {h ty : Nat} (isFree : Dev → Nat → Bool) (wrong : Status) (h1 : h ≠ 0) (h2 : h / 2 ^ 24 = ty)
    (h3 : hIdx h < typeCount ty) (h4 : h / 2 ^ 16 % 256 ≠ d.gen ty (hIdx h)) : d.checkHandle h ty isFree wrong = some .staleHandle := by
  unfold Dev.checkHandle
  rw [if_neg h1, if_neg (not_not_intro h2), if_neg (by omega), if_pos h4]

/-- A command that no check stops has a good handle (R241, R243). -/
theorem Dev.handle_of_reject_none {d : Dev} {spec : CmdSpec} {c : Cmd} (h : d.reject spec c = none) (ht : spec.ty ≠ 0) :
    d.checkHandle c.handle spec.ty spec.isFree .badHandle = none := by
  unfold Dev.reject at h
  split at h
  · cases h
  · cases hx : d.checkHandle c.handle spec.ty spec.isFree .badHandle with
    | none => rfl
    | some st => simp [hx] at h

/-! ### The probe -/

/-- The sum of the first values of a probe stays within what the values left can take back. -/
theorem probeSum_bound (signs m : Nat) : ∀ i, i ≤ m - m % 2 → (probeSum signs m i).natAbs ≤ m - m % 2 - i ∧ ((probeSum signs m i).natAbs + i) % 2 = 0
  | 0, _ => by simp [probeSum]
  | i + 1, h => by
    obtain ⟨h1, h2⟩ := probeSum_bound signs m i (by omega)
    simp only [probeSum, probeStep]
    split
    · omega
    · split
      · split <;> omega
      · split <;> omega

/-- The values of a probe sum to zero over its window (R82). -/
theorem probeSum_whole (signs m : Nat) : probeSum signs m (m - m % 2) = 0 := by
  have := probeSum_bound signs m (m - m % 2) (Nat.le_refl _)
  omega

end Sys2Proof.Machine
end

