-- ==== Sys2Proof/Laws/PerInstr.lean ====
section
/-! SUPPORT. Statements made per row of the table. `Unencoded`: the table gives no row bits, so no word spells it. -/

namespace Sys2Proof.Laws.Unencoded

/-- No word of any length spells the row. -/
def Statement (i : Instr) : Prop := ∀ nbits w : Nat, decodeTableWord nbits w ≠ some i

theorem nop (src : Source) : Statement (.nop src) := fun _ _ h => nomatch h
theorem getInfo (src : Source) : Statement (.getInfo src) := fun _ _ h => nomatch h
theorem modeRequest (src : Source) : Statement (.modeRequest src) := fun _ _ h => nomatch h
theorem configDigest (src : Source) : Statement (.configDigest src) := fun _ _ h => nomatch h
theorem regRead (src : Source) : Statement (.regRead src) := fun _ _ h => nomatch h
theorem regWrite (src : Source) : Statement (.regWrite src) := fun _ _ h => nomatch h
theorem chCreate (src : Source) : Statement (.chCreate src) := fun _ _ h => nomatch h
theorem chDestroy (src : Source) : Statement (.chDestroy src) := fun _ _ h => nomatch h
theorem chConfig (src : Source) : Statement (.chConfig src) := fun _ _ h => nomatch h
theorem chStart (src : Source) : Statement (.chStart src) := fun _ _ h => nomatch h
theorem chStop (src : Source) : Statement (.chStop src) := fun _ _ h => nomatch h
theorem chPhase (src : Source) : Statement (.chPhase src) := fun _ _ h => nomatch h
theorem chStatus (src : Source) (dmaOk : Bool) : Statement (.chStatus src dmaOk) := fun _ _ h => nomatch h
theorem chQuery (src : Source) : Statement (.chQuery src) := fun _ _ h => nomatch h
theorem msConfig (src : Source) : Statement (.msConfig src) := fun _ _ h => nomatch h
theorem msStart (src : Source) : Statement (.msStart src) := fun _ _ h => nomatch h
theorem msStop (src : Source) : Statement (.msStop src) := fun _ _ h => nomatch h
theorem bandSurvey (src : Source) : Statement (.bandSurvey src) := fun _ _ h => nomatch h
theorem msRampLoad (src : Source) (dma : Option (List Byte)) : Statement (.msRampLoad src dma) := fun _ _ h => nomatch h
theorem msRampStart (src : Source) : Statement (.msRampStart src) := fun _ _ h => nomatch h
theorem msRampAbort (src : Source) : Statement (.msRampAbort src) := fun _ _ h => nomatch h
theorem refMonCreate (src : Source) : Statement (.refMonCreate src) := fun _ _ h => nomatch h
theorem refMonDestroy (src : Source) : Statement (.refMonDestroy src) := fun _ _ h => nomatch h
theorem dpllConfig (src : Source) : Statement (.dpllConfig src) := fun _ _ h => nomatch h
theorem dpllSelect (src : Source) : Statement (.dpllSelect src) := fun _ _ h => nomatch h
theorem dpllHoldover (src : Source) : Statement (.dpllHoldover src) := fun _ _ h => nomatch h
theorem holdModelGet (src : Source) (dmaOk : Bool) : Statement (.holdModelGet src dmaOk) := fun _ _ h => nomatch h
theorem holdModelSet (src : Source) : Statement (.holdModelSet src) := fun _ _ h => nomatch h
theorem timeSet (src : Source) : Statement (.timeSet src) := fun _ _ h => nomatch h
theorem timeAdjust (src : Source) : Statement (.timeAdjust src) := fun _ _ h => nomatch h
theorem timeGet (src : Source) (dmaOk : Bool) : Statement (.timeGet src dmaOk) := fun _ _ h => nomatch h
theorem timeEpochSet (src : Source) : Statement (.timeEpochSet src) := fun _ _ h => nomatch h
theorem ptpConfig (src : Source) : Statement (.ptpConfig src) := fun _ _ h => nomatch h
theorem ptpPortConfig (src : Source) : Statement (.ptpPortConfig src) := fun _ _ h => nomatch h
theorem ptpStatus (src : Source) (dmaOk : Bool) : Statement (.ptpStatus src dmaOk) := fun _ _ h => nomatch h
theorem ppsConfig (src : Source) : Statement (.ppsConfig src) := fun _ _ h => nomatch h
theorem tickStatus (src : Source) (dmaOk : Bool) : Statement (.tickStatus src dmaOk) := fun _ _ h => nomatch h
theorem tickPeriodSet (src : Source) : Statement (.tickPeriodSet src) := fun _ _ h => nomatch h
theorem tickSchedSet (src : Source) : Statement (.tickSchedSet src) := fun _ _ h => nomatch h
theorem tickWait (src : Source) : Statement (.tickWait src) := fun _ _ h => nomatch h
theorem shaftCreate (src : Source) : Statement (.shaftCreate src) := fun _ _ h => nomatch h
theorem shaftDestroy (src : Source) : Statement (.shaftDestroy src) := fun _ _ h => nomatch h
theorem shaftConfig (src : Source) : Statement (.shaftConfig src) := fun _ _ h => nomatch h
theorem shaftStart (src : Source) : Statement (.shaftStart src) := fun _ _ h => nomatch h
theorem shaftStop (src : Source) : Statement (.shaftStop src) := fun _ _ h => nomatch h
theorem shaftSpeed (src : Source) : Statement (.shaftSpeed src) := fun _ _ h => nomatch h
theorem shaftTrim (src : Source) : Statement (.shaftTrim src) := fun _ _ h => nomatch h
theorem shaftRetune (src : Source) : Statement (.shaftRetune src) := fun _ _ h => nomatch h
theorem shaftStatus (src : Source) (dmaOk : Bool) : Statement (.shaftStatus src dmaOk) := fun _ _ h => nomatch h
theorem profCreate (src : Source) : Statement (.profCreate src) := fun _ _ h => nomatch h
theorem profDestroy (src : Source) : Statement (.profDestroy src) := fun _ _ h => nomatch h
theorem profLoad (src : Source) (dma : Option (List Byte)) : Statement (.profLoad src dma) := fun _ _ h => nomatch h
theorem profRead (src : Source) (dmaOk : Bool) : Statement (.profRead src dmaOk) := fun _ _ h => nomatch h
theorem folCreate (src : Source) : Statement (.folCreate src) := fun _ _ h => nomatch h
theorem folDestroy (src : Source) : Statement (.folDestroy src) := fun _ _ h => nomatch h
theorem folConfig (src : Source) : Statement (.folConfig src) := fun _ _ h => nomatch h
theorem folStart (src : Source) : Statement (.folStart src) := fun _ _ h => nomatch h
theorem folStop (src : Source) : Statement (.folStop src) := fun _ _ h => nomatch h
theorem folOffset (src : Source) : Statement (.folOffset src) := fun _ _ h => nomatch h
theorem folLimits (src : Source) : Statement (.folLimits src) := fun _ _ h => nomatch h
theorem folClear (src : Source) : Statement (.folClear src) := fun _ _ h => nomatch h
theorem folStatus (src : Source) (dmaOk : Bool) : Statement (.folStatus src dmaOk) := fun _ _ h => nomatch h
theorem camCreate (src : Source) : Statement (.camCreate src) := fun _ _ h => nomatch h
theorem camDestroy (src : Source) : Statement (.camDestroy src) := fun _ _ h => nomatch h
theorem camLoad (src : Source) (dma : Option (List Byte)) : Statement (.camLoad src dma) := fun _ _ h => nomatch h
theorem camRead (src : Source) (dmaOk : Bool) : Statement (.camRead src dmaOk) := fun _ _ h => nomatch h
theorem grpCreate (src : Source) : Statement (.grpCreate src) := fun _ _ h => nomatch h
theorem grpDestroy (src : Source) : Statement (.grpDestroy src) := fun _ _ h => nomatch h
theorem grpConfig (src : Source) : Statement (.grpConfig src) := fun _ _ h => nomatch h
theorem grpLatency (src : Source) : Statement (.grpLatency src) := fun _ _ h => nomatch h
theorem grpStatus (src : Source) (dmaOk : Bool) : Statement (.grpStatus src dmaOk) := fun _ _ h => nomatch h
theorem calRun (src : Source) : Statement (.calRun src) := fun _ _ h => nomatch h
theorem calAbort (src : Source) : Statement (.calAbort src) := fun _ _ h => nomatch h
theorem calStatus (src : Source) : Statement (.calStatus src) := fun _ _ h => nomatch h
theorem calSave (src : Source) : Statement (.calSave src) := fun _ _ h => nomatch h
theorem calRestore (src : Source) : Statement (.calRestore src) := fun _ _ h => nomatch h
theorem calSlotInfo (src : Source) : Statement (.calSlotInfo src) := fun _ _ h => nomatch h
theorem evtRead (src : Source) (dmaOk : Bool) : Statement (.evtRead src dmaOk) := fun _ _ h => nomatch h
theorem storeInfo (src : Source) (dmaOk : Bool) : Statement (.storeInfo src dmaOk) := fun _ _ h => nomatch h
theorem storeFormat (src : Source) : Statement (.storeFormat src) := fun _ _ h => nomatch h
theorem streamCreate (src : Source) : Statement (.streamCreate src) := fun _ _ h => nomatch h
theorem streamDestroy (src : Source) : Statement (.streamDestroy src) := fun _ _ h => nomatch h
theorem streamConfig (src : Source) : Statement (.streamConfig src) := fun _ _ h => nomatch h
theorem streamStart (src : Source) : Statement (.streamStart src) := fun _ _ h => nomatch h
theorem streamStop (src : Source) : Statement (.streamStop src) := fun _ _ h => nomatch h
theorem streamTrigger (src : Source) : Statement (.streamTrigger src) := fun _ _ h => nomatch h
theorem storeRead (src : Source) (dmaOk : Bool) : Statement (.storeRead src dmaOk) := fun _ _ h => nomatch h
theorem fltRead (src : Source) (dmaOk : Bool) : Statement (.fltRead src dmaOk) := fun _ _ h => nomatch h
theorem fltAck (src : Source) : Statement (.fltAck src) := fun _ _ h => nomatch h
theorem fltReaction (src : Source) : Statement (.fltReaction src) := fun _ _ h => nomatch h
theorem fltInject (src : Source) : Statement (.fltInject src) := fun _ _ h => nomatch h
theorem fltInjectClear (src : Source) : Statement (.fltInjectClear src) := fun _ _ h => nomatch h
theorem pwrDomainSet (src : Source) : Statement (.pwrDomainSet src) := fun _ _ h => nomatch h
theorem pwrStatus (src : Source) : Statement (.pwrStatus src) := fun _ _ h => nomatch h
theorem snapCapture (src : Source) : Statement (.snapCapture src) := fun _ _ h => nomatch h
theorem snapRead (src : Source) (dmaOk : Bool) : Statement (.snapRead src dmaOk) := fun _ _ h => nomatch h
theorem snapRelease (src : Source) : Statement (.snapRelease src) := fun _ _ h => nomatch h
theorem lineStartAll (src : Source) : Statement (.lineStartAll src) := fun _ _ h => nomatch h
theorem lineStopAll (src : Source) : Statement (.lineStopAll src) := fun _ _ h => nomatch h
theorem entryFetch (ring : Nat) (dma : FetchDma) : Statement (.entryFetch ring dma) := fun _ _ h => nomatch h
theorem cmdSqTail (ring : Nat) (be : BitVec 4) (val : Word) : Statement (.cmdSqTail ring be val) := fun _ _ h => nomatch h
theorem cmdCqHead (ring : Nat) (be : BitVec 4) (val : Word) : Statement (.cmdCqHead ring be val) := fun _ _ h => nomatch h
theorem ringEn (be : BitVec 4) (val : Word) : Statement (.ringEn be val) := fun _ _ h => nomatch h
theorem ringDrained (ring : Nat) : Statement (.ringDrained ring) := fun _ _ h => nomatch h
theorem inBandCommandFrame (frame : InBandFrame) : Statement (.inBandCommandFrame frame) := fun _ _ h => nomatch h
theorem registerWrite (req : Requester) (tlp : WriteTlp) : Statement (.registerWrite req tlp) := fun _ _ h => nomatch h
theorem guardPairTimeout (req : Requester) : Statement (.guardPairTimeout req) := fun _ _ h => nomatch h
theorem glbModeReq (req : Requester) (compl : Word) : Statement (.glbModeReq req compl) := fun _ _ h => nomatch h
theorem glbSoftReset (req : Requester) (compl : Word) : Statement (.glbSoftReset req compl) := fun _ _ h => nomatch h
theorem warmResetDone : Statement .warmResetDone := fun _ _ h => nomatch h
theorem pwrDomainCtrl (req : Requester) (compl : Word) : Statement (.pwrDomainCtrl req compl) := fun _ _ h => nomatch h
theorem fltInjMode (req : Requester) (compl : Word) : Statement (.fltInjMode req compl) := fun _ _ h => nomatch h
theorem forceSet (req : Requester) (source kind : Nat) : Statement (.forceSet req source kind) := fun _ _ h => nomatch h
theorem forceClear (req : Requester) (source kind : Nat) : Statement (.forceClear req source kind) := fun _ _ h => nomatch h
theorem forceClearAll (req : Requester) : Statement (.forceClearAll req) := fun _ _ h => nomatch h
theorem cbArm (req : Requester) : Statement (.cbArm req) := fun _ _ h => nomatch h
theorem cbCancel (req : Requester) : Statement (.cbCancel req) := fun _ _ h => nomatch h
theorem fltAckWrite (req : Requester) (be : BitVec 4) (val : Word) : Statement (.fltAckWrite req be val) := fun _ _ h => nomatch h
theorem storeErase (req : Requester) (compl : Word) : Statement (.storeErase req compl) := fun _ _ h => nomatch h
theorem evtClayClear (req : Requester) (compl : Word) : Statement (.evtClayClear req compl) := fun _ _ h => nomatch h
theorem clayClearDone (ok : Bool) : Statement (.clayClearDone ok) := fun _ _ h => nomatch h
theorem linkKey (req : Requester) (slot word : Nat) (compl : Word) : Statement (.linkKey req slot word compl) := fun _ _ h => nomatch h
theorem linkKeyCtrl (req : Requester) (compl : Word) : Statement (.linkKeyCtrl req compl) := fun _ _ h => nomatch h
theorem capture (req : Requester) (be : BitVec 4) (val : Word) : Statement (.capture req be val) := fun _ _ h => nomatch h
theorem msCtrlEn (req : Requester) (ms : Nat) (be : BitVec 4) (val : Word) : Statement (.msCtrlEn req ms be val) := fun _ _ h => nomatch h
theorem msRampCtrlStart (req : Requester) (ms : Nat) (be : BitVec 4) (val : Word) : Statement (.msRampCtrlStart req ms be val) := fun _ _ h => nomatch h
theorem msRampCtrlAbort (req : Requester) (ms : Nat) (be : BitVec 4) (val : Word) : Statement (.msRampCtrlAbort req ms be val) := fun _ _ h => nomatch h
theorem outCtrlEn (req : Requester) (out : Nat) (be : BitVec 4) (val : Word) : Statement (.outCtrlEn req out be val) := fun _ _ h => nomatch h
theorem linkCtrlEn (req : Requester) (be : BitVec 4) (val : Word) : Statement (.linkCtrlEn req be val) := fun _ _ h => nomatch h
theorem storeCtrlEn (req : Requester) (be : BitVec 4) (val : Word) : Statement (.storeCtrlEn req be val) := fun _ _ h => nomatch h
theorem stoPerstN : Statement .stoPerstN := fun _ _ h => nomatch h
theorem storeMounted (ident : NvmeIdent) : Statement (.storeMounted ident) := fun _ _ h => nomatch h
theorem storeRelease (req : Requester) (be : BitVec 4) (val : Word) : Statement (.storeRelease req be val) := fun _ _ h => nomatch h
theorem fieldCtrlEn (req : Requester) (field : Nat) (be : BitVec 4) (val : Word) : Statement (.fieldCtrlEn req field be val) := fun _ _ h => nomatch h
theorem cntClear (req : Requester) (be : BitVec 4) (val : Word) : Statement (.cntClear req be val) := fun _ _ h => nomatch h
theorem sampEn (req : Requester) (be : BitVec 4) (val : Word) : Statement (.sampEn req be val) := fun _ _ h => nomatch h
theorem checkerTest (req : Requester) (be : BitVec 4) (val : Word) : Statement (.checkerTest req be val) := fun _ _ h => nomatch h
theorem checkerTestDone (missed falseFlags : Nat) : Statement (.checkerTestDone missed falseFlags) := fun _ _ h => nomatch h
theorem smbusProcessCall (code : Nat) (bytes : List Byte) (readExtra : Bool) : Statement (.smbusProcessCall code bytes readExtra) := fun _ _ h => nomatch h
theorem smbusTimeout : Statement .smbusTimeout := fun _ _ h => nomatch h
theorem powerGood (rstHigh : Bool) (bootSel : Nat) : Statement (.powerGood rstHigh bootSel) := fun _ _ h => nomatch h
theorem supplyFall : Statement .supplyFall := fun _ _ h => nomatch h
theorem rstNAssert (lowNs : Nat) : Statement (.rstNAssert lowNs) := fun _ _ h => nomatch h
theorem rstNRelease (bootSel : Nat) : Statement (.rstNRelease bootSel) := fun _ _ h => nomatch h
theorem perstN (lowNs : Nat) : Statement (.perstN lowNs) := fun _ _ h => nomatch h
theorem hpeLinkDown : Statement .hpeLinkDown := fun _ _ h => nomatch h
theorem railCheck (good : BitVec 17) : Statement (.railCheck good) := fun _ _ h => nomatch h
theorem resetRelease : Statement .resetRelease := fun _ _ h => nomatch h
theorem imageCopy (flash : Option FlashInfo) : Statement (.imageCopy flash) := fun _ _ h => nomatch h
theorem signatureCheck (header body : Option (List Byte)) : Statement (.signatureCheck header body) := fun _ _ h => nomatch h
theorem sramInitialisation (cfgA cfgB : Option (List Byte)) : Statement (.sramInitialisation cfgA cfgB) := fun _ _ h => nomatch h
theorem corePllLock : Statement .corePllLock := fun _ _ h => nomatch h
theorem startUpList : Statement .startUpList := fun _ _ h => nomatch h
theorem referenceQualification : Statement .referenceQualification := fun _ _ h => nomatch h
theorem timeAcquisition : Statement .timeAcquisition := fun _ _ h => nomatch h
theorem initialCalibration : Statement .initialCalibration := fun _ _ h => nomatch h
theorem oscinLost : Statement .oscinLost := fun _ _ h => nomatch h
theorem oscinReturned : Statement .oscinReturned := fun _ _ h => nomatch h
theorem corePllLost : Statement .corePllLost := fun _ _ h => nomatch h
theorem corePllRelocked : Statement .corePllRelocked := fun _ _ h => nomatch h
theorem railUv (rail mv mw : Nat) : Statement (.railUv rail mv mw) := fun _ _ h => nomatch h
theorem railOv (rail mv mw : Nat) : Statement (.railOv rail mv mw) := fun _ _ h => nomatch h
theorem tempConversion (sensor : Nat) (reading : Int) : Statement (.tempConversion sensor reading) := fun _ _ h => nomatch h
theorem tjHigh (sensor : Nat) : Statement (.tjHigh sensor) := fun _ _ h => nomatch h
theorem tjCrit (sensor : Nat) : Statement (.tjCrit sensor) := fun _ _ h => nomatch h
theorem domainSwitchStart : Statement .domainSwitchStart := fun _ _ h => nomatch h
theorem switchDone : Statement .switchDone := fun _ _ h => nomatch h
theorem switchFail : Statement .switchFail := fun _ _ h => nomatch h
theorem vddoLevel (bank mv : Nat) : Statement (.vddoLevel bank mv) := fun _ _ h => nomatch h
theorem lockGained (ms : Nat) (phErr : Int) : Statement (.lockGained ms phErr) := fun _ _ h => nomatch h
theorem lockLost (ms : Nat) (slip : Bool) (phErr : Int) : Statement (.lockLost ms slip phErr) := fun _ _ h => nomatch h
theorem msStartTimeout (ms : Nat) : Statement (.msStartTimeout ms) := fun _ _ h => nomatch h
theorem reacqTimeout (ms : Nat) : Statement (.reacqTimeout ms) := fun _ _ h => nomatch h
theorem msSettle (ms : Nat) : Statement (.msSettle ms) := fun _ _ h => nomatch h
theorem bypassSwitchDone (out : Nat) : Statement (.bypassSwitchDone out) := fun _ _ h => nomatch h
theorem highTimeLimit (out : Nat) : Statement (.highTimeLimit out) := fun _ _ h => nomatch h
theorem outGuard (pulse : GuardPulse) : Statement (.outGuard pulse) := fun _ _ h => nomatch h
theorem surveyDone (ms : Nat) (bands : List BandMeasure) : Statement (.surveyDone ms bands) := fun _ _ h => nomatch h
theorem rampSegmentEnd (ms : Nat) : Statement (.rampSegmentEnd ms) := fun _ _ h => nomatch h
theorem rampDone (ms : Nat) : Statement (.rampDone ms) := fun _ _ h => nomatch h
theorem channelStart (out : Nat) : Statement (.channelStart out) := fun _ _ h => nomatch h
theorem chStartTimeout (out : Nat) : Statement (.chStartTimeout out) := fun _ _ h => nomatch h
theorem channelStopped (out : Nat) : Statement (.channelStopped out) := fun _ _ h => nomatch h
theorem phaseSlewDone (out : Nat) : Statement (.phaseSlewDone out) := fun _ _ h => nomatch h
theorem activityFail (refin : Nat) : Statement (.activityFail refin) := fun _ _ h => nomatch h
theorem frequencyGate (refin : Nat) (ppb : Int) : Statement (.frequencyGate refin ppb) := fun _ _ h => nomatch h
theorem referenceSelection (ms : Nat) : Statement (.referenceSelection ms) := fun _ _ h => nomatch h
theorem dpllNarrow (ms : Nat) (phErr : Int) : Statement (.dpllNarrow ms phErr) := fun _ _ h => nomatch h
theorem dpllLocked (ms : Nat) (phErr : Int) : Statement (.dpllLocked ms phErr) := fun _ _ h => nomatch h
theorem steerLimit (ms : Nat) (correction : Int) : Statement (.steerLimit ms correction) := fun _ _ h => nomatch h
theorem modelValid (ms : Nat) : Statement (.modelValid ms) := fun _ _ h => nomatch h
theorem extTempTimeout (ms : Nat) : Statement (.extTempTimeout ms) := fun _ _ h => nomatch h
theorem calUpdate (ms : Nat) (steps : List (Nat × Int)) : Statement (.calUpdate ms steps) := fun _ _ h => nomatch h
theorem tempTrigger (ms : Nat) : Statement (.tempTrigger ms) := fun _ _ h => nomatch h
theorem precondCheck (ms : Nat) : Statement (.precondCheck ms) := fun _ _ h => nomatch h
theorem calRunTimeout (ms : Nat) : Statement (.calRunTimeout ms) := fun _ _ h => nomatch h
theorem calSaveComplete (readBackOk : Bool) : Statement (.calSaveComplete readBackOk) := fun _ _ h => nomatch h
theorem flashTimeout : Statement .flashTimeout := fun _ _ h => nomatch h
theorem tickBoundary : Statement .tickBoundary := fun _ _ h => nomatch h
theorem feedbackCutoff (unevaluated : List Nat) : Statement (.feedbackCutoff unevaluated) := fun _ _ h => nomatch h
theorem computeStart : Statement .computeStart := fun _ _ h => nomatch h
theorem mirrorLost (shaft : Nat) : Statement (.mirrorLost shaft) := fun _ _ h => nomatch h
theorem computeComplete (work : ComputeWork) : Statement (.computeComplete work) := fun _ _ h => nomatch h
theorem publishDeadline (endNs : Nat) : Statement (.publishDeadline endNs) := fun _ _ h => nomatch h
theorem gapWorkComplete (staged : Bool) : Statement (.gapWorkComplete staged) := fun _ _ h => nomatch h
theorem carriageFrameTransmit : Statement .carriageFrameTransmit := fun _ _ h => nomatch h
theorem backpressureTimeout : Statement .backpressureTimeout := fun _ _ h => nomatch h
theorem feedbackFrame (frame : FeedbackFrame) : Statement (.feedbackFrame frame) := fun _ _ h => nomatch h
theorem missRun (follower : Nat) : Statement (.missRun follower) := fun _ _ h => nomatch h
theorem goodRun (follower : Nat) : Statement (.goodRun follower) := fun _ _ h => nomatch h
theorem resyncCompare (follower : Nat) : Statement (.resyncCompare follower) := fun _ _ h => nomatch h
theorem latencyUpdate (group : Nat) : Statement (.latencyUpdate group) := fun _ _ h => nomatch h
theorem shaftStateFrame (frame : ShaftFrame) : Statement (.shaftStateFrame frame) := fun _ _ h => nomatch h
theorem egressReports (reports : List EgressReport) : Statement (.egressReports reports) := fun _ _ h => nomatch h
theorem reportMissing : Statement .reportMissing := fun _ _ h => nomatch h
theorem portStatus (mask : Nat) : Statement (.portStatus mask) := fun _ _ h => nomatch h
theorem ptpMessage (msg : PtpMessage) : Statement (.ptpMessage msg) := fun _ _ h => nomatch h
theorem ptpMessageInterval (port : Nat) (kind : PtpKind) : Statement (.ptpMessageInterval port kind) := fun _ _ h => nomatch h
theorem announceTimeout (port : Nat) : Statement (.announceTimeout port) := fun _ _ h => nomatch h
theorem ppsIn : Statement .ppsIn := fun _ _ h => nomatch h
theorem ppsInLost : Statement .ppsInLost := fun _ _ h => nomatch h
theorem ppsOut : Statement .ppsOut := fun _ _ h => nomatch h
theorem ppsOutFall : Statement .ppsOutFall := fun _ _ h => nomatch h
theorem slewDone : Statement .slewDone := fun _ _ h => nomatch h
theorem timeSyncUnit : Statement .timeSyncUnit := fun _ _ h => nomatch h
theorem timeEcho (echo : TimeEcho) : Statement (.timeEcho echo) := fun _ _ h => nomatch h
theorem pfcFrame (classes : BitVec 8) (quanta : List Nat) : Statement (.pfcFrame classes quanta) := fun _ _ h => nomatch h
theorem pauseExpiry (cls : Nat) : Statement (.pauseExpiry cls) := fun _ _ h => nomatch h
theorem linkUp : Statement .linkUp := fun _ _ h => nomatch h
theorem linkDown : Statement .linkDown := fun _ _ h => nomatch h
theorem faultMessage : Statement .faultMessage := fun _ _ h => nomatch h
theorem eccCorr (bank addr : Nat) : Statement (.eccCorr bank addr) := fun _ _ h => nomatch h
theorem eccUncorr (bank addr : Nat) : Statement (.eccUncorr bank addr) := fun _ _ h => nomatch h
theorem croakEdge : Statement .croakEdge := fun _ _ h => nomatch h
theorem firmwareHeartbeat : Statement .firmwareHeartbeat := fun _ _ h => nomatch h
theorem heartbeat : Statement .heartbeat := fun _ _ h => nomatch h
theorem newtException (core : Nat) (addr : Word) : Statement (.newtException core addr) := fun _ _ h => nomatch h
theorem stepSample (sample : StepSample) : Statement (.stepSample sample) := fun _ _ h => nomatch h
theorem mgmtLoad (meanUp maxUp : Bool) : Statement (.mgmtLoad meanUp maxUp) := fun _ _ h => nomatch h
theorem eventRecordWrite : Statement .eventRecordWrite := fun _ _ h => nomatch h
theorem clayProgram (ok : Bool) : Statement (.clayProgram ok) := fun _ _ h => nomatch h
theorem checkpoint (ok : Bool) : Statement (.checkpoint ok) := fun _ _ h => nomatch h
theorem segmentWrite (ok : Bool) : Statement (.segmentWrite ok) := fun _ _ h => nomatch h
theorem eventBlockTimer : Statement .eventBlockTimer := fun _ _ h => nomatch h
theorem nvmeTimeout : Statement .nvmeTimeout := fun _ _ h => nomatch h
theorem storeLinkDown : Statement .storeLinkDown := fun _ _ h => nomatch h
theorem storeRetrain (trained : Bool) : Statement (.storeRetrain trained) := fun _ _ h => nomatch h
theorem ftickPulse (field : Nat) : Statement (.ftickPulse field) := fun _ _ h => nomatch h
theorem ftickPulseEnd (field : Nat) : Statement (.ftickPulseEnd field) := fun _ _ h => nomatch h
theorem overcurrent (field : Nat) : Statement (.overcurrent field) := fun _ _ h => nomatch h
theorem registerRead (req : Requester) (tlp : ReadTlp) : Statement (.registerRead req tlp) := fun _ _ h => nomatch h
theorem interruptCoalescing (ring : Nat) : Statement (.interruptCoalescing ring) := fun _ _ h => nomatch h
theorem xon (cls : Nat) : Statement (.xon cls) := fun _ _ h => nomatch h
theorem activityPresent (refin : Nat) : Statement (.activityPresent refin) := fun _ _ h => nomatch h
theorem perstNRelease : Statement .perstNRelease := fun _ _ h => nomatch h
theorem hpeLinkUp : Statement .hpeLinkUp := fun _ _ h => nomatch h
theorem nvmeCompletion (ok : Bool) : Statement (.nvmeCompletion ok) := fun _ _ h => nomatch h
theorem ringOscillatorMeasurement (hz : Nat) : Statement (.ringOscillatorMeasurement hz) := fun _ _ h => nomatch h
theorem discardedFrame (cause : DiscardCause) : Statement (.discardedFrame cause) := fun _ _ h => nomatch h
theorem testAccessPort (op : TapOp) : Statement (.testAccessPort op) := fun _ _ h => nomatch h

end Sys2Proof.Laws.Unencoded
end

