-- ==== Sys2Proof/Laws/Registers.lean ====
section
/-! SUPPORT. What an accepted write of one register does, and what completes a guarded pair. -/

namespace Sys2Proof.Machine

theorem bar0_of_aligned {off : Nat} (h : off % 4 = 0) (hb : off < 2 ^ 20) : bar0 off = off := by
  unfold bar0
  rw [Nat.mod_eq_of_lt hb]
  omega

theorem Dev.reqOf_code_ne {d : Dev} {req : Requester} (h : req ≠ .smbus) : (d.reqOf req).code ≠ 6 := by
  cases req with
  | host => simp [Dev.reqOf]
  | ring r => simp only [Dev.reqOf]; omega
  | inband sa => simp [Dev.reqOf]
  | smbus => exact absurd rfl h

/-- A write of a register that is no part of a pair (R250, R254, R255). -/
theorem Dev.rowWrite_plain {d : Dev} {req : Requester} {off : Nat} {be : BitVec 4} {val : Word} {r : RegDesc}
    (h : d.takesWrite req off be val) (ha : off % 4 = 0) (hb : off < 2 ^ 20) (hr : findReg off = some r) (hg : gpBase off = none)
    (hlo : isLo off = false) (hhi : isHi off = false) (hw : r.writable &&& beMask be ≠ 0) :
    d.rowWrite req off be val = d.awaits req off be val (d.writeWord (d.reqOf req) ⟨off, beMask be, val⟩) := by
  obtain ⟨h1, h2, h3, h4, h5, h6, h7, h8⟩ := h
  have hthere : ¬ (0x20000 ≤ off ∧ off < 0x28000 ∧ d.chFree ((off - 0x20000) / 0x400) = true ∧ d.modeTakes (d.reqOf req) off = true) :=
    fun ⟨a, b, c, _⟩ => by simp [h8 a b] at c
  have hone : ¬ (be = 0 ∨ (d.reqOf req).code = 6) := fun x => x.elim h4 (Dev.reqOf_code_ne h3)
  unfold Dev.rowWrite
  rw [if_pos h1, bar0_of_aligned ha hb]
  unfold Dev.writeOne
  rw [if_neg hone, h2]
  dsimp only
  unfold Dev.writeFresh
  simp only [h5, hg, hr, Bool.not_true, Bool.false_eq_true, if_false]
  rw [if_neg hthere, if_neg (by simp [hlo]), if_neg (by simp [hhi])]
  unfold Dev.writeSet
  simp only [List.any_cons, List.any_nil, Bool.or_false, hr, Option.any_some, hw, ne_eq, not_false_eq_true, decide_true, Bool.not_true,
    Bool.false_eq_true, if_false, h6, List.flatMap_cons, List.flatMap_nil, List.append_nil, List.foldl_cons, List.foldl_nil, h7]
  rfl

/-- What an accepted write of a register without W1C and calibration fields acts on at once: the laid-over word, the bits, the value (R254). -/
theorem Dev.writeWord_plain {d : Dev} {req : Requester} {off : Nat} {be : BitVec 4} {val : Word} {r : RegDesc} (hr : findReg off = some r)
    (hc : r.bits .w1c = 0) (hk : ¬ (0x5000 ≤ off ∧ off < 0x6000)) (hm : beMask be &&& (r.bits .rw ||| r.bits .wo) ≠ 0) :
    d.writeWord (d.reqOf req) ⟨off, beMask be, val⟩ = d.writeNow off (d.overlaid req off be val) (beMask be) val := by
  have hcoef : (decide (0x5000 ≤ off) && decide (off < 0x6000)) = false := by
    simp only [Bool.and_eq_false_iff, decide_eq_false_iff_not]; omega
  have h0 : ∀ x : Word, ¬ (beMask be &&& (r.bits .rw ||| x) ||| beMask be &&& (0 : Word) ||| beMask be &&& r.bits .wo = 0) := by
    intro x hx
    apply hm
    ext i hi
    have := congrArg (fun w : Word => w.getLsbD i) hx
    simp at this ⊢
    simp only [BitVec.getLsbD, BitVec.getElem_eq_testBit_toNat] at *
    grind
  unfold Dev.writeWord Dev.overlaid
  simp only [hr, hc, hcoef, Bool.false_or, Option.map_some, Option.getD_some]
  rw [if_neg (h0 _)]
  have hall : ∀ x y : Word, x &&& ~~~(y &&& (beMask be &&& 0)) = x := by
    intro x y
    have h1 : y &&& (beMask be &&& (0 : Word)) = 0#32 := by simp
    rw [h1, BitVec.not_zero, BitVec.and_allOnes]
  rw [hall]

/-- An enabled first byte meets a word whose bit 0 is set. -/
theorem beMask_zero (be : BitVec 4) (h : be.getLsbD 0 = true) (w : Word) (hw : w.getLsbD 0 = true) : beMask be &&& w ≠ 0 := by
  intro hx
  have := congrArg (fun w : Word => w.getLsbD 0) hx
  simp [beMask, h] at this
  rw [BitVec.getLsbD_eq_getElem (by decide)] at hw; simp [this] at hw
/-- An enabled first byte has all its bits. -/
theorem beMask_bit (be : BitVec 4) (h : be.getLsbD 0 = true) (i : Nat) (hi : i < 8) : (beMask be).getLsbD i = true := by
  have : i = 0 ∨ i = 1 ∨ i = 2 ∨ i = 3 ∨ i = 4 ∨ i = 5 ∨ i = 6 ∨ i = 7 := by omega
  rcases this with rfl|rfl|rfl|rfl|rfl|rfl|rfl|rfl <;> simp [beMask, h]
/-- The register at an offset is no part of a pair and has an RW or WO field at bit 0: what `row_plain` asks, decided by the map. -/
def plainReg (off : Nat) : Bool :=
  (findReg off).any fun r => r.writable.getLsbD 0 && decide (r.bits .w1c = 0) && (r.bits .rw ||| r.bits .wo).getLsbD 0 && decide (off % 4 = 0) && decide (off < 2^20)
   && decide (gpBase off = none) && !isLo off && !isHi off && !(decide (0x5000 ≤ off) && decide (off < 0x6000))
/-- An accepted write of such a register: its command meaning at once, and what waits. -/
theorem row_plain {d : Dev} {req off be val} (hp : plainReg off = true) (h : d.takesWrite req off be val) (hb : be.getLsbD 0 = true) :
   d.rowWrite req off be val = d.awaits req off be val (d.writeNow off (d.overlaid req off be val) (beMask be) val) := by
  unfold plainReg at hp
  cases hr : findReg off with
  | none => simp [hr] at hp
  | some r =>
    simp only [hr, Option.any_some, Bool.and_eq_true, decide_eq_true_eq, Bool.not_eq_true', Bool.and_eq_false_iff, decide_eq_false_iff_not] at hp
    obtain ⟨⟨⟨⟨⟨⟨⟨⟨h1, h2⟩, h3⟩, h4⟩, h5⟩, h6⟩, h7⟩, h8⟩, h9⟩ := hp
    rw [Dev.rowWrite_plain h h4 h5 hr h6 h7 h8 (by rw [BitVec.and_comm]; exact beMask_zero be hb _ h1),
      Dev.writeWord_plain hr h2 (by omega) (beMask_zero be hb _ h3)]
/-- No field at an offset waits for a boundary. -/
def noRwp (off : Nat) : Bool := ((findReg off).all fun r => decide (r.bits .rwp = 0)) && !(decide (0x5000 ≤ off) && decide (off < 0x6000))
/-- Then nothing waits. -/
theorem awaits_plain {d : Dev} {req off be val} (h : noRwp off = true) (d1) : d.awaits req off be val d1 = d1 := by
  unfold noRwp at h
  simp only [Bool.and_eq_true, Bool.not_eq_true'] at h
  unfold Dev.awaits Dev.waiting
  cases hr : findReg off with
  | none => simp
  | some r =>
    have h1 : r.bits .rwp = 0 := by simpa [hr] using h.1
    have h2 : (decide (0x5000 ≤ off) && decide (off < 0x6000)) = false := h.2
    simp only [h1, h2, Bool.false_and, Bool.false_eq_true, if_false]
    simp

/-- The complement completes an open pair: it is shut, and its value takes effect (R257). -/
theorem Dev.complWrite_of_ready {d : Dev} {req : Requester} {x : Nat} {v : Word} (h : d.pairReady req x v) (ha : (x + 4) % 4 = 0)
    (hb : x + 4 < 2 ^ 20) : d.complWrite req x (~~~v) = (d.pairShut req).pairCommit (d.reqOf req) x v := by
  obtain ⟨h1, h2, ⟨t, h3, h4⟩, h5⟩ := h
  have hone : ¬ ((15 : BitVec 4) = 0 ∨ (d.reqOf req).code = 6) := fun y => y.elim (by decide) (Dev.reqOf_code_ne h2)
  unfold Dev.complWrite Dev.rowWrite
  rw [if_pos h1, bar0_of_aligned ha hb]
  unfold Dev.writeOne
  rw [if_neg hone, h3]
  dsimp only
  rw [if_pos h4, if_pos ⟨rfl, rfl, rfl⟩]
  rfl

/-! ### Reading -/

/-- Clearing RC bits changes register words alone. -/
theorem Dev.clearRc_regs (d : Dev) (off : Nat) (m : Word) : d.clearRc off m = { d with regs := (d.clearRc off m).regs } := by
  unfold Dev.clearRc; split
  · rfl
  · split <;> rfl

theorem Dev.clearRc_other (d : Dev) {off o : Nat} (m : Word) (h : o ≠ off) : (d.clearRc off m).word o = d.word o := by
  unfold Dev.clearRc; split
  · rfl
  · split
    · rfl
    · exact Dev.word_setWord_other _ _ (Ne.symm h)

theorem Dev.clearRc_same (d : Dev) {off : Nat} (m : Word) {x : RegDesc} (h : findReg off = some x) :
    (d.clearRc off m).word off = d.word off &&& ~~~(x.bits .rc &&& m) := by
  unfold Dev.clearRc; rw [h]; simp only []; split
  · rename_i h
    have : ~~~(x.bits .rc &&& m) = BitVec.allOnes 32 := by rw [h]; ext i hi; simp
    rw [this, BitVec.and_allOnes]
  · simp

/-- Latching HI changes the requester's shadow alone (R261). -/
theorem Dev.latchHi_glb (d : Dev) (q : Req) (off : Nat) :
    d.latchHi q off = { d with glb := { d.glb with shadows := (d.latchHi q off).glb.shadows } } := by
  unfold Dev.latchHi; split <;> rfl

theorem Dev.latchHi_word (d : Dev) (q : Req) (off o : Nat) : (d.latchHi q off).word o = d.word o := by
  unfold Dev.latchHi; split <;> rfl

/-- What a read can do, outside the counters of the Newt cores: nothing, latch HI, or latch HI and clear the RC bits in the enabled bytes. -/
theorem Dev.readOne_fst (d : Dev) (q : Req) {off : Nat} (be : BitVec 4) (h : off < 0x7C100 ∨ 0x7C200 ≤ off) :
    (d.readOne q off be).1 = if be = 0 ∨ q.code = 6 then d else if d.hidden off then d.latchHi q off else (d.latchHi q off).clearRc off (beMask be) := by
  unfold Dev.readOne
  by_cases h1 : be = 0
  · rw [if_pos h1, if_pos (.inl h1)]
  · rw [if_neg h1]
    by_cases h2 : q.code = 6
    · rw [if_pos h2, if_pos (.inr h2)]
    · have hn : ¬ (be = 0 ∨ q.code = 6) := fun x => x.elim h1 h2
      rw [if_neg h2, if_neg hn, show (if 0x7C100 ≤ off ∧ off < 0x7C200 then d.mgmtCount else d) = d from if_neg (by omega)]
      simp only []
      split <;> rfl

/-- What a read returns, outside the counters of the Newt cores. -/
theorem Dev.readOne_snd (d : Dev) (q : Req) {off : Nat} {be : BitVec 4} (h : off < 0x7C100 ∨ 0x7C200 ≤ off) (h1 : be ≠ 0) (h2 : q.code ≠ 6)
    (h3 : d.hidden off = false) : (d.readOne q off be).2 = (d.shadowOf q off).getD (d.busWord q false off) &&& beMask be := by
  unfold Dev.readOne
  rw [if_neg h1, if_neg h2, show (if 0x7C100 ≤ off ∧ off < 0x7C200 then d.mgmtCount else d) = d from if_neg (by omega)]
  simp only [h3, Bool.false_eq_true, if_false]

theorem Dev.coreCycles_glb (n : Nat) (d : Dev) (c : Nat) : (Dev.coreCycles n d c).glb = d.glb := by
  unfold Dev.coreCycles; split <;> rfl

/-- Bringing the counters of the Newt cores up to date leaves the GLB block. -/
theorem Dev.mgmtCount_glb (d : Dev) : d.mgmtCount.glb = d.glb := by
  unfold Dev.mgmtCount; simp only []; split
  · rfl
  · split
    · rfl
    · simp only [List.foldl, Dev.coreCycles_glb]

end Sys2Proof.Machine
end

