-- ==== Sys2Proof/Laws/State.lean ====
section
/-! SUPPORT. What each update of the device leaves in each field: the field it replaces, and every other one as before. -/

namespace Sys2Proof.Machine

@[simp] theorem Dev.setWord_regs (d : Dev) (off : Nat) (w : Word) : (d.setWord off w).regs = Tbl.put d.regs off w := rfl
@[simp] theorem Dev.setWord_pend (d : Dev) (off : Nat) (w : Word) : (d.setWord off w).pend = d.pend := rfl
@[simp] theorem Dev.setWord_now (d : Dev) (off : Nat) (w : Word) : (d.setWord off w).now = d.now := rfl
@[simp] theorem Dev.setWord_glb (d : Dev) (off : Nat) (w : Word) : (d.setWord off w).glb = d.glb := rfl
@[simp] theorem Dev.setWord_cmd (d : Dev) (off : Nat) (w : Word) : (d.setWord off w).cmd = d.cmd := rfl
@[simp] theorem Dev.setWord_flt (d : Dev) (off : Nat) (w : Word) : (d.setWord off w).flt = d.flt := rfl
@[simp] theorem Dev.setWord_evt (d : Dev) (off : Nat) (w : Word) : (d.setWord off w).evt = d.evt := rfl
@[simp] theorem Dev.setWord_time (d : Dev) (off : Nat) (w : Word) : (d.setWord off w).time = d.time := rfl
@[simp] theorem Dev.setWord_tick (d : Dev) (off : Nat) (w : Word) : (d.setWord off w).tick = d.tick := rfl
@[simp] theorem Dev.setWord_clk (d : Dev) (off : Nat) (w : Word) : (d.setWord off w).clk = d.clk := rfl
@[simp] theorem Dev.setWord_ms (d : Dev) (off : Nat) (w : Word) : (d.setWord off w).ms = d.ms := rfl
@[simp] theorem Dev.setWord_refs (d : Dev) (off : Nat) (w : Word) : (d.setWord off w).refs = d.refs := rfl
@[simp] theorem Dev.setWord_selAt (d : Dev) (off : Nat) (w : Word) : (d.setWord off w).selAt = d.selAt := rfl
@[simp] theorem Dev.setWord_outs (d : Dev) (off : Nat) (w : Word) : (d.setWord off w).outs = d.outs := rfl
@[simp] theorem Dev.setWord_cal (d : Dev) (off : Nat) (w : Word) : (d.setWord off w).cal = d.cal := rfl
@[simp] theorem Dev.setWord_sh (d : Dev) (off : Nat) (w : Word) : (d.setWord off w).sh = d.sh := rfl
@[simp] theorem Dev.setWord_fo (d : Dev) (off : Nat) (w : Word) : (d.setWord off w).fo = d.fo := rfl
@[simp] theorem Dev.setWord_link (d : Dev) (off : Nat) (w : Word) : (d.setWord off w).link = d.link := rfl
@[simp] theorem Dev.setWord_store (d : Dev) (off : Nat) (w : Word) : (d.setWord off w).store = d.store := rfl
@[simp] theorem Dev.setWord_mgmt (d : Dev) (off : Nat) (w : Word) : (d.setWord off w).mgmt = d.mgmt := rfl
@[simp] theorem Dev.setWord_pwr (d : Dev) (off : Nat) (w : Word) : (d.setWord off w).pwr = d.pwr := rfl
@[simp] theorem Dev.setWord_boot (d : Dev) (off : Nat) (w : Word) : (d.setWord off w).boot = d.boot := rfl
@[simp] theorem Dev.setWord_snaps (d : Dev) (off : Nat) (w : Word) : (d.setWord off w).snaps = d.snaps := rfl
@[simp] theorem Dev.setWord_tap (d : Dev) (off : Nat) (w : Word) : (d.setWord off w).tap = d.tap := rfl
@[simp] theorem Dev.setWord_field (d : Dev) (off : Nat) (w : Word) : (d.setWord off w).field = d.field := rfl
@[simp] theorem Dev.setWord_msix (d : Dev) (off : Nat) (w : Word) : (d.setWord off w).msix = d.msix := rfl
@[simp] theorem Dev.setWord_baseGen (d : Dev) (off : Nat) (w : Word) : (d.setWord off w).baseGen = d.baseGen := rfl
@[simp] theorem Dev.setWord_gens (d : Dev) (off : Nat) (w : Word) : (d.setWord off w).gens = d.gens := rfl
@[simp] theorem Dev.setWord_replies (d : Dev) (off : Nat) (w : Word) : (d.setWord off w).replies = d.replies := rfl
@[simp] theorem Dev.setWord_pendNow (d : Dev) (off : Nat) (w : Word) : (d.setWord off w).pendNow = d.pendNow := rfl
@[simp] theorem Dev.setWord_pendLate (d : Dev) (off : Nat) (w : Word) : (d.setWord off w).pendLate = d.pendLate := rfl
@[simp] theorem Dev.setWord_schedPend (d : Dev) (off : Nat) (w : Word) : (d.setWord off w).schedPend = d.schedPend := rfl
@[simp] theorem Dev.setWord_armed (d : Dev) (off : Nat) (w : Word) : (d.setWord off w).armed = d.armed := rfl
@[simp] theorem Dev.setWord_trigs (d : Dev) (off : Nat) (w : Word) : (d.setWord off w).trigs = d.trigs := rfl
@[simp] theorem Dev.setWord_out (d : Dev) (off : Nat) (w : Word) : (d.setWord off w).out = d.out := rfl
@[simp] theorem Dev.setWord_free (d : Dev) (off : Nat) (w : Word) : (d.setWord off w).free = d.free := rfl

@[simp] theorem Dev.set_regs (d : Dev) (f : Fld) (v : Nat) : (d.set f v).regs = Tbl.put d.regs f.off (f.into (d.word f.off) v) := rfl
@[simp] theorem Dev.set_pend (d : Dev) (f : Fld) (v : Nat) : (d.set f v).pend = d.pend := rfl
@[simp] theorem Dev.set_now (d : Dev) (f : Fld) (v : Nat) : (d.set f v).now = d.now := rfl
@[simp] theorem Dev.set_glb (d : Dev) (f : Fld) (v : Nat) : (d.set f v).glb = d.glb := rfl
@[simp] theorem Dev.set_cmd (d : Dev) (f : Fld) (v : Nat) : (d.set f v).cmd = d.cmd := rfl
@[simp] theorem Dev.set_flt (d : Dev) (f : Fld) (v : Nat) : (d.set f v).flt = d.flt := rfl
@[simp] theorem Dev.set_evt (d : Dev) (f : Fld) (v : Nat) : (d.set f v).evt = d.evt := rfl
@[simp] theorem Dev.set_time (d : Dev) (f : Fld) (v : Nat) : (d.set f v).time = d.time := rfl
@[simp] theorem Dev.set_tick (d : Dev) (f : Fld) (v : Nat) : (d.set f v).tick = d.tick := rfl
@[simp] theorem Dev.set_clk (d : Dev) (f : Fld) (v : Nat) : (d.set f v).clk = d.clk := rfl
@[simp] theorem Dev.set_ms (d : Dev) (f : Fld) (v : Nat) : (d.set f v).ms = d.ms := rfl
@[simp] theorem Dev.set_refs (d : Dev) (f : Fld) (v : Nat) : (d.set f v).refs = d.refs := rfl
@[simp] theorem Dev.set_selAt (d : Dev) (f : Fld) (v : Nat) : (d.set f v).selAt = d.selAt := rfl
@[simp] theorem Dev.set_outs (d : Dev) (f : Fld) (v : Nat) : (d.set f v).outs = d.outs := rfl
@[simp] theorem Dev.set_cal (d : Dev) (f : Fld) (v : Nat) : (d.set f v).cal = d.cal := rfl
@[simp] theorem Dev.set_sh (d : Dev) (f : Fld) (v : Nat) : (d.set f v).sh = d.sh := rfl
@[simp] theorem Dev.set_fo (d : Dev) (f : Fld) (v : Nat) : (d.set f v).fo = d.fo := rfl
@[simp] theorem Dev.set_link (d : Dev) (f : Fld) (v : Nat) : (d.set f v).link = d.link := rfl
@[simp] theorem Dev.set_store (d : Dev) (f : Fld) (v : Nat) : (d.set f v).store = d.store := rfl
@[simp] theorem Dev.set_mgmt (d : Dev) (f : Fld) (v : Nat) : (d.set f v).mgmt = d.mgmt := rfl
@[simp] theorem Dev.set_pwr (d : Dev) (f : Fld) (v : Nat) : (d.set f v).pwr = d.pwr := rfl
@[simp] theorem Dev.set_boot (d : Dev) (f : Fld) (v : Nat) : (d.set f v).boot = d.boot := rfl
@[simp] theorem Dev.set_snaps (d : Dev) (f : Fld) (v : Nat) : (d.set f v).snaps = d.snaps := rfl
@[simp] theorem Dev.set_tap (d : Dev) (f : Fld) (v : Nat) : (d.set f v).tap = d.tap := rfl
@[simp] theorem Dev.set_field (d : Dev) (f : Fld) (v : Nat) : (d.set f v).field = d.field := rfl
@[simp] theorem Dev.set_msix (d : Dev) (f : Fld) (v : Nat) : (d.set f v).msix = d.msix := rfl
@[simp] theorem Dev.set_baseGen (d : Dev) (f : Fld) (v : Nat) : (d.set f v).baseGen = d.baseGen := rfl
@[simp] theorem Dev.set_gens (d : Dev) (f : Fld) (v : Nat) : (d.set f v).gens = d.gens := rfl
@[simp] theorem Dev.set_replies (d : Dev) (f : Fld) (v : Nat) : (d.set f v).replies = d.replies := rfl
@[simp] theorem Dev.set_pendNow (d : Dev) (f : Fld) (v : Nat) : (d.set f v).pendNow = d.pendNow := rfl
@[simp] theorem Dev.set_pendLate (d : Dev) (f : Fld) (v : Nat) : (d.set f v).pendLate = d.pendLate := rfl
@[simp] theorem Dev.set_schedPend (d : Dev) (f : Fld) (v : Nat) : (d.set f v).schedPend = d.schedPend := rfl
@[simp] theorem Dev.set_armed (d : Dev) (f : Fld) (v : Nat) : (d.set f v).armed = d.armed := rfl
@[simp] theorem Dev.set_trigs (d : Dev) (f : Fld) (v : Nat) : (d.set f v).trigs = d.trigs := rfl
@[simp] theorem Dev.set_out (d : Dev) (f : Fld) (v : Nat) : (d.set f v).out = d.out := rfl
@[simp] theorem Dev.set_free (d : Dev) (f : Fld) (v : Nat) : (d.set f v).free = d.free := rfl

@[simp] theorem Dev.raise_regs (d : Dev) (f : Fld) : (d.raise f).regs = Tbl.put d.regs f.off (f.into (d.word f.off) 1) := rfl
@[simp] theorem Dev.raise_pend (d : Dev) (f : Fld) : (d.raise f).pend = d.pend := rfl
@[simp] theorem Dev.raise_now (d : Dev) (f : Fld) : (d.raise f).now = d.now := rfl
@[simp] theorem Dev.raise_glb (d : Dev) (f : Fld) : (d.raise f).glb = d.glb := rfl
@[simp] theorem Dev.raise_cmd (d : Dev) (f : Fld) : (d.raise f).cmd = d.cmd := rfl
@[simp] theorem Dev.raise_flt (d : Dev) (f : Fld) : (d.raise f).flt = d.flt := rfl
@[simp] theorem Dev.raise_evt (d : Dev) (f : Fld) : (d.raise f).evt = d.evt := rfl
@[simp] theorem Dev.raise_time (d : Dev) (f : Fld) : (d.raise f).time = d.time := rfl
@[simp] theorem Dev.raise_tick (d : Dev) (f : Fld) : (d.raise f).tick = d.tick := rfl
@[simp] theorem Dev.raise_clk (d : Dev) (f : Fld) : (d.raise f).clk = d.clk := rfl
@[simp] theorem Dev.raise_ms (d : Dev) (f : Fld) : (d.raise f).ms = d.ms := rfl
@[simp] theorem Dev.raise_refs (d : Dev) (f : Fld) : (d.raise f).refs = d.refs := rfl
@[simp] theorem Dev.raise_selAt (d : Dev) (f : Fld) : (d.raise f).selAt = d.selAt := rfl
@[simp] theorem Dev.raise_outs (d : Dev) (f : Fld) : (d.raise f).outs = d.outs := rfl
@[simp] theorem Dev.raise_cal (d : Dev) (f : Fld) : (d.raise f).cal = d.cal := rfl
@[simp] theorem Dev.raise_sh (d : Dev) (f : Fld) : (d.raise f).sh = d.sh := rfl
@[simp] theorem Dev.raise_fo (d : Dev) (f : Fld) : (d.raise f).fo = d.fo := rfl
@[simp] theorem Dev.raise_link (d : Dev) (f : Fld) : (d.raise f).link = d.link := rfl
@[simp] theorem Dev.raise_store (d : Dev) (f : Fld) : (d.raise f).store = d.store := rfl
@[simp] theorem Dev.raise_mgmt (d : Dev) (f : Fld) : (d.raise f).mgmt = d.mgmt := rfl
@[simp] theorem Dev.raise_pwr (d : Dev) (f : Fld) : (d.raise f).pwr = d.pwr := rfl
@[simp] theorem Dev.raise_boot (d : Dev) (f : Fld) : (d.raise f).boot = d.boot := rfl
@[simp] theorem Dev.raise_snaps (d : Dev) (f : Fld) : (d.raise f).snaps = d.snaps := rfl
@[simp] theorem Dev.raise_tap (d : Dev) (f : Fld) : (d.raise f).tap = d.tap := rfl
@[simp] theorem Dev.raise_field (d : Dev) (f : Fld) : (d.raise f).field = d.field := rfl
@[simp] theorem Dev.raise_msix (d : Dev) (f : Fld) : (d.raise f).msix = d.msix := rfl
@[simp] theorem Dev.raise_baseGen (d : Dev) (f : Fld) : (d.raise f).baseGen = d.baseGen := rfl
@[simp] theorem Dev.raise_gens (d : Dev) (f : Fld) : (d.raise f).gens = d.gens := rfl
@[simp] theorem Dev.raise_replies (d : Dev) (f : Fld) : (d.raise f).replies = d.replies := rfl
@[simp] theorem Dev.raise_pendNow (d : Dev) (f : Fld) : (d.raise f).pendNow = d.pendNow := rfl
@[simp] theorem Dev.raise_pendLate (d : Dev) (f : Fld) : (d.raise f).pendLate = d.pendLate := rfl
@[simp] theorem Dev.raise_schedPend (d : Dev) (f : Fld) : (d.raise f).schedPend = d.schedPend := rfl
@[simp] theorem Dev.raise_armed (d : Dev) (f : Fld) : (d.raise f).armed = d.armed := rfl
@[simp] theorem Dev.raise_trigs (d : Dev) (f : Fld) : (d.raise f).trigs = d.trigs := rfl
@[simp] theorem Dev.raise_out (d : Dev) (f : Fld) : (d.raise f).out = d.out := rfl
@[simp] theorem Dev.raise_free (d : Dev) (f : Fld) : (d.raise f).free = d.free := rfl

@[simp] theorem Dev.count_regs (d : Dev) (off n : Nat) : (d.count off n).regs = Tbl.put d.regs off (BitVec.ofNat 32 (satAdd (d.word off).toNat n)) := rfl
@[simp] theorem Dev.count_pend (d : Dev) (off n : Nat) : (d.count off n).pend = d.pend := rfl
@[simp] theorem Dev.count_now (d : Dev) (off n : Nat) : (d.count off n).now = d.now := rfl
@[simp] theorem Dev.count_glb (d : Dev) (off n : Nat) : (d.count off n).glb = d.glb := rfl
@[simp] theorem Dev.count_cmd (d : Dev) (off n : Nat) : (d.count off n).cmd = d.cmd := rfl
@[simp] theorem Dev.count_flt (d : Dev) (off n : Nat) : (d.count off n).flt = d.flt := rfl
@[simp] theorem Dev.count_evt (d : Dev) (off n : Nat) : (d.count off n).evt = d.evt := rfl
@[simp] theorem Dev.count_time (d : Dev) (off n : Nat) : (d.count off n).time = d.time := rfl
@[simp] theorem Dev.count_tick (d : Dev) (off n : Nat) : (d.count off n).tick = d.tick := rfl
@[simp] theorem Dev.count_clk (d : Dev) (off n : Nat) : (d.count off n).clk = d.clk := rfl
@[simp] theorem Dev.count_ms (d : Dev) (off n : Nat) : (d.count off n).ms = d.ms := rfl
@[simp] theorem Dev.count_refs (d : Dev) (off n : Nat) : (d.count off n).refs = d.refs := rfl
@[simp] theorem Dev.count_selAt (d : Dev) (off n : Nat) : (d.count off n).selAt = d.selAt := rfl
@[simp] theorem Dev.count_outs (d : Dev) (off n : Nat) : (d.count off n).outs = d.outs := rfl
@[simp] theorem Dev.count_cal (d : Dev) (off n : Nat) : (d.count off n).cal = d.cal := rfl
@[simp] theorem Dev.count_sh (d : Dev) (off n : Nat) : (d.count off n).sh = d.sh := rfl
@[simp] theorem Dev.count_fo (d : Dev) (off n : Nat) : (d.count off n).fo = d.fo := rfl
@[simp] theorem Dev.count_link (d : Dev) (off n : Nat) : (d.count off n).link = d.link := rfl
@[simp] theorem Dev.count_store (d : Dev) (off n : Nat) : (d.count off n).store = d.store := rfl
@[simp] theorem Dev.count_mgmt (d : Dev) (off n : Nat) : (d.count off n).mgmt = d.mgmt := rfl
@[simp] theorem Dev.count_pwr (d : Dev) (off n : Nat) : (d.count off n).pwr = d.pwr := rfl
@[simp] theorem Dev.count_boot (d : Dev) (off n : Nat) : (d.count off n).boot = d.boot := rfl
@[simp] theorem Dev.count_snaps (d : Dev) (off n : Nat) : (d.count off n).snaps = d.snaps := rfl
@[simp] theorem Dev.count_tap (d : Dev) (off n : Nat) : (d.count off n).tap = d.tap := rfl
@[simp] theorem Dev.count_field (d : Dev) (off n : Nat) : (d.count off n).field = d.field := rfl
@[simp] theorem Dev.count_msix (d : Dev) (off n : Nat) : (d.count off n).msix = d.msix := rfl
@[simp] theorem Dev.count_baseGen (d : Dev) (off n : Nat) : (d.count off n).baseGen = d.baseGen := rfl
@[simp] theorem Dev.count_gens (d : Dev) (off n : Nat) : (d.count off n).gens = d.gens := rfl
@[simp] theorem Dev.count_replies (d : Dev) (off n : Nat) : (d.count off n).replies = d.replies := rfl
@[simp] theorem Dev.count_pendNow (d : Dev) (off n : Nat) : (d.count off n).pendNow = d.pendNow := rfl
@[simp] theorem Dev.count_pendLate (d : Dev) (off n : Nat) : (d.count off n).pendLate = d.pendLate := rfl
@[simp] theorem Dev.count_schedPend (d : Dev) (off n : Nat) : (d.count off n).schedPend = d.schedPend := rfl
@[simp] theorem Dev.count_armed (d : Dev) (off n : Nat) : (d.count off n).armed = d.armed := rfl
@[simp] theorem Dev.count_trigs (d : Dev) (off n : Nat) : (d.count off n).trigs = d.trigs := rfl
@[simp] theorem Dev.count_out (d : Dev) (off n : Nat) : (d.count off n).out = d.out := rfl
@[simp] theorem Dev.count_free (d : Dev) (off n : Nat) : (d.count off n).free = d.free := rfl

@[simp] theorem Dev.emit_regs (d : Dev) (o : Output) : (d.emit o).regs = d.regs := rfl
@[simp] theorem Dev.emit_pend (d : Dev) (o : Output) : (d.emit o).pend = d.pend := rfl
@[simp] theorem Dev.emit_now (d : Dev) (o : Output) : (d.emit o).now = d.now := rfl
@[simp] theorem Dev.emit_glb (d : Dev) (o : Output) : (d.emit o).glb = d.glb := rfl
@[simp] theorem Dev.emit_cmd (d : Dev) (o : Output) : (d.emit o).cmd = d.cmd := rfl
@[simp] theorem Dev.emit_flt (d : Dev) (o : Output) : (d.emit o).flt = d.flt := rfl
@[simp] theorem Dev.emit_evt (d : Dev) (o : Output) : (d.emit o).evt = d.evt := rfl
@[simp] theorem Dev.emit_time (d : Dev) (o : Output) : (d.emit o).time = d.time := rfl
@[simp] theorem Dev.emit_tick (d : Dev) (o : Output) : (d.emit o).tick = d.tick := rfl
@[simp] theorem Dev.emit_clk (d : Dev) (o : Output) : (d.emit o).clk = d.clk := rfl
@[simp] theorem Dev.emit_ms (d : Dev) (o : Output) : (d.emit o).ms = d.ms := rfl
@[simp] theorem Dev.emit_refs (d : Dev) (o : Output) : (d.emit o).refs = d.refs := rfl
@[simp] theorem Dev.emit_selAt (d : Dev) (o : Output) : (d.emit o).selAt = d.selAt := rfl
@[simp] theorem Dev.emit_outs (d : Dev) (o : Output) : (d.emit o).outs = d.outs := rfl
@[simp] theorem Dev.emit_cal (d : Dev) (o : Output) : (d.emit o).cal = d.cal := rfl
@[simp] theorem Dev.emit_sh (d : Dev) (o : Output) : (d.emit o).sh = d.sh := rfl
@[simp] theorem Dev.emit_fo (d : Dev) (o : Output) : (d.emit o).fo = d.fo := rfl
@[simp] theorem Dev.emit_link (d : Dev) (o : Output) : (d.emit o).link = d.link := rfl
@[simp] theorem Dev.emit_store (d : Dev) (o : Output) : (d.emit o).store = d.store := rfl
@[simp] theorem Dev.emit_mgmt (d : Dev) (o : Output) : (d.emit o).mgmt = d.mgmt := rfl
@[simp] theorem Dev.emit_pwr (d : Dev) (o : Output) : (d.emit o).pwr = d.pwr := rfl
@[simp] theorem Dev.emit_boot (d : Dev) (o : Output) : (d.emit o).boot = d.boot := rfl
@[simp] theorem Dev.emit_snaps (d : Dev) (o : Output) : (d.emit o).snaps = d.snaps := rfl
@[simp] theorem Dev.emit_tap (d : Dev) (o : Output) : (d.emit o).tap = d.tap := rfl
@[simp] theorem Dev.emit_field (d : Dev) (o : Output) : (d.emit o).field = d.field := rfl
@[simp] theorem Dev.emit_msix (d : Dev) (o : Output) : (d.emit o).msix = d.msix := rfl
@[simp] theorem Dev.emit_baseGen (d : Dev) (o : Output) : (d.emit o).baseGen = d.baseGen := rfl
@[simp] theorem Dev.emit_gens (d : Dev) (o : Output) : (d.emit o).gens = d.gens := rfl
@[simp] theorem Dev.emit_replies (d : Dev) (o : Output) : (d.emit o).replies = d.replies := rfl
@[simp] theorem Dev.emit_pendNow (d : Dev) (o : Output) : (d.emit o).pendNow = d.pendNow := rfl
@[simp] theorem Dev.emit_pendLate (d : Dev) (o : Output) : (d.emit o).pendLate = d.pendLate := rfl
@[simp] theorem Dev.emit_schedPend (d : Dev) (o : Output) : (d.emit o).schedPend = d.schedPend := rfl
@[simp] theorem Dev.emit_armed (d : Dev) (o : Output) : (d.emit o).armed = d.armed := rfl
@[simp] theorem Dev.emit_trigs (d : Dev) (o : Output) : (d.emit o).trigs = d.trigs := rfl
@[simp] theorem Dev.emit_out (d : Dev) (o : Output) : (d.emit o).out = o :: d.out := rfl
@[simp] theorem Dev.emit_free (d : Dev) (o : Output) : (d.emit o).free = d.free := rfl

@[simp] theorem Dev.arm_regs (d : Dev) (k : Nat) (op : ArmOp) (cid : Option Nat) : (d.arm k op cid).regs = d.regs := rfl
@[simp] theorem Dev.arm_pend (d : Dev) (k : Nat) (op : ArmOp) (cid : Option Nat) : (d.arm k op cid).pend = d.pend := rfl
@[simp] theorem Dev.arm_now (d : Dev) (k : Nat) (op : ArmOp) (cid : Option Nat) : (d.arm k op cid).now = d.now := rfl
@[simp] theorem Dev.arm_glb (d : Dev) (k : Nat) (op : ArmOp) (cid : Option Nat) : (d.arm k op cid).glb = d.glb := rfl
@[simp] theorem Dev.arm_cmd (d : Dev) (k : Nat) (op : ArmOp) (cid : Option Nat) : (d.arm k op cid).cmd = d.cmd := rfl
@[simp] theorem Dev.arm_flt (d : Dev) (k : Nat) (op : ArmOp) (cid : Option Nat) : (d.arm k op cid).flt = d.flt := rfl
@[simp] theorem Dev.arm_evt (d : Dev) (k : Nat) (op : ArmOp) (cid : Option Nat) : (d.arm k op cid).evt = d.evt := rfl
@[simp] theorem Dev.arm_time (d : Dev) (k : Nat) (op : ArmOp) (cid : Option Nat) : (d.arm k op cid).time = d.time := rfl
@[simp] theorem Dev.arm_tick (d : Dev) (k : Nat) (op : ArmOp) (cid : Option Nat) : (d.arm k op cid).tick = d.tick := rfl
@[simp] theorem Dev.arm_clk (d : Dev) (k : Nat) (op : ArmOp) (cid : Option Nat) : (d.arm k op cid).clk = d.clk := rfl
@[simp] theorem Dev.arm_ms (d : Dev) (k : Nat) (op : ArmOp) (cid : Option Nat) : (d.arm k op cid).ms = d.ms := rfl
@[simp] theorem Dev.arm_refs (d : Dev) (k : Nat) (op : ArmOp) (cid : Option Nat) : (d.arm k op cid).refs = d.refs := rfl
@[simp] theorem Dev.arm_selAt (d : Dev) (k : Nat) (op : ArmOp) (cid : Option Nat) : (d.arm k op cid).selAt = d.selAt := rfl
@[simp] theorem Dev.arm_outs (d : Dev) (k : Nat) (op : ArmOp) (cid : Option Nat) : (d.arm k op cid).outs = d.outs := rfl
@[simp] theorem Dev.arm_cal (d : Dev) (k : Nat) (op : ArmOp) (cid : Option Nat) : (d.arm k op cid).cal = d.cal := rfl
@[simp] theorem Dev.arm_sh (d : Dev) (k : Nat) (op : ArmOp) (cid : Option Nat) : (d.arm k op cid).sh = d.sh := rfl
@[simp] theorem Dev.arm_fo (d : Dev) (k : Nat) (op : ArmOp) (cid : Option Nat) : (d.arm k op cid).fo = d.fo := rfl
@[simp] theorem Dev.arm_link (d : Dev) (k : Nat) (op : ArmOp) (cid : Option Nat) : (d.arm k op cid).link = d.link := rfl
@[simp] theorem Dev.arm_store (d : Dev) (k : Nat) (op : ArmOp) (cid : Option Nat) : (d.arm k op cid).store = d.store := rfl
@[simp] theorem Dev.arm_mgmt (d : Dev) (k : Nat) (op : ArmOp) (cid : Option Nat) : (d.arm k op cid).mgmt = d.mgmt := rfl
@[simp] theorem Dev.arm_pwr (d : Dev) (k : Nat) (op : ArmOp) (cid : Option Nat) : (d.arm k op cid).pwr = d.pwr := rfl
@[simp] theorem Dev.arm_boot (d : Dev) (k : Nat) (op : ArmOp) (cid : Option Nat) : (d.arm k op cid).boot = d.boot := rfl
@[simp] theorem Dev.arm_snaps (d : Dev) (k : Nat) (op : ArmOp) (cid : Option Nat) : (d.arm k op cid).snaps = d.snaps := rfl
@[simp] theorem Dev.arm_tap (d : Dev) (k : Nat) (op : ArmOp) (cid : Option Nat) : (d.arm k op cid).tap = d.tap := rfl
@[simp] theorem Dev.arm_field (d : Dev) (k : Nat) (op : ArmOp) (cid : Option Nat) : (d.arm k op cid).field = d.field := rfl
@[simp] theorem Dev.arm_msix (d : Dev) (k : Nat) (op : ArmOp) (cid : Option Nat) : (d.arm k op cid).msix = d.msix := rfl
@[simp] theorem Dev.arm_baseGen (d : Dev) (k : Nat) (op : ArmOp) (cid : Option Nat) : (d.arm k op cid).baseGen = d.baseGen := rfl
@[simp] theorem Dev.arm_gens (d : Dev) (k : Nat) (op : ArmOp) (cid : Option Nat) : (d.arm k op cid).gens = d.gens := rfl
@[simp] theorem Dev.arm_replies (d : Dev) (k : Nat) (op : ArmOp) (cid : Option Nat) : (d.arm k op cid).replies = d.replies := rfl
@[simp] theorem Dev.arm_pendNow (d : Dev) (k : Nat) (op : ArmOp) (cid : Option Nat) : (d.arm k op cid).pendNow = d.pendNow := rfl
@[simp] theorem Dev.arm_pendLate (d : Dev) (k : Nat) (op : ArmOp) (cid : Option Nat) : (d.arm k op cid).pendLate = d.pendLate := rfl
@[simp] theorem Dev.arm_schedPend (d : Dev) (k : Nat) (op : ArmOp) (cid : Option Nat) : (d.arm k op cid).schedPend = d.schedPend := rfl
@[simp] theorem Dev.arm_armed (d : Dev) (k : Nat) (op : ArmOp) (cid : Option Nat) : (d.arm k op cid).armed = d.armed ++ [⟨k, op, cid⟩] := rfl
@[simp] theorem Dev.arm_trigs (d : Dev) (k : Nat) (op : ArmOp) (cid : Option Nat) : (d.arm k op cid).trigs = d.trigs := rfl
@[simp] theorem Dev.arm_out (d : Dev) (k : Nat) (op : ArmOp) (cid : Option Nat) : (d.arm k op cid).out = d.out := rfl
@[simp] theorem Dev.arm_free (d : Dev) (k : Nat) (op : ArmOp) (cid : Option Nat) : (d.arm k op cid).free = d.free := rfl

@[simp] theorem Dev.setRing_regs (d : Dev) (r : Nat) (x : Ring) : (d.setRing r x).regs = d.regs := rfl
@[simp] theorem Dev.setRing_pend (d : Dev) (r : Nat) (x : Ring) : (d.setRing r x).pend = d.pend := rfl
@[simp] theorem Dev.setRing_now (d : Dev) (r : Nat) (x : Ring) : (d.setRing r x).now = d.now := rfl
@[simp] theorem Dev.setRing_glb (d : Dev) (r : Nat) (x : Ring) : (d.setRing r x).glb = d.glb := rfl
@[simp] theorem Dev.setRing_cmd (d : Dev) (r : Nat) (x : Ring) : (d.setRing r x).cmd = { d.cmd with rings := Tbl.put d.cmd.rings r x } := rfl
@[simp] theorem Dev.setRing_flt (d : Dev) (r : Nat) (x : Ring) : (d.setRing r x).flt = d.flt := rfl
@[simp] theorem Dev.setRing_evt (d : Dev) (r : Nat) (x : Ring) : (d.setRing r x).evt = d.evt := rfl
@[simp] theorem Dev.setRing_time (d : Dev) (r : Nat) (x : Ring) : (d.setRing r x).time = d.time := rfl
@[simp] theorem Dev.setRing_tick (d : Dev) (r : Nat) (x : Ring) : (d.setRing r x).tick = d.tick := rfl
@[simp] theorem Dev.setRing_clk (d : Dev) (r : Nat) (x : Ring) : (d.setRing r x).clk = d.clk := rfl
@[simp] theorem Dev.setRing_ms (d : Dev) (r : Nat) (x : Ring) : (d.setRing r x).ms = d.ms := rfl
@[simp] theorem Dev.setRing_refs (d : Dev) (r : Nat) (x : Ring) : (d.setRing r x).refs = d.refs := rfl
@[simp] theorem Dev.setRing_selAt (d : Dev) (r : Nat) (x : Ring) : (d.setRing r x).selAt = d.selAt := rfl
@[simp] theorem Dev.setRing_outs (d : Dev) (r : Nat) (x : Ring) : (d.setRing r x).outs = d.outs := rfl
@[simp] theorem Dev.setRing_cal (d : Dev) (r : Nat) (x : Ring) : (d.setRing r x).cal = d.cal := rfl
@[simp] theorem Dev.setRing_sh (d : Dev) (r : Nat) (x : Ring) : (d.setRing r x).sh = d.sh := rfl
@[simp] theorem Dev.setRing_fo (d : Dev) (r : Nat) (x : Ring) : (d.setRing r x).fo = d.fo := rfl
@[simp] theorem Dev.setRing_link (d : Dev) (r : Nat) (x : Ring) : (d.setRing r x).link = d.link := rfl
@[simp] theorem Dev.setRing_store (d : Dev) (r : Nat) (x : Ring) : (d.setRing r x).store = d.store := rfl
@[simp] theorem Dev.setRing_mgmt (d : Dev) (r : Nat) (x : Ring) : (d.setRing r x).mgmt = d.mgmt := rfl
@[simp] theorem Dev.setRing_pwr (d : Dev) (r : Nat) (x : Ring) : (d.setRing r x).pwr = d.pwr := rfl
@[simp] theorem Dev.setRing_boot (d : Dev) (r : Nat) (x : Ring) : (d.setRing r x).boot = d.boot := rfl
@[simp] theorem Dev.setRing_snaps (d : Dev) (r : Nat) (x : Ring) : (d.setRing r x).snaps = d.snaps := rfl
@[simp] theorem Dev.setRing_tap (d : Dev) (r : Nat) (x : Ring) : (d.setRing r x).tap = d.tap := rfl
@[simp] theorem Dev.setRing_field (d : Dev) (r : Nat) (x : Ring) : (d.setRing r x).field = d.field := rfl
@[simp] theorem Dev.setRing_msix (d : Dev) (r : Nat) (x : Ring) : (d.setRing r x).msix = d.msix := rfl
@[simp] theorem Dev.setRing_baseGen (d : Dev) (r : Nat) (x : Ring) : (d.setRing r x).baseGen = d.baseGen := rfl
@[simp] theorem Dev.setRing_gens (d : Dev) (r : Nat) (x : Ring) : (d.setRing r x).gens = d.gens := rfl
@[simp] theorem Dev.setRing_replies (d : Dev) (r : Nat) (x : Ring) : (d.setRing r x).replies = d.replies := rfl
@[simp] theorem Dev.setRing_pendNow (d : Dev) (r : Nat) (x : Ring) : (d.setRing r x).pendNow = d.pendNow := rfl
@[simp] theorem Dev.setRing_pendLate (d : Dev) (r : Nat) (x : Ring) : (d.setRing r x).pendLate = d.pendLate := rfl
@[simp] theorem Dev.setRing_schedPend (d : Dev) (r : Nat) (x : Ring) : (d.setRing r x).schedPend = d.schedPend := rfl
@[simp] theorem Dev.setRing_armed (d : Dev) (r : Nat) (x : Ring) : (d.setRing r x).armed = d.armed := rfl
@[simp] theorem Dev.setRing_trigs (d : Dev) (r : Nat) (x : Ring) : (d.setRing r x).trigs = d.trigs := rfl
@[simp] theorem Dev.setRing_out (d : Dev) (r : Nat) (x : Ring) : (d.setRing r x).out = d.out := rfl
@[simp] theorem Dev.setRing_free (d : Dev) (r : Nat) (x : Ring) : (d.setRing r x).free = d.free := rfl

@[simp] theorem Dev.setMs_regs (d : Dev) (n : Nat) (x : Ms) : (d.setMs n x).regs = d.regs := rfl
@[simp] theorem Dev.setMs_pend (d : Dev) (n : Nat) (x : Ms) : (d.setMs n x).pend = d.pend := rfl
@[simp] theorem Dev.setMs_now (d : Dev) (n : Nat) (x : Ms) : (d.setMs n x).now = d.now := rfl
@[simp] theorem Dev.setMs_glb (d : Dev) (n : Nat) (x : Ms) : (d.setMs n x).glb = d.glb := rfl
@[simp] theorem Dev.setMs_cmd (d : Dev) (n : Nat) (x : Ms) : (d.setMs n x).cmd = d.cmd := rfl
@[simp] theorem Dev.setMs_flt (d : Dev) (n : Nat) (x : Ms) : (d.setMs n x).flt = d.flt := rfl
@[simp] theorem Dev.setMs_evt (d : Dev) (n : Nat) (x : Ms) : (d.setMs n x).evt = d.evt := rfl
@[simp] theorem Dev.setMs_time (d : Dev) (n : Nat) (x : Ms) : (d.setMs n x).time = d.time := rfl
@[simp] theorem Dev.setMs_tick (d : Dev) (n : Nat) (x : Ms) : (d.setMs n x).tick = d.tick := rfl
@[simp] theorem Dev.setMs_clk (d : Dev) (n : Nat) (x : Ms) : (d.setMs n x).clk = d.clk := rfl
@[simp] theorem Dev.setMs_ms (d : Dev) (n : Nat) (x : Ms) : (d.setMs n x).ms = Tbl.put d.ms n x := rfl
@[simp] theorem Dev.setMs_refs (d : Dev) (n : Nat) (x : Ms) : (d.setMs n x).refs = d.refs := rfl
@[simp] theorem Dev.setMs_selAt (d : Dev) (n : Nat) (x : Ms) : (d.setMs n x).selAt = d.selAt := rfl
@[simp] theorem Dev.setMs_outs (d : Dev) (n : Nat) (x : Ms) : (d.setMs n x).outs = d.outs := rfl
@[simp] theorem Dev.setMs_cal (d : Dev) (n : Nat) (x : Ms) : (d.setMs n x).cal = d.cal := rfl
@[simp] theorem Dev.setMs_sh (d : Dev) (n : Nat) (x : Ms) : (d.setMs n x).sh = d.sh := rfl
@[simp] theorem Dev.setMs_fo (d : Dev) (n : Nat) (x : Ms) : (d.setMs n x).fo = d.fo := rfl
@[simp] theorem Dev.setMs_link (d : Dev) (n : Nat) (x : Ms) : (d.setMs n x).link = d.link := rfl
@[simp] theorem Dev.setMs_store (d : Dev) (n : Nat) (x : Ms) : (d.setMs n x).store = d.store := rfl
@[simp] theorem Dev.setMs_mgmt (d : Dev) (n : Nat) (x : Ms) : (d.setMs n x).mgmt = d.mgmt := rfl
@[simp] theorem Dev.setMs_pwr (d : Dev) (n : Nat) (x : Ms) : (d.setMs n x).pwr = d.pwr := rfl
@[simp] theorem Dev.setMs_boot (d : Dev) (n : Nat) (x : Ms) : (d.setMs n x).boot = d.boot := rfl
@[simp] theorem Dev.setMs_snaps (d : Dev) (n : Nat) (x : Ms) : (d.setMs n x).snaps = d.snaps := rfl
@[simp] theorem Dev.setMs_tap (d : Dev) (n : Nat) (x : Ms) : (d.setMs n x).tap = d.tap := rfl
@[simp] theorem Dev.setMs_field (d : Dev) (n : Nat) (x : Ms) : (d.setMs n x).field = d.field := rfl
@[simp] theorem Dev.setMs_msix (d : Dev) (n : Nat) (x : Ms) : (d.setMs n x).msix = d.msix := rfl
@[simp] theorem Dev.setMs_baseGen (d : Dev) (n : Nat) (x : Ms) : (d.setMs n x).baseGen = d.baseGen := rfl
@[simp] theorem Dev.setMs_gens (d : Dev) (n : Nat) (x : Ms) : (d.setMs n x).gens = d.gens := rfl
@[simp] theorem Dev.setMs_replies (d : Dev) (n : Nat) (x : Ms) : (d.setMs n x).replies = d.replies := rfl
@[simp] theorem Dev.setMs_pendNow (d : Dev) (n : Nat) (x : Ms) : (d.setMs n x).pendNow = d.pendNow := rfl
@[simp] theorem Dev.setMs_pendLate (d : Dev) (n : Nat) (x : Ms) : (d.setMs n x).pendLate = d.pendLate := rfl
@[simp] theorem Dev.setMs_schedPend (d : Dev) (n : Nat) (x : Ms) : (d.setMs n x).schedPend = d.schedPend := rfl
@[simp] theorem Dev.setMs_armed (d : Dev) (n : Nat) (x : Ms) : (d.setMs n x).armed = d.armed := rfl
@[simp] theorem Dev.setMs_trigs (d : Dev) (n : Nat) (x : Ms) : (d.setMs n x).trigs = d.trigs := rfl
@[simp] theorem Dev.setMs_out (d : Dev) (n : Nat) (x : Ms) : (d.setMs n x).out = d.out := rfl
@[simp] theorem Dev.setMs_free (d : Dev) (n : Nat) (x : Ms) : (d.setMs n x).free = d.free := rfl

@[simp] theorem Dev.setRef_regs (d : Dev) (r : Nat) (x : RefMon) : (d.setRef r x).regs = d.regs := rfl
@[simp] theorem Dev.setRef_pend (d : Dev) (r : Nat) (x : RefMon) : (d.setRef r x).pend = d.pend := rfl
@[simp] theorem Dev.setRef_now (d : Dev) (r : Nat) (x : RefMon) : (d.setRef r x).now = d.now := rfl
@[simp] theorem Dev.setRef_glb (d : Dev) (r : Nat) (x : RefMon) : (d.setRef r x).glb = d.glb := rfl
@[simp] theorem Dev.setRef_cmd (d : Dev) (r : Nat) (x : RefMon) : (d.setRef r x).cmd = d.cmd := rfl
@[simp] theorem Dev.setRef_flt (d : Dev) (r : Nat) (x : RefMon) : (d.setRef r x).flt = d.flt := rfl
@[simp] theorem Dev.setRef_evt (d : Dev) (r : Nat) (x : RefMon) : (d.setRef r x).evt = d.evt := rfl
@[simp] theorem Dev.setRef_time (d : Dev) (r : Nat) (x : RefMon) : (d.setRef r x).time = d.time := rfl
@[simp] theorem Dev.setRef_tick (d : Dev) (r : Nat) (x : RefMon) : (d.setRef r x).tick = d.tick := rfl
@[simp] theorem Dev.setRef_clk (d : Dev) (r : Nat) (x : RefMon) : (d.setRef r x).clk = d.clk := rfl
@[simp] theorem Dev.setRef_ms (d : Dev) (r : Nat) (x : RefMon) : (d.setRef r x).ms = d.ms := rfl
@[simp] theorem Dev.setRef_refs (d : Dev) (r : Nat) (x : RefMon) : (d.setRef r x).refs = Tbl.put d.refs r x := rfl
@[simp] theorem Dev.setRef_outs (d : Dev) (r : Nat) (x : RefMon) : (d.setRef r x).outs = d.outs := rfl
@[simp] theorem Dev.setRef_cal (d : Dev) (r : Nat) (x : RefMon) : (d.setRef r x).cal = d.cal := rfl
@[simp] theorem Dev.setRef_sh (d : Dev) (r : Nat) (x : RefMon) : (d.setRef r x).sh = d.sh := rfl
@[simp] theorem Dev.setRef_fo (d : Dev) (r : Nat) (x : RefMon) : (d.setRef r x).fo = d.fo := rfl
@[simp] theorem Dev.setRef_link (d : Dev) (r : Nat) (x : RefMon) : (d.setRef r x).link = d.link := rfl
@[simp] theorem Dev.setRef_store (d : Dev) (r : Nat) (x : RefMon) : (d.setRef r x).store = d.store := rfl
@[simp] theorem Dev.setRef_mgmt (d : Dev) (r : Nat) (x : RefMon) : (d.setRef r x).mgmt = d.mgmt := rfl
@[simp] theorem Dev.setRef_pwr (d : Dev) (r : Nat) (x : RefMon) : (d.setRef r x).pwr = d.pwr := rfl
@[simp] theorem Dev.setRef_boot (d : Dev) (r : Nat) (x : RefMon) : (d.setRef r x).boot = d.boot := rfl
@[simp] theorem Dev.setRef_snaps (d : Dev) (r : Nat) (x : RefMon) : (d.setRef r x).snaps = d.snaps := rfl
@[simp] theorem Dev.setRef_tap (d : Dev) (r : Nat) (x : RefMon) : (d.setRef r x).tap = d.tap := rfl
@[simp] theorem Dev.setRef_field (d : Dev) (r : Nat) (x : RefMon) : (d.setRef r x).field = d.field := rfl
@[simp] theorem Dev.setRef_msix (d : Dev) (r : Nat) (x : RefMon) : (d.setRef r x).msix = d.msix := rfl
@[simp] theorem Dev.setRef_baseGen (d : Dev) (r : Nat) (x : RefMon) : (d.setRef r x).baseGen = d.baseGen := rfl
@[simp] theorem Dev.setRef_gens (d : Dev) (r : Nat) (x : RefMon) : (d.setRef r x).gens = d.gens := rfl
@[simp] theorem Dev.setRef_replies (d : Dev) (r : Nat) (x : RefMon) : (d.setRef r x).replies = d.replies := rfl
@[simp] theorem Dev.setRef_pendNow (d : Dev) (r : Nat) (x : RefMon) : (d.setRef r x).pendNow = d.pendNow := rfl
@[simp] theorem Dev.setRef_pendLate (d : Dev) (r : Nat) (x : RefMon) : (d.setRef r x).pendLate = d.pendLate := rfl
@[simp] theorem Dev.setRef_schedPend (d : Dev) (r : Nat) (x : RefMon) : (d.setRef r x).schedPend = d.schedPend := rfl
@[simp] theorem Dev.setRef_armed (d : Dev) (r : Nat) (x : RefMon) : (d.setRef r x).armed = d.armed := rfl
@[simp] theorem Dev.setRef_trigs (d : Dev) (r : Nat) (x : RefMon) : (d.setRef r x).trigs = d.trigs := rfl
@[simp] theorem Dev.setRef_out (d : Dev) (r : Nat) (x : RefMon) : (d.setRef r x).out = d.out := rfl
@[simp] theorem Dev.setRef_free (d : Dev) (r : Nat) (x : RefMon) : (d.setRef r x).free = d.free := rfl

@[simp] theorem Dev.setOut_regs (d : Dev) (o : Nat) (x : OutCh) : (d.setOut o x).regs = d.regs := rfl
@[simp] theorem Dev.setOut_pend (d : Dev) (o : Nat) (x : OutCh) : (d.setOut o x).pend = d.pend := rfl
@[simp] theorem Dev.setOut_now (d : Dev) (o : Nat) (x : OutCh) : (d.setOut o x).now = d.now := rfl
@[simp] theorem Dev.setOut_glb (d : Dev) (o : Nat) (x : OutCh) : (d.setOut o x).glb = d.glb := rfl
@[simp] theorem Dev.setOut_cmd (d : Dev) (o : Nat) (x : OutCh) : (d.setOut o x).cmd = d.cmd := rfl
@[simp] theorem Dev.setOut_flt (d : Dev) (o : Nat) (x : OutCh) : (d.setOut o x).flt = d.flt := rfl
@[simp] theorem Dev.setOut_evt (d : Dev) (o : Nat) (x : OutCh) : (d.setOut o x).evt = d.evt := rfl
@[simp] theorem Dev.setOut_time (d : Dev) (o : Nat) (x : OutCh) : (d.setOut o x).time = d.time := rfl
@[simp] theorem Dev.setOut_tick (d : Dev) (o : Nat) (x : OutCh) : (d.setOut o x).tick = d.tick := rfl
@[simp] theorem Dev.setOut_clk (d : Dev) (o : Nat) (x : OutCh) : (d.setOut o x).clk = d.clk := rfl
@[simp] theorem Dev.setOut_ms (d : Dev) (o : Nat) (x : OutCh) : (d.setOut o x).ms = d.ms := rfl
@[simp] theorem Dev.setOut_refs (d : Dev) (o : Nat) (x : OutCh) : (d.setOut o x).refs = d.refs := rfl
@[simp] theorem Dev.setOut_selAt (d : Dev) (o : Nat) (x : OutCh) : (d.setOut o x).selAt = d.selAt := rfl
@[simp] theorem Dev.setOut_outs (d : Dev) (o : Nat) (x : OutCh) : (d.setOut o x).outs = Tbl.put d.outs o x := rfl
@[simp] theorem Dev.setOut_cal (d : Dev) (o : Nat) (x : OutCh) : (d.setOut o x).cal = d.cal := rfl
@[simp] theorem Dev.setOut_sh (d : Dev) (o : Nat) (x : OutCh) : (d.setOut o x).sh = d.sh := rfl
@[simp] theorem Dev.setOut_fo (d : Dev) (o : Nat) (x : OutCh) : (d.setOut o x).fo = d.fo := rfl
@[simp] theorem Dev.setOut_link (d : Dev) (o : Nat) (x : OutCh) : (d.setOut o x).link = d.link := rfl
@[simp] theorem Dev.setOut_store (d : Dev) (o : Nat) (x : OutCh) : (d.setOut o x).store = d.store := rfl
@[simp] theorem Dev.setOut_mgmt (d : Dev) (o : Nat) (x : OutCh) : (d.setOut o x).mgmt = d.mgmt := rfl
@[simp] theorem Dev.setOut_pwr (d : Dev) (o : Nat) (x : OutCh) : (d.setOut o x).pwr = d.pwr := rfl
@[simp] theorem Dev.setOut_boot (d : Dev) (o : Nat) (x : OutCh) : (d.setOut o x).boot = d.boot := rfl
@[simp] theorem Dev.setOut_snaps (d : Dev) (o : Nat) (x : OutCh) : (d.setOut o x).snaps = d.snaps := rfl
@[simp] theorem Dev.setOut_tap (d : Dev) (o : Nat) (x : OutCh) : (d.setOut o x).tap = d.tap := rfl
@[simp] theorem Dev.setOut_field (d : Dev) (o : Nat) (x : OutCh) : (d.setOut o x).field = d.field := rfl
@[simp] theorem Dev.setOut_msix (d : Dev) (o : Nat) (x : OutCh) : (d.setOut o x).msix = d.msix := rfl
@[simp] theorem Dev.setOut_baseGen (d : Dev) (o : Nat) (x : OutCh) : (d.setOut o x).baseGen = d.baseGen := rfl
@[simp] theorem Dev.setOut_gens (d : Dev) (o : Nat) (x : OutCh) : (d.setOut o x).gens = d.gens := rfl
@[simp] theorem Dev.setOut_replies (d : Dev) (o : Nat) (x : OutCh) : (d.setOut o x).replies = d.replies := rfl
@[simp] theorem Dev.setOut_pendNow (d : Dev) (o : Nat) (x : OutCh) : (d.setOut o x).pendNow = d.pendNow := rfl
@[simp] theorem Dev.setOut_pendLate (d : Dev) (o : Nat) (x : OutCh) : (d.setOut o x).pendLate = d.pendLate := rfl
@[simp] theorem Dev.setOut_schedPend (d : Dev) (o : Nat) (x : OutCh) : (d.setOut o x).schedPend = d.schedPend := rfl
@[simp] theorem Dev.setOut_armed (d : Dev) (o : Nat) (x : OutCh) : (d.setOut o x).armed = d.armed := rfl
@[simp] theorem Dev.setOut_trigs (d : Dev) (o : Nat) (x : OutCh) : (d.setOut o x).trigs = d.trigs := rfl
@[simp] theorem Dev.setOut_out (d : Dev) (o : Nat) (x : OutCh) : (d.setOut o x).out = d.out := rfl
@[simp] theorem Dev.setOut_free (d : Dev) (o : Nat) (x : OutCh) : (d.setOut o x).free = d.free := rfl

@[simp] theorem Dev.setCal_regs (d : Dev) (n : Nat) (x : CalMs) : (d.setCal n x).regs = d.regs := rfl
@[simp] theorem Dev.setCal_pend (d : Dev) (n : Nat) (x : CalMs) : (d.setCal n x).pend = d.pend := rfl
@[simp] theorem Dev.setCal_now (d : Dev) (n : Nat) (x : CalMs) : (d.setCal n x).now = d.now := rfl
@[simp] theorem Dev.setCal_glb (d : Dev) (n : Nat) (x : CalMs) : (d.setCal n x).glb = d.glb := rfl
@[simp] theorem Dev.setCal_cmd (d : Dev) (n : Nat) (x : CalMs) : (d.setCal n x).cmd = d.cmd := rfl
@[simp] theorem Dev.setCal_flt (d : Dev) (n : Nat) (x : CalMs) : (d.setCal n x).flt = d.flt := rfl
@[simp] theorem Dev.setCal_evt (d : Dev) (n : Nat) (x : CalMs) : (d.setCal n x).evt = d.evt := rfl
@[simp] theorem Dev.setCal_time (d : Dev) (n : Nat) (x : CalMs) : (d.setCal n x).time = d.time := rfl
@[simp] theorem Dev.setCal_tick (d : Dev) (n : Nat) (x : CalMs) : (d.setCal n x).tick = d.tick := rfl
@[simp] theorem Dev.setCal_clk (d : Dev) (n : Nat) (x : CalMs) : (d.setCal n x).clk = d.clk := rfl
@[simp] theorem Dev.setCal_ms (d : Dev) (n : Nat) (x : CalMs) : (d.setCal n x).ms = d.ms := rfl
@[simp] theorem Dev.setCal_refs (d : Dev) (n : Nat) (x : CalMs) : (d.setCal n x).refs = d.refs := rfl
@[simp] theorem Dev.setCal_selAt (d : Dev) (n : Nat) (x : CalMs) : (d.setCal n x).selAt = d.selAt := rfl
@[simp] theorem Dev.setCal_outs (d : Dev) (n : Nat) (x : CalMs) : (d.setCal n x).outs = d.outs := rfl
@[simp] theorem Dev.setCal_cal (d : Dev) (n : Nat) (x : CalMs) : (d.setCal n x).cal = { d.cal with ms := Tbl.put d.cal.ms n x } := rfl
@[simp] theorem Dev.setCal_sh (d : Dev) (n : Nat) (x : CalMs) : (d.setCal n x).sh = d.sh := rfl
@[simp] theorem Dev.setCal_fo (d : Dev) (n : Nat) (x : CalMs) : (d.setCal n x).fo = d.fo := rfl
@[simp] theorem Dev.setCal_link (d : Dev) (n : Nat) (x : CalMs) : (d.setCal n x).link = d.link := rfl
@[simp] theorem Dev.setCal_store (d : Dev) (n : Nat) (x : CalMs) : (d.setCal n x).store = d.store := rfl
@[simp] theorem Dev.setCal_mgmt (d : Dev) (n : Nat) (x : CalMs) : (d.setCal n x).mgmt = d.mgmt := rfl
@[simp] theorem Dev.setCal_pwr (d : Dev) (n : Nat) (x : CalMs) : (d.setCal n x).pwr = d.pwr := rfl
@[simp] theorem Dev.setCal_boot (d : Dev) (n : Nat) (x : CalMs) : (d.setCal n x).boot = d.boot := rfl
@[simp] theorem Dev.setCal_snaps (d : Dev) (n : Nat) (x : CalMs) : (d.setCal n x).snaps = d.snaps := rfl
@[simp] theorem Dev.setCal_tap (d : Dev) (n : Nat) (x : CalMs) : (d.setCal n x).tap = d.tap := rfl
@[simp] theorem Dev.setCal_field (d : Dev) (n : Nat) (x : CalMs) : (d.setCal n x).field = d.field := rfl
@[simp] theorem Dev.setCal_msix (d : Dev) (n : Nat) (x : CalMs) : (d.setCal n x).msix = d.msix := rfl
@[simp] theorem Dev.setCal_baseGen (d : Dev) (n : Nat) (x : CalMs) : (d.setCal n x).baseGen = d.baseGen := rfl
@[simp] theorem Dev.setCal_gens (d : Dev) (n : Nat) (x : CalMs) : (d.setCal n x).gens = d.gens := rfl
@[simp] theorem Dev.setCal_replies (d : Dev) (n : Nat) (x : CalMs) : (d.setCal n x).replies = d.replies := rfl
@[simp] theorem Dev.setCal_pendNow (d : Dev) (n : Nat) (x : CalMs) : (d.setCal n x).pendNow = d.pendNow := rfl
@[simp] theorem Dev.setCal_pendLate (d : Dev) (n : Nat) (x : CalMs) : (d.setCal n x).pendLate = d.pendLate := rfl
@[simp] theorem Dev.setCal_schedPend (d : Dev) (n : Nat) (x : CalMs) : (d.setCal n x).schedPend = d.schedPend := rfl
@[simp] theorem Dev.setCal_armed (d : Dev) (n : Nat) (x : CalMs) : (d.setCal n x).armed = d.armed := rfl
@[simp] theorem Dev.setCal_trigs (d : Dev) (n : Nat) (x : CalMs) : (d.setCal n x).trigs = d.trigs := rfl
@[simp] theorem Dev.setCal_out (d : Dev) (n : Nat) (x : CalMs) : (d.setCal n x).out = d.out := rfl
@[simp] theorem Dev.setCal_free (d : Dev) (n : Nat) (x : CalMs) : (d.setCal n x).free = d.free := rfl

@[simp] theorem Dev.setShaft_regs (d : Dev) (s : Nat) (x : Shaft) : (d.setShaft s x).regs = d.regs := rfl
@[simp] theorem Dev.setShaft_pend (d : Dev) (s : Nat) (x : Shaft) : (d.setShaft s x).pend = d.pend := rfl
@[simp] theorem Dev.setShaft_now (d : Dev) (s : Nat) (x : Shaft) : (d.setShaft s x).now = d.now := rfl
@[simp] theorem Dev.setShaft_glb (d : Dev) (s : Nat) (x : Shaft) : (d.setShaft s x).glb = d.glb := rfl
@[simp] theorem Dev.setShaft_cmd (d : Dev) (s : Nat) (x : Shaft) : (d.setShaft s x).cmd = d.cmd := rfl
@[simp] theorem Dev.setShaft_flt (d : Dev) (s : Nat) (x : Shaft) : (d.setShaft s x).flt = d.flt := rfl
@[simp] theorem Dev.setShaft_evt (d : Dev) (s : Nat) (x : Shaft) : (d.setShaft s x).evt = d.evt := rfl
@[simp] theorem Dev.setShaft_time (d : Dev) (s : Nat) (x : Shaft) : (d.setShaft s x).time = d.time := rfl
@[simp] theorem Dev.setShaft_tick (d : Dev) (s : Nat) (x : Shaft) : (d.setShaft s x).tick = d.tick := rfl
@[simp] theorem Dev.setShaft_clk (d : Dev) (s : Nat) (x : Shaft) : (d.setShaft s x).clk = d.clk := rfl
@[simp] theorem Dev.setShaft_ms (d : Dev) (s : Nat) (x : Shaft) : (d.setShaft s x).ms = d.ms := rfl
@[simp] theorem Dev.setShaft_refs (d : Dev) (s : Nat) (x : Shaft) : (d.setShaft s x).refs = d.refs := rfl
@[simp] theorem Dev.setShaft_selAt (d : Dev) (s : Nat) (x : Shaft) : (d.setShaft s x).selAt = d.selAt := rfl
@[simp] theorem Dev.setShaft_outs (d : Dev) (s : Nat) (x : Shaft) : (d.setShaft s x).outs = d.outs := rfl
@[simp] theorem Dev.setShaft_cal (d : Dev) (s : Nat) (x : Shaft) : (d.setShaft s x).cal = d.cal := rfl
@[simp] theorem Dev.setShaft_sh (d : Dev) (s : Nat) (x : Shaft) : (d.setShaft s x).sh = { d.sh with shafts := Tbl.put d.sh.shafts s x } := rfl
@[simp] theorem Dev.setShaft_fo (d : Dev) (s : Nat) (x : Shaft) : (d.setShaft s x).fo = d.fo := rfl
@[simp] theorem Dev.setShaft_link (d : Dev) (s : Nat) (x : Shaft) : (d.setShaft s x).link = d.link := rfl
@[simp] theorem Dev.setShaft_store (d : Dev) (s : Nat) (x : Shaft) : (d.setShaft s x).store = d.store := rfl
@[simp] theorem Dev.setShaft_mgmt (d : Dev) (s : Nat) (x : Shaft) : (d.setShaft s x).mgmt = d.mgmt := rfl
@[simp] theorem Dev.setShaft_pwr (d : Dev) (s : Nat) (x : Shaft) : (d.setShaft s x).pwr = d.pwr := rfl
@[simp] theorem Dev.setShaft_boot (d : Dev) (s : Nat) (x : Shaft) : (d.setShaft s x).boot = d.boot := rfl
@[simp] theorem Dev.setShaft_snaps (d : Dev) (s : Nat) (x : Shaft) : (d.setShaft s x).snaps = d.snaps := rfl
@[simp] theorem Dev.setShaft_tap (d : Dev) (s : Nat) (x : Shaft) : (d.setShaft s x).tap = d.tap := rfl
@[simp] theorem Dev.setShaft_field (d : Dev) (s : Nat) (x : Shaft) : (d.setShaft s x).field = d.field := rfl
@[simp] theorem Dev.setShaft_msix (d : Dev) (s : Nat) (x : Shaft) : (d.setShaft s x).msix = d.msix := rfl
@[simp] theorem Dev.setShaft_baseGen (d : Dev) (s : Nat) (x : Shaft) : (d.setShaft s x).baseGen = d.baseGen := rfl
@[simp] theorem Dev.setShaft_gens (d : Dev) (s : Nat) (x : Shaft) : (d.setShaft s x).gens = d.gens := rfl
@[simp] theorem Dev.setShaft_replies (d : Dev) (s : Nat) (x : Shaft) : (d.setShaft s x).replies = d.replies := rfl
@[simp] theorem Dev.setShaft_pendNow (d : Dev) (s : Nat) (x : Shaft) : (d.setShaft s x).pendNow = d.pendNow := rfl
@[simp] theorem Dev.setShaft_pendLate (d : Dev) (s : Nat) (x : Shaft) : (d.setShaft s x).pendLate = d.pendLate := rfl
@[simp] theorem Dev.setShaft_schedPend (d : Dev) (s : Nat) (x : Shaft) : (d.setShaft s x).schedPend = d.schedPend := rfl
@[simp] theorem Dev.setShaft_armed (d : Dev) (s : Nat) (x : Shaft) : (d.setShaft s x).armed = d.armed := rfl
@[simp] theorem Dev.setShaft_trigs (d : Dev) (s : Nat) (x : Shaft) : (d.setShaft s x).trigs = d.trigs := rfl
@[simp] theorem Dev.setShaft_out (d : Dev) (s : Nat) (x : Shaft) : (d.setShaft s x).out = d.out := rfl
@[simp] theorem Dev.setShaft_free (d : Dev) (s : Nat) (x : Shaft) : (d.setShaft s x).free = d.free := rfl

@[simp] theorem Dev.setFol_regs (d : Dev) (f : Nat) (x : Fol) : (d.setFol f x).regs = d.regs := rfl
@[simp] theorem Dev.setFol_pend (d : Dev) (f : Nat) (x : Fol) : (d.setFol f x).pend = d.pend := rfl
@[simp] theorem Dev.setFol_now (d : Dev) (f : Nat) (x : Fol) : (d.setFol f x).now = d.now := rfl
@[simp] theorem Dev.setFol_glb (d : Dev) (f : Nat) (x : Fol) : (d.setFol f x).glb = d.glb := rfl
@[simp] theorem Dev.setFol_cmd (d : Dev) (f : Nat) (x : Fol) : (d.setFol f x).cmd = d.cmd := rfl
@[simp] theorem Dev.setFol_flt (d : Dev) (f : Nat) (x : Fol) : (d.setFol f x).flt = d.flt := rfl
@[simp] theorem Dev.setFol_evt (d : Dev) (f : Nat) (x : Fol) : (d.setFol f x).evt = d.evt := rfl
@[simp] theorem Dev.setFol_time (d : Dev) (f : Nat) (x : Fol) : (d.setFol f x).time = d.time := rfl
@[simp] theorem Dev.setFol_tick (d : Dev) (f : Nat) (x : Fol) : (d.setFol f x).tick = d.tick := rfl
@[simp] theorem Dev.setFol_clk (d : Dev) (f : Nat) (x : Fol) : (d.setFol f x).clk = d.clk := rfl
@[simp] theorem Dev.setFol_ms (d : Dev) (f : Nat) (x : Fol) : (d.setFol f x).ms = d.ms := rfl
@[simp] theorem Dev.setFol_refs (d : Dev) (f : Nat) (x : Fol) : (d.setFol f x).refs = d.refs := rfl
@[simp] theorem Dev.setFol_selAt (d : Dev) (f : Nat) (x : Fol) : (d.setFol f x).selAt = d.selAt := rfl
@[simp] theorem Dev.setFol_outs (d : Dev) (f : Nat) (x : Fol) : (d.setFol f x).outs = d.outs := rfl
@[simp] theorem Dev.setFol_cal (d : Dev) (f : Nat) (x : Fol) : (d.setFol f x).cal = d.cal := rfl
@[simp] theorem Dev.setFol_sh (d : Dev) (f : Nat) (x : Fol) : (d.setFol f x).sh = d.sh := rfl
@[simp] theorem Dev.setFol_fo (d : Dev) (f : Nat) (x : Fol) : (d.setFol f x).fo = { d.fo with fols := Tbl.put d.fo.fols f x } := rfl
@[simp] theorem Dev.setFol_link (d : Dev) (f : Nat) (x : Fol) : (d.setFol f x).link = d.link := rfl
@[simp] theorem Dev.setFol_store (d : Dev) (f : Nat) (x : Fol) : (d.setFol f x).store = d.store := rfl
@[simp] theorem Dev.setFol_mgmt (d : Dev) (f : Nat) (x : Fol) : (d.setFol f x).mgmt = d.mgmt := rfl
@[simp] theorem Dev.setFol_pwr (d : Dev) (f : Nat) (x : Fol) : (d.setFol f x).pwr = d.pwr := rfl
@[simp] theorem Dev.setFol_boot (d : Dev) (f : Nat) (x : Fol) : (d.setFol f x).boot = d.boot := rfl
@[simp] theorem Dev.setFol_snaps (d : Dev) (f : Nat) (x : Fol) : (d.setFol f x).snaps = d.snaps := rfl
@[simp] theorem Dev.setFol_tap (d : Dev) (f : Nat) (x : Fol) : (d.setFol f x).tap = d.tap := rfl
@[simp] theorem Dev.setFol_field (d : Dev) (f : Nat) (x : Fol) : (d.setFol f x).field = d.field := rfl
@[simp] theorem Dev.setFol_msix (d : Dev) (f : Nat) (x : Fol) : (d.setFol f x).msix = d.msix := rfl
@[simp] theorem Dev.setFol_baseGen (d : Dev) (f : Nat) (x : Fol) : (d.setFol f x).baseGen = d.baseGen := rfl
@[simp] theorem Dev.setFol_gens (d : Dev) (f : Nat) (x : Fol) : (d.setFol f x).gens = d.gens := rfl
@[simp] theorem Dev.setFol_replies (d : Dev) (f : Nat) (x : Fol) : (d.setFol f x).replies = d.replies := rfl
@[simp] theorem Dev.setFol_pendNow (d : Dev) (f : Nat) (x : Fol) : (d.setFol f x).pendNow = d.pendNow := rfl
@[simp] theorem Dev.setFol_pendLate (d : Dev) (f : Nat) (x : Fol) : (d.setFol f x).pendLate = d.pendLate := rfl
@[simp] theorem Dev.setFol_schedPend (d : Dev) (f : Nat) (x : Fol) : (d.setFol f x).schedPend = d.schedPend := rfl
@[simp] theorem Dev.setFol_armed (d : Dev) (f : Nat) (x : Fol) : (d.setFol f x).armed = d.armed := rfl
@[simp] theorem Dev.setFol_trigs (d : Dev) (f : Nat) (x : Fol) : (d.setFol f x).trigs = d.trigs := rfl
@[simp] theorem Dev.setFol_out (d : Dev) (f : Nat) (x : Fol) : (d.setFol f x).out = d.out := rfl
@[simp] theorem Dev.setFol_free (d : Dev) (f : Nat) (x : Fol) : (d.setFol f x).free = d.free := rfl

@[simp] theorem Dev.setGrp_regs (d : Dev) (g : Nat) (x : Grp) : (d.setGrp g x).regs = d.regs := rfl
@[simp] theorem Dev.setGrp_pend (d : Dev) (g : Nat) (x : Grp) : (d.setGrp g x).pend = d.pend := rfl
@[simp] theorem Dev.setGrp_now (d : Dev) (g : Nat) (x : Grp) : (d.setGrp g x).now = d.now := rfl
@[simp] theorem Dev.setGrp_glb (d : Dev) (g : Nat) (x : Grp) : (d.setGrp g x).glb = d.glb := rfl
@[simp] theorem Dev.setGrp_cmd (d : Dev) (g : Nat) (x : Grp) : (d.setGrp g x).cmd = d.cmd := rfl
@[simp] theorem Dev.setGrp_flt (d : Dev) (g : Nat) (x : Grp) : (d.setGrp g x).flt = d.flt := rfl
@[simp] theorem Dev.setGrp_evt (d : Dev) (g : Nat) (x : Grp) : (d.setGrp g x).evt = d.evt := rfl
@[simp] theorem Dev.setGrp_time (d : Dev) (g : Nat) (x : Grp) : (d.setGrp g x).time = d.time := rfl
@[simp] theorem Dev.setGrp_tick (d : Dev) (g : Nat) (x : Grp) : (d.setGrp g x).tick = d.tick := rfl
@[simp] theorem Dev.setGrp_clk (d : Dev) (g : Nat) (x : Grp) : (d.setGrp g x).clk = d.clk := rfl
@[simp] theorem Dev.setGrp_ms (d : Dev) (g : Nat) (x : Grp) : (d.setGrp g x).ms = d.ms := rfl
@[simp] theorem Dev.setGrp_refs (d : Dev) (g : Nat) (x : Grp) : (d.setGrp g x).refs = d.refs := rfl
@[simp] theorem Dev.setGrp_selAt (d : Dev) (g : Nat) (x : Grp) : (d.setGrp g x).selAt = d.selAt := rfl
@[simp] theorem Dev.setGrp_outs (d : Dev) (g : Nat) (x : Grp) : (d.setGrp g x).outs = d.outs := rfl
@[simp] theorem Dev.setGrp_cal (d : Dev) (g : Nat) (x : Grp) : (d.setGrp g x).cal = d.cal := rfl
@[simp] theorem Dev.setGrp_sh (d : Dev) (g : Nat) (x : Grp) : (d.setGrp g x).sh = d.sh := rfl
@[simp] theorem Dev.setGrp_fo (d : Dev) (g : Nat) (x : Grp) : (d.setGrp g x).fo = { d.fo with grps := Tbl.put d.fo.grps g x } := rfl
@[simp] theorem Dev.setGrp_link (d : Dev) (g : Nat) (x : Grp) : (d.setGrp g x).link = d.link := rfl
@[simp] theorem Dev.setGrp_store (d : Dev) (g : Nat) (x : Grp) : (d.setGrp g x).store = d.store := rfl
@[simp] theorem Dev.setGrp_mgmt (d : Dev) (g : Nat) (x : Grp) : (d.setGrp g x).mgmt = d.mgmt := rfl
@[simp] theorem Dev.setGrp_pwr (d : Dev) (g : Nat) (x : Grp) : (d.setGrp g x).pwr = d.pwr := rfl
@[simp] theorem Dev.setGrp_boot (d : Dev) (g : Nat) (x : Grp) : (d.setGrp g x).boot = d.boot := rfl
@[simp] theorem Dev.setGrp_snaps (d : Dev) (g : Nat) (x : Grp) : (d.setGrp g x).snaps = d.snaps := rfl
@[simp] theorem Dev.setGrp_tap (d : Dev) (g : Nat) (x : Grp) : (d.setGrp g x).tap = d.tap := rfl
@[simp] theorem Dev.setGrp_field (d : Dev) (g : Nat) (x : Grp) : (d.setGrp g x).field = d.field := rfl
@[simp] theorem Dev.setGrp_msix (d : Dev) (g : Nat) (x : Grp) : (d.setGrp g x).msix = d.msix := rfl
@[simp] theorem Dev.setGrp_baseGen (d : Dev) (g : Nat) (x : Grp) : (d.setGrp g x).baseGen = d.baseGen := rfl
@[simp] theorem Dev.setGrp_gens (d : Dev) (g : Nat) (x : Grp) : (d.setGrp g x).gens = d.gens := rfl
@[simp] theorem Dev.setGrp_replies (d : Dev) (g : Nat) (x : Grp) : (d.setGrp g x).replies = d.replies := rfl
@[simp] theorem Dev.setGrp_pendNow (d : Dev) (g : Nat) (x : Grp) : (d.setGrp g x).pendNow = d.pendNow := rfl
@[simp] theorem Dev.setGrp_pendLate (d : Dev) (g : Nat) (x : Grp) : (d.setGrp g x).pendLate = d.pendLate := rfl
@[simp] theorem Dev.setGrp_schedPend (d : Dev) (g : Nat) (x : Grp) : (d.setGrp g x).schedPend = d.schedPend := rfl
@[simp] theorem Dev.setGrp_armed (d : Dev) (g : Nat) (x : Grp) : (d.setGrp g x).armed = d.armed := rfl
@[simp] theorem Dev.setGrp_trigs (d : Dev) (g : Nat) (x : Grp) : (d.setGrp g x).trigs = d.trigs := rfl
@[simp] theorem Dev.setGrp_out (d : Dev) (g : Nat) (x : Grp) : (d.setGrp g x).out = d.out := rfl
@[simp] theorem Dev.setGrp_free (d : Dev) (g : Nat) (x : Grp) : (d.setGrp g x).free = d.free := rfl

@[simp] theorem Dev.setPort_regs (d : Dev) (p : Nat) (x : PtpPort) : (d.setPort p x).regs = d.regs := rfl
@[simp] theorem Dev.setPort_pend (d : Dev) (p : Nat) (x : PtpPort) : (d.setPort p x).pend = d.pend := rfl
@[simp] theorem Dev.setPort_now (d : Dev) (p : Nat) (x : PtpPort) : (d.setPort p x).now = d.now := rfl
@[simp] theorem Dev.setPort_glb (d : Dev) (p : Nat) (x : PtpPort) : (d.setPort p x).glb = d.glb := rfl
@[simp] theorem Dev.setPort_cmd (d : Dev) (p : Nat) (x : PtpPort) : (d.setPort p x).cmd = d.cmd := rfl
@[simp] theorem Dev.setPort_flt (d : Dev) (p : Nat) (x : PtpPort) : (d.setPort p x).flt = d.flt := rfl
@[simp] theorem Dev.setPort_evt (d : Dev) (p : Nat) (x : PtpPort) : (d.setPort p x).evt = d.evt := rfl
@[simp] theorem Dev.setPort_time (d : Dev) (p : Nat) (x : PtpPort) : (d.setPort p x).time = { d.time with ports := Tbl.put d.time.ports p x } := rfl
@[simp] theorem Dev.setPort_tick (d : Dev) (p : Nat) (x : PtpPort) : (d.setPort p x).tick = d.tick := rfl
@[simp] theorem Dev.setPort_clk (d : Dev) (p : Nat) (x : PtpPort) : (d.setPort p x).clk = d.clk := rfl
@[simp] theorem Dev.setPort_ms (d : Dev) (p : Nat) (x : PtpPort) : (d.setPort p x).ms = d.ms := rfl
@[simp] theorem Dev.setPort_refs (d : Dev) (p : Nat) (x : PtpPort) : (d.setPort p x).refs = d.refs := rfl
@[simp] theorem Dev.setPort_selAt (d : Dev) (p : Nat) (x : PtpPort) : (d.setPort p x).selAt = d.selAt := rfl
@[simp] theorem Dev.setPort_outs (d : Dev) (p : Nat) (x : PtpPort) : (d.setPort p x).outs = d.outs := rfl
@[simp] theorem Dev.setPort_cal (d : Dev) (p : Nat) (x : PtpPort) : (d.setPort p x).cal = d.cal := rfl
@[simp] theorem Dev.setPort_sh (d : Dev) (p : Nat) (x : PtpPort) : (d.setPort p x).sh = d.sh := rfl
@[simp] theorem Dev.setPort_fo (d : Dev) (p : Nat) (x : PtpPort) : (d.setPort p x).fo = d.fo := rfl
@[simp] theorem Dev.setPort_link (d : Dev) (p : Nat) (x : PtpPort) : (d.setPort p x).link = d.link := rfl
@[simp] theorem Dev.setPort_store (d : Dev) (p : Nat) (x : PtpPort) : (d.setPort p x).store = d.store := rfl
@[simp] theorem Dev.setPort_mgmt (d : Dev) (p : Nat) (x : PtpPort) : (d.setPort p x).mgmt = d.mgmt := rfl
@[simp] theorem Dev.setPort_pwr (d : Dev) (p : Nat) (x : PtpPort) : (d.setPort p x).pwr = d.pwr := rfl
@[simp] theorem Dev.setPort_boot (d : Dev) (p : Nat) (x : PtpPort) : (d.setPort p x).boot = d.boot := rfl
@[simp] theorem Dev.setPort_snaps (d : Dev) (p : Nat) (x : PtpPort) : (d.setPort p x).snaps = d.snaps := rfl
@[simp] theorem Dev.setPort_tap (d : Dev) (p : Nat) (x : PtpPort) : (d.setPort p x).tap = d.tap := rfl
@[simp] theorem Dev.setPort_field (d : Dev) (p : Nat) (x : PtpPort) : (d.setPort p x).field = d.field := rfl
@[simp] theorem Dev.setPort_msix (d : Dev) (p : Nat) (x : PtpPort) : (d.setPort p x).msix = d.msix := rfl
@[simp] theorem Dev.setPort_baseGen (d : Dev) (p : Nat) (x : PtpPort) : (d.setPort p x).baseGen = d.baseGen := rfl
@[simp] theorem Dev.setPort_gens (d : Dev) (p : Nat) (x : PtpPort) : (d.setPort p x).gens = d.gens := rfl
@[simp] theorem Dev.setPort_replies (d : Dev) (p : Nat) (x : PtpPort) : (d.setPort p x).replies = d.replies := rfl
@[simp] theorem Dev.setPort_pendNow (d : Dev) (p : Nat) (x : PtpPort) : (d.setPort p x).pendNow = d.pendNow := rfl
@[simp] theorem Dev.setPort_pendLate (d : Dev) (p : Nat) (x : PtpPort) : (d.setPort p x).pendLate = d.pendLate := rfl
@[simp] theorem Dev.setPort_schedPend (d : Dev) (p : Nat) (x : PtpPort) : (d.setPort p x).schedPend = d.schedPend := rfl
@[simp] theorem Dev.setPort_armed (d : Dev) (p : Nat) (x : PtpPort) : (d.setPort p x).armed = d.armed := rfl
@[simp] theorem Dev.setPort_trigs (d : Dev) (p : Nat) (x : PtpPort) : (d.setPort p x).trigs = d.trigs := rfl
@[simp] theorem Dev.setPort_out (d : Dev) (p : Nat) (x : PtpPort) : (d.setPort p x).out = d.out := rfl
@[simp] theorem Dev.setPort_free (d : Dev) (p : Nat) (x : PtpPort) : (d.setPort p x).free = d.free := rfl

@[simp] theorem Dev.setStream_regs (d : Dev) (i : Nat) (x : Stream) : (d.setStream i x).regs = d.regs := rfl
@[simp] theorem Dev.setStream_pend (d : Dev) (i : Nat) (x : Stream) : (d.setStream i x).pend = d.pend := rfl
@[simp] theorem Dev.setStream_now (d : Dev) (i : Nat) (x : Stream) : (d.setStream i x).now = d.now := rfl
@[simp] theorem Dev.setStream_glb (d : Dev) (i : Nat) (x : Stream) : (d.setStream i x).glb = d.glb := rfl
@[simp] theorem Dev.setStream_cmd (d : Dev) (i : Nat) (x : Stream) : (d.setStream i x).cmd = d.cmd := rfl
@[simp] theorem Dev.setStream_flt (d : Dev) (i : Nat) (x : Stream) : (d.setStream i x).flt = d.flt := rfl
@[simp] theorem Dev.setStream_evt (d : Dev) (i : Nat) (x : Stream) : (d.setStream i x).evt = d.evt := rfl
@[simp] theorem Dev.setStream_time (d : Dev) (i : Nat) (x : Stream) : (d.setStream i x).time = d.time := rfl
@[simp] theorem Dev.setStream_tick (d : Dev) (i : Nat) (x : Stream) : (d.setStream i x).tick = d.tick := rfl
@[simp] theorem Dev.setStream_clk (d : Dev) (i : Nat) (x : Stream) : (d.setStream i x).clk = d.clk := rfl
@[simp] theorem Dev.setStream_ms (d : Dev) (i : Nat) (x : Stream) : (d.setStream i x).ms = d.ms := rfl
@[simp] theorem Dev.setStream_refs (d : Dev) (i : Nat) (x : Stream) : (d.setStream i x).refs = d.refs := rfl
@[simp] theorem Dev.setStream_selAt (d : Dev) (i : Nat) (x : Stream) : (d.setStream i x).selAt = d.selAt := rfl
@[simp] theorem Dev.setStream_outs (d : Dev) (i : Nat) (x : Stream) : (d.setStream i x).outs = d.outs := rfl
@[simp] theorem Dev.setStream_cal (d : Dev) (i : Nat) (x : Stream) : (d.setStream i x).cal = d.cal := rfl
@[simp] theorem Dev.setStream_sh (d : Dev) (i : Nat) (x : Stream) : (d.setStream i x).sh = d.sh := rfl
@[simp] theorem Dev.setStream_fo (d : Dev) (i : Nat) (x : Stream) : (d.setStream i x).fo = d.fo := rfl
@[simp] theorem Dev.setStream_link (d : Dev) (i : Nat) (x : Stream) : (d.setStream i x).link = d.link := rfl
@[simp] theorem Dev.setStream_store (d : Dev) (i : Nat) (x : Stream) : (d.setStream i x).store = { d.store with streams := Tbl.put d.store.streams i x } := rfl
@[simp] theorem Dev.setStream_mgmt (d : Dev) (i : Nat) (x : Stream) : (d.setStream i x).mgmt = d.mgmt := rfl
@[simp] theorem Dev.setStream_pwr (d : Dev) (i : Nat) (x : Stream) : (d.setStream i x).pwr = d.pwr := rfl
@[simp] theorem Dev.setStream_boot (d : Dev) (i : Nat) (x : Stream) : (d.setStream i x).boot = d.boot := rfl
@[simp] theorem Dev.setStream_snaps (d : Dev) (i : Nat) (x : Stream) : (d.setStream i x).snaps = d.snaps := rfl
@[simp] theorem Dev.setStream_tap (d : Dev) (i : Nat) (x : Stream) : (d.setStream i x).tap = d.tap := rfl
@[simp] theorem Dev.setStream_field (d : Dev) (i : Nat) (x : Stream) : (d.setStream i x).field = d.field := rfl
@[simp] theorem Dev.setStream_msix (d : Dev) (i : Nat) (x : Stream) : (d.setStream i x).msix = d.msix := rfl
@[simp] theorem Dev.setStream_baseGen (d : Dev) (i : Nat) (x : Stream) : (d.setStream i x).baseGen = d.baseGen := rfl
@[simp] theorem Dev.setStream_gens (d : Dev) (i : Nat) (x : Stream) : (d.setStream i x).gens = d.gens := rfl
@[simp] theorem Dev.setStream_replies (d : Dev) (i : Nat) (x : Stream) : (d.setStream i x).replies = d.replies := rfl
@[simp] theorem Dev.setStream_pendNow (d : Dev) (i : Nat) (x : Stream) : (d.setStream i x).pendNow = d.pendNow := rfl
@[simp] theorem Dev.setStream_pendLate (d : Dev) (i : Nat) (x : Stream) : (d.setStream i x).pendLate = d.pendLate := rfl
@[simp] theorem Dev.setStream_schedPend (d : Dev) (i : Nat) (x : Stream) : (d.setStream i x).schedPend = d.schedPend := rfl
@[simp] theorem Dev.setStream_armed (d : Dev) (i : Nat) (x : Stream) : (d.setStream i x).armed = d.armed := rfl
@[simp] theorem Dev.setStream_trigs (d : Dev) (i : Nat) (x : Stream) : (d.setStream i x).trigs = d.trigs := rfl
@[simp] theorem Dev.setStream_out (d : Dev) (i : Nat) (x : Stream) : (d.setStream i x).out = d.out := rfl
@[simp] theorem Dev.setStream_free (d : Dev) (i : Nat) (x : Stream) : (d.setStream i x).free = d.free := rfl

end Sys2Proof.Machine
end

