-- ==== Sys2Proof/Tests/Slice0.lean ====
section
/-! SUPPORT. Tests: ill-formed rows that the check refuses, states that meet the hypotheses of each statement, and small checks of single operations. -/

open Sys2Proof Sys2Proof.Machine

namespace Sys2Proof.Tests

set_option Elab.async false

/-! ### A device to start from -/

/-- A device with some fields set. -/
def poke (d : Dev) (l : List (Fld × Nat)) : Dev := l.foldl (fun d p => d.set p.1 p.2) d

/-- A profile of one segment with A = 2^20 and J = 1; `src` 2 takes the shaft's target, 0 its own of 0. -/
def prof (src : Nat) : Prof := ⟨0, [packFields [(8, 0), (8, 2 ^ 20), (8, 1), (4, 0), (4, 1 + src)]], true⟩

/-- A shaft that runs profiles 0 and 1. -/
def shaft (st : ObjState) (sub : Nat) : Shaft :=
  let c : ShaftCfg := { ShaftCfg.reset with run := 0x06000000, stop := 0x06000001 }
  { Shaft.reset with st := st, sub := sub, cfg := c, ncfg := c }

/-- A follower of shaft 2 in slot `slot` of group 0. -/
def fol (st : ObjState) (lock slot : Nat) : Fol :=
  let b : FolBind := ⟨2, none, 0, slot, 0, 1, 1⟩
  { Fol.reset with st := st, lock := lock, bind := some b, nbind := some b }

/-- A device in RUN with its oscillator active, every domain on, a tick of 1 ms open with index 100, MS0 locked, MS2 enabled, MS3 off, and some of
each kind of object. -/
def rig : Dev :=
  let d : Dev := { Dev.powerOn with
    regs := [],
    boot := { BootState.powerOn with powered := true, hpeUp := true },
    glb := { GlbState.powerOn with mode := .run, regsReady := true },
    tick := { TickState.powerOn with running := true, phase := 1, index := 100, nextK := 101, bound := 100 * 65536000000, num := 65536000000, den := 1 },
    time := { TimeState.powerOn with tod := 6553700000000 * 2 ^ 32, st := .locked, everValid := true },
    outs := [(0, { OutCh.reset with st := .configured, sub := .idle }), (1, { OutCh.reset with st := .running, sub := .active })],
    refs := [(1, { RefMon.reset with bound := true })],
    sh := { ShaftState.empty with
      shafts := [(0, shaft .configured 0), (1, shaft .running 3), (2, shaft .configured 0), (3, shaft .stopped 0)], profs := [(0, prof 2), (1, prof 0), (2,
        prof 0)] },
    fo := { FolState.empty with
      fols := [(0, fol .configured 1 0), (1, fol .running 3 1), (2, fol .running 5 2), (3, { Fol.reset with st := .created })],
      cams := [(0, ⟨0, 0, [[], []], [[], []], false⟩)], grps := [(0, { Grp.reset with mask := 1, nmask := 1 }), (1, Grp.reset)] },
    store := { StoreState.powerOn with streams := [(0, { Stream.reset with st := .configured }), (1, { Stream.reset with st := .running })] },
    snaps := [(0, ⟨90, [], [], [], some [1, 2, 3]⟩)] }
  let d := poke (d.setWord R.PWR_DOMAIN_STATUS 0xFFFFFF) [(F.REF_OSC_STATUS.OSC_ACTIVE, 1), (F.REF_OSC_NOM.OSC_NOM, 50000000), (F.STORE_STATUS.STATE, 4),
    (F.MGMT_STATUS.ONLINE, 15),
    (F.OUT_BANKb_STATUS.VDDO_LEVEL 0, 3), (F.OUTn_DIV.DIV 0, 1000), (F.OUTn_DIV.DIV 1, 1000), (F.OUTn_CTRL.SRC_MS 1, 2),
    (F.TICK_SCHED0.FB_CUT, 100), (F.TICK_SCHED0.CS, 200), (F.TICK_SCHED1.PUB, 600), (F.TICK_SCHED1.PUB_MARGIN, 1000),
    (F.MSn_CTRL.OSC_PRE 0, 1), (F.MSn_CTRL.OSC_PRE 3, 1), (F.MSn_NINT.N_INT 0, 125), (F.MSn_CTRL.EN 0, 1), (F.MSn_STATUS.ENABLED 0, 1), (F.MSn_STATUS.LOCKED
      0, 1), (F.CALn_STATUS.RUNNING 2, 1),
    (F.MSn_CTRL.EN 2, 1), (F.MSn_STATUS.RAMPING 2, 1), (F.MSn_NINT.N_INT 3, 125), (F.BAND_CAP.VALID 3 0, 1), (F.BAND_CAP.VALID 0 0, 1)]
  let d := [0, 3].foldl (fun d n => (d.setWord (R.BAND_F_LO n 0) 12000000).setWord (R.BAND_F_HI n 0) 13000000) d
  poke (d.set64 (R.MSn_SEG_TARGET_LO 0 0) (125 * 2 ^ 48)) [(F.MSn_SEG_DWELL.LAST 0 0, 1), (⟨R.MSn_SEG_SLOPE 0 0, 0, 32⟩, 1)]

/-- The entry of a command. -/
def entryOf (op flags handle : Nat) (ps : List (Nat × Nat)) : Entry :=
  let p := packFields ps
  ⟨leBytes 2 op ++ leBytes 2 flags ++ leBytes 4 7 ++ leBytes 4 handle ++ leBytes 4 0 ++ p ++ List.replicate (48 - p.length) 0, 0, 0, 0, 0, 0, false⟩

/-- The entry of a command of a row, its parameters by their values. -/
def entryFor (spec : CmdSpec) (flags handle : Nat) (vs : List Nat) : Entry :=
  entryOf spec.opcode flags handle (List.zipWith (fun (f : PField) v => (f.bytes, v)) spec.params vs)

/-- The device with an entry at the front of ring 0. -/
def load (d : Dev) (e : Entry) : Dev :=
  { d with cmd := { d.cmd with rings := Tbl.put d.cmd.rings 0 { Ring.reset with enabled := true, fetched := [e] } } }

/-- Whether a command in that entry is accepted, as one question. -/
def taken? (d : Dev) (spec : CmdSpec) (dma : Option (List Byte)) (e : Entry) : Bool :=
  let c := Cmd.parse (.ring 0) e spec.params dma
  let d1 := (d.popCmd (.ring 0)).countCommand e
  d.boot.powered && !d.boot.rstLow && decide (d.turn = some (.ring 0)) && decide (d.frontOf (.ring 0) = some e) && decide (e.opcode = spec.opcode) &&
    decide (c.timeout = 0) && decide (d1.reject spec c = none) && (!spec.waits c d1 || d1.hasPlace (.ring 0))

/-- Some state accepts a command of a row. -/
def Runs (spec : CmdSpec) (dma : Option (List Byte)) : Prop := ∃ (s : State) (e : Entry), s.up ∧ s.dev.accepts spec (.ring 0) dma e

theorem runs (d : Dev) (spec : CmdSpec) (dma : Option (List Byte)) (e : Entry) (h : taken? (load d e) spec dma e = true) : Runs spec dma := by
  simp only [taken?, Bool.and_eq_true, decide_eq_true_eq, Bool.not_eq_true', Bool.or_eq_true] at h
  refine ⟨⟨load d e, none, []⟩, e, ⟨h.1.1.1.1.1.1.1, h.1.1.1.1.1.1.2⟩, h.1.1.1.1.1.2, h.1.1.1.1.2, h.1.1.1.2, nofun, ?_, h.1.2, ?_⟩
  · intro h1; exact absurd h.1.1.2 h1
  · intro h1
    rcases h.2 with h2 | h2
    · rw [h1] at h2; cases h2
    · exact h2

/-- The same for TIME_EPOCH_SET, which looks at the last tick opened. -/
theorem runsEpoch (d : Dev) (e : Entry) (h : taken? (load d e) (timeEpochSetSpec none) none e = true) :
    ∃ (s : State) (e : Entry), s.up ∧ s.dev.accepts (timeEpochSetSpec s.lastOpened) (.ring 0) none e := by
  simp only [taken?, Bool.and_eq_true, decide_eq_true_eq, Bool.not_eq_true', Bool.or_eq_true] at h
  refine ⟨⟨load d e, none, []⟩, e, ⟨h.1.1.1.1.1.1.1, h.1.1.1.1.1.1.2⟩, h.1.1.1.1.1.2, h.1.1.1.1.2, h.1.1.1.2, nofun, ?_, h.1.2, ?_⟩
  · intro h1; exact absurd h.1.1.2 h1
  · intro h1
    rcases h.2 with h2 | h2
    · rw [h1] at h2; cases h2
    · exact h2

/-! ### Each command is accepted somewhere -/

def mode (m : Mode) (d : Dev) : Dev := { d with glb := { d.glb with mode := m } }

/-- A device that handles a fault. -/
def faulty : Dev := { rig with flt := { rig.flt with rec? := some ⟨⟨1, 1, .u, 0, false, true, false⟩, 1, 1, .u, 2, 2, 0, 100, 6, 0⟩ } }

theorem test_DeviceCommandsRun_meets :
    Runs nopSpec none ∧ Runs getInfoSpec none ∧ Runs modeRequestSpec none ∧ Runs configDigestSpec none ∧ Runs regReadSpec none ∧ Runs regWriteSpec none :=
  ⟨runs rig nopSpec none (entryFor nopSpec 0 0 []) (by decide +kernel),
  runs rig getInfoSpec none (entryFor getInfoSpec 0 0 []) (by decide +kernel),
  runs rig modeRequestSpec none (entryFor modeRequestSpec 0 0 [1]) (by decide +kernel),
  runs rig configDigestSpec none (entryFor configDigestSpec 0 0 [0, 8]) (by decide +kernel),
  runs rig regReadSpec none (entryFor regReadSpec 0 0 [0]) (by decide +kernel),
  runs rig regWriteSpec none (entryFor regWriteSpec 0 0 [R.TIME_CAP_CTRL, 1]) (by decide +kernel)⟩

theorem test_ChannelCommandsRun_meets :
    Runs chCreateSpec none ∧ Runs chDestroySpec none ∧ Runs chConfigSpec none ∧ Runs chStartSpec none ∧ Runs chStopSpec none ∧ Runs chPhaseSpec none ∧ Runs
      chStatusSpec (dmaOf true) ∧ Runs chQuerySpec none :=
  ⟨runs rig chCreateSpec none (entryFor chCreateSpec 0 0 [255]) (by decide +kernel),
  runs rig chDestroySpec none (entryFor chDestroySpec 0 0x1000000 []) (by decide +kernel),
  runs rig chConfigSpec none (entryFor chConfigSpec 0 0x1000000 [0, 0, 0, 0, 0, 0, 0, 0, 4, 0, 0, 0, 8, 0, 1, 0]) (by decide +kernel),
  runs rig chStartSpec none (entryFor chStartSpec 0 0x1000000 [105]) (by decide +kernel),
  runs rig chStopSpec none (entryFor chStopSpec 0 0x1000001 [0]) (by decide +kernel),
  runs rig chPhaseSpec none (entryFor chPhaseSpec 3 0x1000001 [5, 1]) (by decide +kernel),
  runs rig chStatusSpec (dmaOf true) (entryFor chStatusSpec 0 0x1000001 [0]) (by decide +kernel),
  runs rig chQuerySpec none (entryFor chQuerySpec 0 0 [31]) (by decide +kernel)⟩

theorem test_MasterCommandsRun_meets :
    Runs msConfigSpec none ∧ Runs msStartSpec none ∧ Runs msStopSpec none ∧ Runs bandSurveySpec none ∧ Runs msRampLoadSpec none ∧ Runs msRampStartSpec none ∧
      Runs msRampAbortSpec none :=
  ⟨runs rig msConfigSpec none (entryFor msConfigSpec 0 0 [3, 0, 0, 0, 0, 250, 0, 31500, 0, 0]) (by decide +kernel),
  runs rig msStartSpec none (entryFor msStartSpec 0 0 [3]) (by decide +kernel),
  runs rig msStopSpec none (entryFor msStopSpec 0 0 [0]) (by decide +kernel),
  runs rig bandSurveySpec none (entryFor bandSurveySpec 0 0 [3]) (by decide +kernel),
  runs rig msRampLoadSpec none (entryFor msRampLoadSpec 0 0 [3, 15, 1, 125 * 2 ^ 48, 0, 0, 0, 0]) (by decide +kernel),
  runs rig msRampStartSpec none (entryFor msRampStartSpec 0 0 [0, 105]) (by decide +kernel),
  runs rig msRampAbortSpec none (entryFor msRampAbortSpec 0 0 [2]) (by decide +kernel)⟩

theorem test_ReferenceCommandsRun_meets :
    Runs refMonCreateSpec none ∧ Runs refMonDestroySpec none ∧ Runs dpllConfigSpec none ∧ Runs dpllSelectSpec none ∧ Runs dpllHoldoverSpec none ∧ Runs
      holdModelGetSpec (dmaOf true) ∧ Runs holdModelSetSpec none :=
  ⟨runs rig refMonCreateSpec none (entryFor refMonCreateSpec 0 0 [7, 0, 0, 1, 800000000]) (by decide +kernel),
  runs rig refMonDestroySpec none (entryFor refMonDestroySpec 0 0x2000001 []) (by decide +kernel),
  runs rig dpllConfigSpec none (entryFor dpllConfigSpec 0 0 [3, 1, 0, 0, 0, 0, 0, 100, 1000000, 195312, 0, 0]) (by decide +kernel),
  runs rig dpllSelectSpec none (entryFor dpllSelectSpec 0 0 [3, 7]) (by decide +kernel),
  runs rig dpllHoldoverSpec none (entryFor dpllHoldoverSpec 0 0 [3, 1]) (by decide +kernel),
  runs rig holdModelGetSpec (dmaOf true) (entryFor holdModelGetSpec 0 0 [0, 3]) (by decide +kernel),
  runs rig holdModelSetSpec none (entryFor holdModelSetSpec 0 0 [3, 0, 0, 0, 0, 0]) (by decide +kernel)⟩

theorem test_TimeCommandsRun_meets :
    Runs timeSetSpec none ∧ Runs timeAdjustSpec none ∧ Runs timeGetSpec (dmaOf true) ∧ (∃ (s : State) (e : Entry), s.up ∧ s.dev.accepts (timeEpochSetSpec
      s.lastOpened) (.ring 0) none e) ∧ Runs ptpConfigSpec none ∧ Runs ptpPortConfigSpec none ∧ Runs ptpStatusSpec (dmaOf true) ∧ Runs ppsConfigSpec none :=
  ⟨runs (mode .run {rig with sh := ShaftState.empty}) timeSetSpec none (entryFor timeSetSpec 0 0 [5, 999999999, 0]) (by decide +kernel),
  runs rig timeAdjustSpec none (entryFor timeAdjustSpec 0 0 [5]) (by decide +kernel),
  runs rig timeGetSpec (dmaOf true) (entryFor timeGetSpec 0 0 [0]) (by decide +kernel),
  runsEpoch { rig with sh := ShaftState.empty } (entryFor (timeEpochSetSpec none) 0 0 [0, 5000, 0]) (by decide +kernel),
  runs rig ptpConfigSpec none (entryFor ptpConfigSpec 0 0 [0, 0, 0, 0, 0, 0, 0, 0, 0, 0, 0, 0, 2]) (by decide +kernel),
  runs rig ptpPortConfigSpec none (entryFor ptpPortConfigSpec 0 0 [255, 1, 0, 0, 0]) (by decide +kernel),
  runs rig ptpStatusSpec (dmaOf true) (entryFor ptpStatusSpec 0 0 [0, 255]) (by decide +kernel),
  runs rig ppsConfigSpec none (entryFor ppsConfigSpec 0 0 [1, 1, 0, 500, 0, 0]) (by decide +kernel)⟩

theorem test_TickCommandsRun_meets :
    Runs tickStatusSpec (dmaOf true) ∧ Runs tickPeriodSetSpec none ∧ Runs tickSchedSetSpec none ∧ Runs tickWaitSpec none ∧ Runs snapCaptureSpec none ∧ Runs
      snapReadSpec (dmaOf true) ∧ Runs snapReleaseSpec none ∧ Runs lineStartAllSpec none ∧ Runs lineStopAllSpec none :=
  ⟨runs rig tickStatusSpec (dmaOf true) (entryFor tickStatusSpec 0 0 [0]) (by decide +kernel),
  runs {rig with sh := ShaftState.empty} tickPeriodSetSpec none (entryFor tickPeriodSetSpec 0 0 [65536000000, 1, 105]) (by decide +kernel),
  runs rig tickSchedSetSpec none (entryFor tickSchedSetSpec 0 0 [100, 200, 600, 1000, 0]) (by decide +kernel),
  runs rig tickWaitSpec none (entryFor tickWaitSpec 0 0 [101]) (by decide +kernel),
  runs rig snapCaptureSpec none (entryFor snapCaptureSpec 0 0 [0]) (by decide +kernel),
  runs rig snapReadSpec (dmaOf true) (entryFor snapReadSpec 0 0x9000000 [0, 2]) (by decide +kernel),
  runs rig snapReleaseSpec none (entryFor snapReleaseSpec 0 0x9000000 []) (by decide +kernel),
  runs rig lineStartAllSpec none (entryFor lineStartAllSpec 0 0 [102]) (by decide +kernel),
  runs rig lineStopAllSpec none (entryFor lineStopAllSpec 1 0 [102]) (by decide +kernel)⟩

theorem test_ShaftCommandsRun_meets :
    Runs shaftCreateSpec none ∧ Runs shaftDestroySpec none ∧ Runs shaftConfigSpec none ∧ Runs shaftStartSpec none ∧ Runs shaftStopSpec none ∧ Runs
      shaftSpeedSpec none ∧ Runs shaftTrimSpec none ∧ Runs shaftRetuneSpec none ∧ Runs shaftStatusSpec (dmaOf true) ∧ Runs profCreateSpec none ∧ Runs
      profDestroySpec none ∧ Runs profLoadSpec none ∧ Runs profReadSpec (dmaOf true) :=
  ⟨runs rig shaftCreateSpec none (entryFor shaftCreateSpec 0 0 [63, 0]) (by decide +kernel),
  runs rig shaftDestroySpec none (entryFor shaftDestroySpec 0 0x3000000 []) (by decide +kernel),
  runs rig shaftConfigSpec none (entryFor shaftConfigSpec 0 0x3000003 [0x06000000, 0x06000001, 0, 0, 0, 1, 1, 0, 0, 0, 0, 0, 0, 3]) (by decide +kernel),
  runs rig shaftStartSpec none (entryFor shaftStartSpec 0 0x3000000 [102]) (by decide +kernel),
  runs rig shaftStopSpec none (entryFor shaftStopSpec 1 0x3000001 [0]) (by decide +kernel),
  runs rig shaftSpeedSpec none (entryFor shaftSpeedSpec 0 0x3000000 [5, 0, 1]) (by decide +kernel),
  runs rig shaftTrimSpec none (entryFor shaftTrimSpec 1 0x3000000 [5, 1]) (by decide +kernel),
  runs rig shaftRetuneSpec none (entryFor shaftRetuneSpec 0 0x3000001 [5, 0, 1, 102]) (by decide +kernel),
  runs rig shaftStatusSpec (dmaOf true) (entryFor shaftStatusSpec 0 0x3000001 [0]) (by decide +kernel),
  runs rig profCreateSpec none (entryFor profCreateSpec 0 0 [256]) (by decide +kernel),
  runs rig profDestroySpec none (entryFor profDestroySpec 0 0x6000002 []) (by decide +kernel),
  runs rig profLoadSpec none (entryFor profLoadSpec 0 0x6000002 [0, 1, 0, 0]) (by decide +kernel),
  runs rig profReadSpec (dmaOf true) (entryFor profReadSpec 0 0x6000000 [0]) (by decide +kernel)⟩

theorem test_FollowerCommandsRun_meets :
    Runs folCreateSpec none ∧ Runs folDestroySpec none ∧ Runs folConfigSpec none ∧ Runs folStartSpec none ∧ Runs folStopSpec none ∧ Runs folOffsetSpec none ∧
      Runs folLimitsSpec none ∧ Runs folClearSpec none ∧ Runs folStatusSpec (dmaOf true) ∧ Runs camCreateSpec none ∧ Runs camDestroySpec none ∧ Runs
      camLoadSpec none ∧ Runs camReadSpec (dmaOf true) ∧ Runs grpCreateSpec none ∧ Runs grpDestroySpec none ∧ Runs grpConfigSpec none ∧ Runs grpLatencySpec
      none ∧ Runs grpStatusSpec (dmaOf true) :=
  ⟨runs rig folCreateSpec none (entryFor folCreateSpec 0 0 [4095]) (by decide +kernel),
  runs rig folDestroySpec none (entryFor folDestroySpec 0 0x4000000 []) (by decide +kernel),
  runs rig folConfigSpec none (entryFor folConfigSpec 0 0x4000003 [0x3000000, 0, 0x7000000, 1, 1, 31, 0]) (by decide +kernel),
  runs rig folStartSpec none (entryFor folStartSpec 3 0x4000000 [102]) (by decide +kernel),
  runs rig folStopSpec none (entryFor folStopSpec 0 0x4000001 [102]) (by decide +kernel),
  runs rig folOffsetSpec none (entryFor folOffsetSpec 1 0x4000001 [5, 1]) (by decide +kernel),
  runs rig folLimitsSpec none (entryFor folLimitsSpec 0 0x4000001 [1, 2, 1, 0]) (by decide +kernel),
  runs rig folClearSpec none (entryFor folClearSpec 0 0x4000002 []) (by decide +kernel),
  runs rig folStatusSpec (dmaOf true) (entryFor folStatusSpec 0 0x4000001 [0]) (by decide +kernel),
  runs rig camCreateSpec none (entryFor camCreateSpec 0 0 [0, 4096]) (by decide +kernel),
  runs rig camDestroySpec none (entryFor camDestroySpec 0 0x5000000 []) (by decide +kernel),
  runs rig camLoadSpec none (entryFor camLoadSpec 0 0x5000000 [1, 1, 0, 0, 0]) (by decide +kernel),
  runs rig camReadSpec (dmaOf true) (entryFor camReadSpec 0 0x5000000 [0]) (by decide +kernel),
  runs rig grpCreateSpec none (entryFor grpCreateSpec 0 0 [1023]) (by decide +kernel),
  runs rig grpDestroySpec none (entryFor grpDestroySpec 0 0x7000001 []) (by decide +kernel),
  runs rig grpConfigSpec none (entryFor grpConfigSpec 0 0x7000001 [1, 0, 0]) (by decide +kernel),
  runs rig grpLatencySpec none (entryFor grpLatencySpec 0 0x7000000 [1000000, 0]) (by decide +kernel),
  runs rig grpStatusSpec (dmaOf true) (entryFor grpStatusSpec 0 0x7000000 [0]) (by decide +kernel)⟩

theorem test_RecorderCommandsRun_meets :
    Runs calRunSpec none ∧ Runs calAbortSpec none ∧ Runs calStatusSpec none ∧ Runs calSaveSpec none ∧ Runs calRestoreSpec none ∧ Runs calSlotInfoSpec none ∧
      Runs evtReadSpec (dmaOf true) ∧ Runs storeInfoSpec (dmaOf true) ∧ Runs storeFormatSpec none ∧ Runs streamCreateSpec none ∧ Runs streamDestroySpec none
      ∧ Runs streamConfigSpec none ∧ Runs streamStartSpec none ∧ Runs streamStopSpec none ∧ Runs streamTriggerSpec none ∧ Runs storeReadSpec (dmaOf true) :=
  ⟨runs (poke rig [(F.CALn_STATUS.RUNNING 2, 0)]) calRunSpec none (entryFor calRunSpec 0 0 [0, 0]) (by decide +kernel),
  runs rig calAbortSpec none (entryFor calAbortSpec 0 0 [2]) (by decide +kernel),
  runs rig calStatusSpec none (entryFor calStatusSpec 0 0 [3]) (by decide +kernel),
  runs (poke rig [(F.CALn_STATUS.RUNNING 2, 0)]) calSaveSpec none (entryFor calSaveSpec 0 0 []) (by decide +kernel),
  runs (poke rig [(F.CALn_STATUS.RUNNING 2, 0)]) calRestoreSpec none (entryFor calRestoreSpec 0 0 [2]) (by decide +kernel),
  runs rig calSlotInfoSpec none (entryFor calSlotInfoSpec 0 0 [1]) (by decide +kernel),
  runs rig evtReadSpec (dmaOf true) (entryFor evtReadSpec 0 0 [0, 0, 0, 1]) (by decide +kernel),
  runs rig storeInfoSpec (dmaOf true) (entryFor storeInfoSpec 0 0 [0]) (by decide +kernel),
  runs (mode .configure {rig with store := StoreState.powerOn}) storeFormatSpec none (entryFor storeFormatSpec 0 0 []) (by decide +kernel),
  runs rig streamCreateSpec none (entryFor streamCreateSpec 0 0 [7]) (by decide +kernel),
  runs rig streamDestroySpec none (entryFor streamDestroySpec 0 0x8000000 []) (by decide +kernel),
  runs rig streamConfigSpec none (entryFor streamConfigSpec 0 0x8000000 [2, 1, 4095, 1, 0, 0]) (by decide +kernel),
  runs rig streamStartSpec none (entryFor streamStartSpec 0 0x8000000 [102]) (by decide +kernel),
  runs rig streamStopSpec none (entryFor streamStopSpec 0 0x8000001 [0]) (by decide +kernel),
  runs rig streamTriggerSpec none (entryFor streamTriggerSpec 0 0x8000001 []) (by decide +kernel),
  runs rig storeReadSpec (dmaOf true) (entryFor storeReadSpec 0 0x8000000 [0, 0, 0]) (by decide +kernel)⟩

theorem test_FaultCommandsRun_meets :
    Runs fltReadSpec (dmaOf true) ∧ Runs fltAckSpec none ∧ Runs fltReactionSpec none ∧ Runs fltInjectSpec none ∧ Runs fltInjectClearSpec none ∧ Runs
      pwrDomainSetSpec none ∧ Runs pwrStatusSpec none :=
  ⟨runs rig fltReadSpec (dmaOf true) (entryFor fltReadSpec 0 0 [0]) (by decide +kernel),
  runs faulty fltAckSpec none (entryFor fltAckSpec 0 0 []) (by decide +kernel),
  runs rig fltReactionSpec none (entryFor fltReactionSpec 0 0 [1, 2, 4]) (by decide +kernel),
  runs (poke (mode .test rig) [(F.FLT_INJ_MODE.MODE, 1)]) fltInjectSpec none (entryFor fltInjectSpec 0 0 [1, 1]) (by decide +kernel),
  runs (mode .test rig) fltInjectClearSpec none (entryFor fltInjectClearSpec 0 0 [0xFFFF]) (by decide +kernel),
  runs rig pwrDomainSetSpec none (entryFor pwrDomainSetSpec 0 0 [23, 0]) (by decide +kernel),
  runs rig pwrStatusSpec none (entryFor pwrStatusSpec 0 0 []) (by decide +kernel)⟩

theorem test_ReportsChangeNoUnit_meets :
    Runs nopSpec none ∧ Runs getInfoSpec none ∧ Runs chStatusSpec (dmaOf true) ∧ Runs holdModelGetSpec (dmaOf true) ∧ Runs ptpStatusSpec (dmaOf true) ∧ Runs
      tickStatusSpec (dmaOf true) ∧ Runs shaftStatusSpec (dmaOf true) ∧ Runs profReadSpec (dmaOf true) ∧ Runs folStatusSpec (dmaOf true) ∧ Runs camReadSpec
      (dmaOf true) ∧ Runs grpStatusSpec (dmaOf true) ∧ Runs calStatusSpec none ∧ Runs calSlotInfoSpec none ∧ Runs storeInfoSpec (dmaOf true) ∧ Runs
      fltReadSpec (dmaOf true) ∧ Runs pwrStatusSpec none ∧ Runs snapReadSpec (dmaOf true) ∧ Runs timeGetSpec (dmaOf true) :=
  ⟨runs rig nopSpec none (entryFor nopSpec 0 0 []) (by decide +kernel),
  runs rig getInfoSpec none (entryFor getInfoSpec 0 0 []) (by decide +kernel),
  runs rig chStatusSpec (dmaOf true) (entryFor chStatusSpec 0 0x1000001 [0]) (by decide +kernel),
  runs rig holdModelGetSpec (dmaOf true) (entryFor holdModelGetSpec 0 0 [0, 3]) (by decide +kernel),
  runs rig ptpStatusSpec (dmaOf true) (entryFor ptpStatusSpec 0 0 [0, 255]) (by decide +kernel),
  runs rig tickStatusSpec (dmaOf true) (entryFor tickStatusSpec 0 0 [0]) (by decide +kernel),
  runs rig shaftStatusSpec (dmaOf true) (entryFor shaftStatusSpec 0 0x3000001 [0]) (by decide +kernel),
  runs rig profReadSpec (dmaOf true) (entryFor profReadSpec 0 0x6000000 [0]) (by decide +kernel),
  runs rig folStatusSpec (dmaOf true) (entryFor folStatusSpec 0 0x4000001 [0]) (by decide +kernel),
  runs rig camReadSpec (dmaOf true) (entryFor camReadSpec 0 0x5000000 [0]) (by decide +kernel),
  runs rig grpStatusSpec (dmaOf true) (entryFor grpStatusSpec 0 0x7000000 [0]) (by decide +kernel),
  runs rig calStatusSpec none (entryFor calStatusSpec 0 0 [3]) (by decide +kernel),
  runs rig calSlotInfoSpec none (entryFor calSlotInfoSpec 0 0 [1]) (by decide +kernel),
  runs rig storeInfoSpec (dmaOf true) (entryFor storeInfoSpec 0 0 [0]) (by decide +kernel),
  runs rig fltReadSpec (dmaOf true) (entryFor fltReadSpec 0 0 [0]) (by decide +kernel),
  runs rig pwrStatusSpec none (entryFor pwrStatusSpec 0 0 []) (by decide +kernel),
  runs rig snapReadSpec (dmaOf true) (entryFor snapReadSpec 0 0x9000000 [0, 2]) (by decide +kernel),
  runs rig timeGetSpec (dmaOf true) (entryFor timeGetSpec 0 0 [0]) (by decide +kernel)⟩

theorem test_ChannelCommandsKeepOtherOutputs_meets :
    Runs chCreateSpec none ∧ Runs chDestroySpec none ∧ Runs chConfigSpec none :=
  ⟨runs rig chCreateSpec none (entryFor chCreateSpec 0 0 [255]) (by decide +kernel),
  runs rig chDestroySpec none (entryFor chDestroySpec 0 0x1000000 []) (by decide +kernel),
  runs rig chConfigSpec none (entryFor chConfigSpec 0 0x1000000 [0, 0, 0, 0, 0, 0, 0, 0, 4, 0, 0, 0, 8, 0, 1, 0]) (by decide +kernel)⟩

/-! ### Devices in which the rows of the table have something to do -/

def ringed (r : Nat) (x : Ring) : Dev := { rig with cmd := { rig.cmd with rings := [(r, x)] } }
def booting (n : Nat) : Dev := { rig with glb := { rig.glb with mode := .boot, step := n } }
def linked : Dev := poke rig [(F.LINK_STATUS.LINK_UP, 1), (F.LINK_LINE.LINE_ID, 1)]
def ported : Dev := poke linked [(⟨R.PTP_PORT_EN 7, 31, 1⟩, 1)]
def keyed : Dev := (poke linked [(F.LINK_CTRL.CMD_EN, 1), (F.LINK_CMD.WINDOW, 1000)]).setWord R.LINK_KEY_CTRL 1
def started : Dev := poke { rig with mgmt := { rig.mgmt with started := some 0 } } [(F.MGMT_STATUS.ONLINE, 15)]
def stored : Dev := poke rig [(F.STORE_STATUS.LINK_UP, 1)]
def mounting : Dev := poke { rig with store := { rig.store with training := true } } [(F.STORE_STATUS.STATE, 1)]

/-- An in-band command under the key of zeros (R221). -/
def command : InBandFrame :=
  let b := [1, 4, 0, 1, 0, 0, 0xFF, 0xFF, 0, 1, 0, 0] ++ beBytes 4 100 ++ leBytes 8 0 ++ beBytes 8 100000000 ++ leBytes 64 1
  ⟨0, 0, 9, b ++ keyed.lineMac 0 9 b⟩

/-- A sender that is not the device itself, whatever its identity. -/
@[irreducible] def otherSender : Nat := (Config.ptpIdentity.toNat + 1) * 65536

theorem other_sender : otherSender / 65536 ≠ Config.ptpIdentity.toNat := by unfold otherSender; omega

/-- Some state that is up meets a condition. -/
def Meets (cond : Dev → Prop) : Prop := ∃ s : State, s.up ∧ cond s.dev

theorem meets (d : Dev) {cond : Dev → Prop} (h : cond d) (hu : (d.boot.powered && !d.boot.rstLow) = true := by decide +kernel) : Meets cond := by
  simp only [Bool.and_eq_true, Bool.not_eq_true'] at hu
  exact ⟨⟨d, none, []⟩, hu, h⟩

theorem test_RingRowsAct_meets :
  (∃ (r : Nat), r < 4 ∧ Meets (fun d => (d.fetches r))) ∧
  (∃ (r : Nat), r < 4 ∧ Meets (fun d => (d.fetches r))) ∧
  (∃ (r : Nat), r < 4 ∧ Meets (fun d =>
        let x := d.ring r
        (d.glb.mode.served ∧ (x.enabled ∨ x.draining ∨ x.fetched ≠ []) ∧ !x.cqBad))) ∧
  (∃ (r : Nat), r < 4 ∧ Meets (fun d =>
        let x := d.ring r
        (x.draining ∧ !x.enabled ∧ d.outstanding r = 0))) ∧
  (∃ (r : Nat) (s : _), r < 4 ∧ Meets (fun d =>
        let t := d.get (F.CMD_CQr_IRQ.TIME r)
        ((d.ring r).irqSince = some s) ∧
        (¬ (4 ≤ r ∨ t = 0 ∨ d.get (F.CMD_CQr_IRQ.COUNT r) = 0)))) :=
  ⟨⟨3, by decide, meets (ringed 3 { Ring.reset with enabled := true, sqTail := 1 }) (by decide +kernel)⟩,
  ⟨0, by decide, meets (ringed 0 { Ring.reset with enabled := true, sqTail := 1 }) (by decide +kernel)⟩,
  ⟨3, by decide, meets (ringed 3 { Ring.reset with enabled := true }) (by decide +kernel)⟩,
  ⟨3, by decide, meets (ringed 3 { Ring.reset with draining := true }) (by decide +kernel)⟩,
  ⟨3, 0, by decide, meets (poke (ringed 3 { Ring.reset with irqSince := some 0 }) [(F.CMD_CQr_IRQ.TIME 3, 1), (F.CMD_CQr_IRQ.COUNT 3, 2)]) (by decide +kernel)⟩⟩

theorem test_StartUpRowsAct_meets :
  (Meets (fun d => (d.inStep 2))) ∧
  (Meets (fun d => (d.inStep 3))) ∧
  (Meets (fun d => (d.inStep 3))) ∧
  (∃ (f : FlashInfo), Meets (fun d => (d.inStep 4 ∧ d.boot.flash = some f))) ∧
  (∃ (f : FlashInfo), Meets (fun d => (d.inStep 4 ∧ d.boot.flash = some f))) ∧
  (∃ (f : FlashInfo), Meets (fun d => (d.inStep 4 ∧ d.boot.flash = some f))) ∧
  (Meets (fun d => (d.inStep 5))) ∧
  (Meets (fun d => (d.inStep 5))) ∧
  (Meets (fun d => (d.inStep 5))) ∧
  (Meets (fun d => (d.inStep 6 ∧ d.bit F.REF_OSC_STATUS.OSC_ACTIVE))) ∧
  (Meets (fun d => (d.inStep 7 ∧ d.boot.begun ∧ d.cmd.list = [] ∧ !(d.cmd.inProgress.any fun t => decide (t.src = .list)) ∧ !(d.ms.any fun p =>
    p.2.surveyAt.isSome)))) ∧
  (Meets (fun d => (d.inStep 8))) ∧
  (Meets (fun d => (d.inStep 9))) ∧
  (Meets (fun d => (d.inStep 10))) ∧
  (Meets (fun d => (d.glb.mode = .boot ∧ d.boot.warm))) :=
  ⟨meets (booting 2) (by decide +kernel),
  meets (booting 3) (by decide +kernel),
  meets (booting 3) (by decide +kernel),
  ⟨⟨32, true, true⟩, meets ({ booting 4 with boot := { (booting 4).boot with flash := some ⟨32, true, true⟩ } }) (by decide +kernel)⟩,
  ⟨⟨32, true, true⟩, meets ({ booting 4 with boot := { (booting 4).boot with flash := some ⟨32, true, true⟩ } }) (by decide +kernel)⟩,
  ⟨⟨32, true, true⟩, meets ({ booting 4 with boot := { (booting 4).boot with flash := some ⟨32, true, true⟩ } }) (by decide +kernel)⟩,
  meets (booting 5) (by decide +kernel),
  meets (booting 5) (by decide +kernel),
  meets (booting 5) (by decide +kernel),
  meets (booting 6) (by decide +kernel),
  meets ({ booting 7 with boot := { (booting 7).boot with begun := true } }) (by decide +kernel),
  meets (booting 8) (by decide +kernel),
  meets (booting 9) (by decide +kernel),
  meets (booting 10) (by decide +kernel),
  meets ({ booting 5 with boot := { (booting 5).boot with warm := true } }) (by decide +kernel)⟩

theorem test_HostLinkRowsAct_meets :
  (∃ (lowNs : Nat), Meets (fun d => (!d.boot.perst ∧ d.pulseTaken lowNs))) ∧
  (Meets (fun d => (d.boot.perst))) ∧
  (Meets (fun d => (¬ d.boot.perst))) ∧
  (Meets (fun d => (d.boot.hpeUp ∧ !d.boot.perst))) ∧
  (Meets (fun d => (d.boot.hpeUp ∧ d.boot.perst))) ∧
  (Meets (fun d => (¬ (d.boot.perst)))) ∧
  (∃ (code : Nat) (bytes : List Byte), Meets (fun _ => (code = 0x40 ∧ bytes.length = 3 ∧ (bytes.getD 2 0).toNat < 16))) ∧
  (∃ (code : Nat) (bytes : List Byte), Meets (fun _ => (code ≠ 0x40 ∨ bytes.length ≠ 3 ∨ 16 ≤ (bytes.getD 2 0).toNat))) ∧
  (Meets (fun _ => True)) :=
  ⟨⟨10000, meets (rig) (by decide +kernel)⟩,
  meets ({ rig with boot := { rig.boot with perst := true } }) (by decide +kernel),
  meets (rig) (by decide +kernel),
  meets (rig) (by decide +kernel),
  meets ({ rig with boot := { rig.boot with perst := true } }) (by decide +kernel),
  meets (rig) (by decide +kernel),
  ⟨0x40, [0, 0, 15], meets (rig) (by decide +kernel)⟩,
  ⟨0x41, [], meets (rig) (by decide +kernel)⟩,
  meets (rig) (by decide +kernel)⟩

theorem test_PowerRowsAct_meets :
  (Meets (fun d => (d.bit F.REF_OSC_STATUS.OSC_ACTIVE))) ∧
  (Meets (fun d => (!d.bit F.REF_OSC_STATUS.OSC_ACTIVE))) ∧
  (Meets (fun d => (¬ (d.bit F.REF_OSC_STATUS.OSC_ACTIVE)))) ∧
  (Meets (fun d => (d.get F.PWR_CLK_STATUS.CORE_SRC = 0))) ∧
  (Meets (fun d => (d.get F.PWR_CLK_STATUS.CORE_SRC ≠ 0))) ∧
  (Meets (fun d => (d.get F.PWR_CLK_STATUS.CORE_SRC = 1 ∧ d.clk.pllSince.isNone ∧ d.bit F.REF_OSC_STATUS.OSC_ACTIVE))) ∧
  (Meets (fun d => (d.bit F.REF_OSC_STATUS.OSC_ACTIVE))) ∧
  (∃ (r : Nat) (mv : Nat), r < 17 ∧ Meets (fun d => (d.railWatched r ∧ !d.railHigh r mv))) ∧
  (∃ (r : Nat) (mv : Nat), r < 17 ∧ Meets (fun d => (d.railWatched r ∧ !d.railLow r mv))) ∧
  (∃ (s : Nat), s < 8 ∧ Meets (fun _ => (¬ (8 ≤ s)))) ∧
  (∃ (s : Nat) (t : _), s < 8 ∧ Meets (fun d =>
        (Tbl.get? d.pwr.highAt s = some t) ∧
        (¬ (d.pwr.hot)))) ∧
  (∃ (s : Nat) (t : _), s < 8 ∧ Meets (fun d =>
        (Tbl.get? d.pwr.critAt s = some t) ∧
        (¬ (d.pwr.crit)))) ∧
  (Meets (fun d => (d.pwr.cur.isNone ∧ d.ctrlAwait.pwr.queue ≠ []))) ∧
  (∃ (q : _), Meets (fun d => (d.pwr.cur = some q))) ∧
  (∃ (q : _), Meets (fun d =>
        (d.pwr.cur = some q) ∧
        (q.on))) ∧
  (∃ (bank : Nat), bank < 4 ∧ Meets (fun _ => (bank < 4))) :=
  ⟨meets (rig) (by decide +kernel),
  meets (poke rig [(F.REF_OSC_STATUS.OSC_ACTIVE, 0)]) (by decide +kernel),
  meets (poke rig [(F.REF_OSC_STATUS.OSC_ACTIVE, 0)]) (by decide +kernel),
  meets (poke rig [(F.PWR_CLK_STATUS.CORE_SRC, 0)]) (by decide +kernel),
  meets (poke rig [(F.PWR_CLK_STATUS.CORE_SRC, 1)]) (by decide +kernel),
  meets (poke rig [(F.PWR_CLK_STATUS.CORE_SRC, 1)]) (by decide +kernel),
  meets (rig) (by decide +kernel),
  ⟨16, 0, by decide, meets (rig) (by decide +kernel)⟩,
  ⟨16, 65535, by decide, meets (rig) (by decide +kernel)⟩,
  ⟨7, by decide, meets (rig) (by decide +kernel)⟩,
  ⟨7, 5, by decide, meets ({ rig with pwr := { rig.pwr with highAt := [(7, 5)] } }) (by decide +kernel)⟩,
  ⟨7, 5, by decide, meets ({ rig with pwr := { rig.pwr with critAt := [(7, 5)] } }) (by decide +kernel)⟩,
  meets ({ rig with pwr := { rig.pwr with queue := [⟨23, false, none⟩] } }) (by decide +kernel),
  ⟨⟨23, false, none⟩, meets ({ rig with pwr := { rig.pwr with cur := some ⟨23, false, none⟩ } }) (by decide +kernel)⟩,
  ⟨⟨23, true, none⟩, meets ({ rig with pwr := { rig.pwr with cur := some ⟨23, true, none⟩ } }) (by decide +kernel)⟩,
  ⟨3, by decide, meets (rig) (by decide +kernel)⟩⟩

theorem test_MasterRowsAct_meets :
  (∃ (n : Nat) (phErr : Int), n < 4 ∧ Meets (fun d => (d.bit (F.MSn_STATUS.ACQUIRING n) ∧ d.domainOn (10 + n) ∧ d.bit F.REF_OSC_STATUS.OSC_ACTIVE ∧
    d.lockWithin n phErr))) ∧
  (∃ (n : Nat) (slip : Bool) (phErr : Int), n < 4 ∧ Meets (fun d =>
        let w := d.msWord n
        let cond :=
        if slip then decide (w.pfdTime d.fOsc 1 * 1000 < 2 * phErr.natAbs * perNs)
        else !d.lockWithin n phErr
        (d.bit (F.MSn_STATUS.LOCKED n) && cond))) ∧
  (∃ (n : Nat), n < 4 ∧ Meets (fun d =>
        let m := d.msOf n
        (m.starting ∧ m.acqAt.isSome))) ∧
  (∃ (n : Nat) (b : _), n < 4 ∧ Meets (fun d =>
        let m := d.msOf n
        let t := d.after m.acqAt (5 * msec)
        (d.bit (F.MSn_STATUS.ACQUIRING n) ∧ !m.starting ∧ d.bit F.REF_OSC_STATUS.OSC_ACTIVE ∧ !m.second ∧ t.selectBand n = some b))) ∧
  (∃ (n : Nat), n < 4 ∧ Meets (fun d =>
        let m := d.msOf n
        let t := d.after m.acqAt (5 * msec)
        (d.bit (F.MSn_STATUS.ACQUIRING n) ∧ !m.starting ∧ d.bit F.REF_OSC_STATUS.OSC_ACTIVE ∧ !m.second ∧ t.selectBand n = none))) ∧
  (∃ (n : Nat), n < 4 ∧ Meets (fun d =>
        let m := d.msOf n
        (d.bit (F.MSn_STATUS.ACQUIRING n) ∧ !m.starting ∧ d.bit F.REF_OSC_STATUS.OSC_ACTIVE ∧ m.second))) ∧
  (∃ (n : Nat), n < 4 ∧ Meets (fun d =>
        let m := d.msOf n
        (d.bit (F.MSn_STATUS.LOCKED n) ∧ !m.returned))) ∧
  (∃ (n : Nat), n < 4 ∧ Meets (fun d => (d.bit (F.MSn_STATUS.SURVEYING n) ∧ d.domainOn (10 + n)))) ∧
  (∃ (n : Nat) (z : _) (i : _), n < 4 ∧ Meets (fun d =>
        let m := d.msOf n
        (m.ramp = some z ∧ d.segNext n z = some i))) ∧
  (∃ (n : Nat) (z : _), n < 4 ∧ Meets (fun d =>
        let m := d.msOf n
        (m.ramp = some z ∧ d.segNext n z = none))) :=
  ⟨⟨3, 0, by decide, meets (poke (rig.setMs 3 { Ms.reset with acqAt := some 0 }) [(F.MSn_STATUS.ACQUIRING 3, 1)]) (by decide +kernel)⟩,
  ⟨0, false, 1000000000, by decide, meets (rig) (by decide +kernel)⟩,
  ⟨3, by decide, meets (poke (rig.setMs 3 { Ms.reset with acqAt := some 0, starting := true }) [(F.MSn_STATUS.ACQUIRING 3, 1)]) (by decide +kernel)⟩,
  ⟨3, 0, by decide, meets (poke (rig.setMs 3 { Ms.reset with acqAt := some 0 }) [(F.MSn_STATUS.ACQUIRING 3, 1)]) (by decide +kernel)⟩,
  ⟨1, by decide, meets (poke (rig.setMs 1 { Ms.reset with acqAt := some 0 }) [(F.MSn_STATUS.ACQUIRING 1, 1)]) (by decide +kernel)⟩,
  ⟨3, by decide, meets (poke (rig.setMs 3 { Ms.reset with acqAt := some 0, second := true }) [(F.MSn_STATUS.ACQUIRING 3, 1)]) (by decide +kernel)⟩,
  ⟨0, by decide, meets (rig.setMs 0 { Ms.reset with returned := false }) (by decide +kernel)⟩,
  ⟨3, by decide, meets (poke rig [(F.MSn_STATUS.SURVEYING 3, 1)]) (by decide +kernel)⟩,
  ⟨0, ⟨0, 0, 0, 0, true⟩, 0, by decide, meets (rig.setMs 0 { Ms.reset with ramp := some ⟨0, 0, 0, 0, true⟩ }) (by decide +kernel)⟩,
  ⟨0, ⟨0, 0, 0, 0, false⟩, by decide, meets (rig.setMs 0 { Ms.reset with ramp := some ⟨0, 0, 0, 0, false⟩ }) (by decide +kernel)⟩⟩

theorem test_OutputRowsAct_meets :
  (∃ (o : Nat) (g : _), o < 32 ∧ Meets (fun d =>
        let x := d.outOf o
        (x.goal = some g))) ∧
  (∃ (o : Nat) (g : _), o < 32 ∧ Meets (fun d =>
        let x := d.outOf o
        (x.goal = some g ∧ x.held = true ∧ d.toWait o = d ∧ x.st ≠ .stopping))) ∧
  (∃ (o : Nat), o < 32 ∧ Meets (fun d =>
        let x := d.outOf o
        (x.goal.isSome ∧ !x.held))) ∧
  (∃ (o : Nat), o < 32 ∧ Meets (fun d =>
        let x := d.outOf o
        (x.st = .stopping ∧ (x.goal = none ∨ x.held)))) ∧
  (∃ (o : Nat) (half : Nat), o < 32 ∧ Meets (fun d =>
        let x := d.outOf o
        let passing : Bool := decide (x.sub = .bypass) && d.bit (F.OUTn_BYPASS.BYP_TYPE o) && x.goal.isNone
        (x.st.moving ∧ (x.sub = .active ∨ x.sub = .bypass ∨ x.goal.isSome) ∧ !passing ∧ d.guardShort o half))) ∧
  (∃ (o : Nat), o < 32 ∧ Meets (fun d =>
        let x := d.outOf o
        let t := d.afterSettle o
        (x.st = .running ∧ x.sub = .armed ∧ x.first = none ∧ x.armK = none ∧ t.msReady o))) ∧
  (∃ (o : Nat) (z : _), o < 32 ∧ Meets (fun d =>
        let x := d.outOf o
        (x.st = .running ∧ x.sub = .armed ∧ x.first = some z))) ∧
  (∃ (o : Nat), o < 32 ∧ Meets (fun d =>
        let x := d.outOf o
        let t := d.till (x.armAt + 10 * msec)
        (x.st = .running ∧ x.sub = .armed ∧ x.due ∧ !t.msReady o))) ∧
  (∃ (o : Nat), o < 32 ∧ Meets (fun d =>
        let x := d.outOf o
        (x.st = .stopping ∧ x.goal = none))) ∧
  (∃ (o : Nat), o < 32 ∧ Meets (fun d =>
        let x := d.outOf o
        (x.st.moving ∧ x.sub ≠ .armed))) :=
  ⟨⟨31, .bypass, by decide, meets (rig.setOut 31 { OutCh.reset with st := .running, sub := .parked, goal := some .bypass }) (by decide +kernel)⟩,
  ⟨31, .bypass, by decide, meets (rig.setOut 31 { OutCh.reset with st := .running, sub := .parked, goal := some .bypass, held := true }) (by decide +kernel)⟩,
  ⟨31, by decide, meets (rig.setOut 31 { OutCh.reset with st := .running, goal := some .bypass }) (by decide +kernel)⟩,
  ⟨31, by decide, meets (rig.setOut 31 { OutCh.reset with st := .stopping }) (by decide +kernel)⟩,
  ⟨1, 0, by decide, meets (rig) (by decide +kernel)⟩,
  ⟨31, by decide, meets ((rig.setOut 31 { OutCh.reset with st := .running, sub := .armed }).setMs 0 { Ms.reset with lockAt := some 0 }) (by decide +kernel)⟩,
  ⟨31, ⟨5, true, 0⟩, by decide, meets (rig.setOut 31 { OutCh.reset with st := .running, sub := .armed, first := some ⟨5, true, 0⟩ }) (by decide +kernel)⟩,
  ⟨1, by decide, meets (rig.setOut 1 { OutCh.reset with st := .running, sub := .armed, due := true }) (by decide +kernel)⟩,
  ⟨31, by decide, meets (rig.setOut 31 { OutCh.reset with st := .stopping }) (by decide +kernel)⟩,
  ⟨1, by decide, meets (rig) (by decide +kernel)⟩⟩

theorem test_ReferenceRowsAct_meets :
  (∃ (r : Nat), r < 8 ∧ Meets (fun d => (¬ (d.get (F.REFn_STATUS.STATE r) = 0)))) ∧
  (∃ (r : Nat), r < 8 ∧ Meets (fun d => (d.domainOn 9 ∧ d.get (F.REFn_STATUS.STATE r) = 1))) ∧
  (∃ (r : Nat), r < 8 ∧ Meets (fun d =>
        let st := d.get (F.REFn_STATUS.STATE r)
        (¬ (st = 0 ∨ !d.domainOn 9 ∨ !d.bit F.REF_OSC_STATUS.OSC_ACTIVE)))) ∧
  (∃ (n : Nat), n < 4 ∧ Meets (fun _ => True)) ∧
  (∃ (n : Nat) (measured : Int), n < 4 ∧ Meets (fun d =>
        let e := d.dpllCompare n 16 measured
        (d.dpllState n = 1 ∧ d.bit (F.MSn_STATUS.LOCKED n) ∧ !(d.msOf n).narrowed ∧ d.dpllWithin n e.2))) ∧
  (∃ (n : Nat) (measured : Int), n < 4 ∧ Meets (fun d =>
        let e := d.dpllCompare n (d.get (F.MSn_DPLL_LOCK.DPLL_LOCK_CNT n)) measured
        (d.dpllState n = 1 ∧ d.bit (F.MSn_STATUS.LOCKED n) ∧ (d.msOf n).narrowed ∧ d.dpllWithin n e.2))) ∧
  (∃ (n : Nat) (correction : Int), n < 4 ∧ Meets (fun d => ((d.dpllState n ≠ 0 ∧ d.steerMax n < correction.natAbs) ∨ d.bit (F.MSn_DPLL_STATUS.STEER_LIMITED
    n)))) ∧
  (∃ (n : Nat), n < 4 ∧ Meets (fun d => (d.dpllState n = 2))) ∧
  (∃ (n : Nat), n < 4 ∧ Meets (fun d => (d.bit (F.MSn_HOLD_TEMP.EXT_EN n)))) :=
  ⟨⟨7, by decide, meets (poke rig [(F.REFn_STATUS.STATE 7, 3)]) (by decide +kernel)⟩,
  ⟨7, by decide, meets (poke rig [(F.REFn_STATUS.STATE 7, 1)]) (by decide +kernel)⟩,
  ⟨7, by decide, meets (poke rig [(F.REFn_STATUS.STATE 7, 2)]) (by decide +kernel)⟩,
  ⟨3, by decide, meets (rig) (by decide +kernel)⟩,
  ⟨3, 0, by decide, meets (poke (rig.setMs 3 { Ms.reset with narrowed := false }) [(F.MSn_DPLL_STATUS.STATE 3, 1), (F.MSn_STATUS.LOCKED 3, 1),
    (F.MSn_DPLL_LOCK.DPLL_LOCK_WIN 3, 65535), (F.REFn_NOM_DEN.REF_NOM_DEN 0, 1)]) (by decide +kernel)⟩,
  ⟨3, 0, by decide, meets (poke (rig.setMs 3 { Ms.reset with narrowed := true }) [(F.MSn_DPLL_STATUS.STATE 3, 1), (F.MSn_STATUS.LOCKED 3, 1),
    (F.MSn_DPLL_LOCK.DPLL_LOCK_WIN 3, 65535), (F.REFn_NOM_DEN.REF_NOM_DEN 0, 1)]) (by decide +kernel)⟩,
  ⟨3, 1000000000000, by decide, meets (poke rig [(F.MSn_DPLL_STATUS.STATE 3, 2)]) (by decide +kernel)⟩,
  ⟨3, by decide, meets (poke rig [(F.MSn_DPLL_STATUS.STATE 3, 2)]) (by decide +kernel)⟩,
  ⟨3, by decide, meets (poke rig [(F.MSn_HOLD_TEMP.EXT_EN 3, 1)]) (by decide +kernel)⟩⟩

theorem test_CalibrationRowsAct_meets :
  (∃ (n : Nat), n < 4 ∧ Meets (fun d =>
        let c := d.calOf n
        (d.firmwareRuns ∧ d.calRunning n ∧ d.tickLive ∧ d.tick.phase < 3 ∧ 1024 ≤ c.samples ∧ c.staged = none))) ∧
  (∃ (n : Nat), n < 4 ∧ Meets (fun d =>
        let c := d.calOf n
        (d.firmwareRuns ∧ d.calRunning n ∧ d.tickLive ∧ d.tick.phase = 4 ∧ 1024 ≤ c.samples ∧ c.late = none))) ∧
  (∃ (n : Nat), n < 4 ∧ Meets (fun d =>
        (d.firmwareRuns ∧ d.calRunning n ∧ d.tickLive ∧ d.tick.phase ≠ 3 ∧ (d.calOf n).samples < 1024))) ∧
  (∃ (n : Nat), n < 4 ∧ Meets (fun d =>
        let t := signedN 16 (d.get (F.TEMPn.TEMP n))
        let l := signedN 16 (d.get (F.CALn_LAST_TEMP.LAST_TEMP n))
        let dl := min 320 (max 8 (d.get F.CAL_TEMP_DELTA.TEMP_DELTA))
        (d.firmwareRuns ∧ (d.get F.CAL_CTRL.AUTO_TEMP_EN).testBit n ∧ d.bit (F.TEMPn.VALID n) ∧ (d.calOf n).ranOnce ∧ dl < (t - l).natAbs))) ∧
  (∃ (n : Nat) (p : _), n < 4 ∧ Meets (fun d =>
        ((d.calOf n).pending = some p) ∧
        (d.firmwareRuns ∧ p.ready.isNone ∧ d.calPre n))) ∧
  (∃ (n : Nat), n < 4 ∧ Meets (fun d => (d.calRunning n))) ∧
  (∃ (readBackOk : Bool) (s : _) (x : _), Meets (fun d => (d.cal.save = some s ∧ s.snap = some x ∧ readBackOk))) ∧
  (∃ (readBackOk : Bool) (s : _), Meets (fun d => (d.cal.save = some s ∧ s.snap.isSome ∧ !readBackOk))) ∧
  (∃ (s : _), Meets (fun d =>
        (d.cal.save = some s) ∧
        (s.snap.isSome))) :=
  ⟨⟨2, by decide, meets (rig.setCal 2 { CalMs.reset with samples := 1024 }) (by decide +kernel)⟩,
  ⟨2, by decide, meets ({ rig.setCal 2 { CalMs.reset with samples := 1024 } with tick := { rig.tick with phase := 4 } }) (by decide +kernel)⟩,
  ⟨2, by decide, meets (rig.setCal 2 { CalMs.reset with samples := 1023 }) (by decide +kernel)⟩,
  ⟨3, by decide, meets (poke (rig.setCal 3 { CalMs.reset with ranOnce := true }) [(F.CAL_CTRL.AUTO_TEMP_EN, 8), (F.TEMPn.VALID 3, 1), (F.TEMPn.TEMP 3, 400),
    (F.CALn_LAST_TEMP.LAST_TEMP 3, 0)]) (by decide +kernel)⟩,
  ⟨0, ⟨1, 1, none⟩, by decide, meets (rig.setCal 0 { CalMs.reset with pending := some ⟨1, 1, none⟩ }) (by decide +kernel)⟩,
  ⟨2, by decide, meets (rig) (by decide +kernel)⟩,
  ⟨true, ⟨0, 1, some ⟨1, 1, 0, 0, [], 0, 0⟩⟩, ⟨1, 1, 0, 0, [], 0, 0⟩, meets ({ rig with cal := { rig.cal with save := some ⟨0, 1, some ⟨1, 1, 0, 0, [], 0,
    0⟩⟩ } }) (by decide +kernel)⟩,
  ⟨false, ⟨0, 1, some ⟨1, 1, 0, 0, [], 0, 0⟩⟩, meets ({ rig with cal := { rig.cal with save := some ⟨0, 1, some ⟨1, 1, 0, 0, [], 0, 0⟩⟩ } }) (by
    decide +kernel)⟩,
  ⟨⟨1, 1, some ⟨1, 1, 0, 0, [], 0, 0⟩⟩, meets ({ rig with cal := { rig.cal with save := some ⟨1, 1, some ⟨1, 1, 0, 0, [], 0, 0⟩⟩ } }) (by decide +kernel)⟩⟩

theorem test_TickRowsAct_meets :
  (Meets (fun d => (d.tickLive ∧ !d.tick.cutDone))) ∧
  (Meets (fun d => (d.tickLive ∧ d.tick.phase = 1))) ∧
  (Meets (fun d => (d.tickLive ∧ d.tick.compEnd.isNone ∧ d.tick.phase ≤ 2))) ∧
  (Meets (fun d => (d.tickLive ∧ d.tick.phase ≤ 2))) ∧
  (Meets (fun d => (d.tick.running ∧ d.tick.phase ≠ 4))) ∧
  (∃ (n : Nat), n < 8 ∧ Meets (fun d =>
        let div := max 1 (d.get (F.FIELDn_DIV.DIV n))
        (n < 8 ∧ d.bit (F.FIELDn_CTRL.EN n) ∧ d.domainOn 21 ∧ d.tick.running ∧ !d.offsetLate n ∧ !d.startLate n ∧
        d.tick.index % div = d.get (F.FIELDn_DIV.PHASE n) % div ∧ Tbl.get? d.field.last n ≠ some d.tick.index))) ∧
  (∃ (n : Nat), n < 8 ∧ Meets (fun d => ((Tbl.get? d.field.pulses n).isSome))) ∧
  (∃ (n : Nat), n < 8 ∧ Meets (fun d => (n < 8 ∧ d.bit (F.FIELDn_CTRL.EN n) ∧ d.glb.mode ≠ .halt))) :=
  ⟨meets (rig) (by decide +kernel),
  meets (rig) (by decide +kernel),
  meets (rig) (by decide +kernel),
  meets (rig) (by decide +kernel),
  meets (rig) (by decide +kernel),
  ⟨7, by decide, meets (poke rig [(F.FIELDn_CTRL.EN 7, 1)]) (by decide +kernel)⟩,
  ⟨7, by decide, meets ({ rig with field := ⟨[(7, 0)], []⟩ }) (by decide +kernel)⟩,
  ⟨7, by decide, meets (poke rig [(F.FIELDn_CTRL.EN 7, 1)]) (by decide +kernel)⟩⟩

theorem test_FollowerRowsAct_meets :
  (∃ (s : Nat), s < 64 ∧ Meets (fun d =>
        let x := d.shaftOf s
        (x.following ∧ x.advancing ∧ x.cfg.missLimit ≤ x.missRun))) ∧
  (∃ (f : Nat), f < 4096 ∧ Meets (fun d =>
        let x := d.folOf f
        (d.glb.mode.publishes ∧ (x.lock = 2 ∨ x.lock = 3 ∨ x.lock = 4) ∧ x.missLimit < x.missRun))) ∧
  (∃ (f : Nat), f < 4096 ∧ Meets (fun d =>
        let x := d.folOf f
        (d.glb.mode.publishes ∧ (x.lock = 2 ∨ x.lock = 4) ∧ 8 ≤ x.goodRun))) ∧
  (∃ (f : Nat) (b : _), f < 4096 ∧ Meets (fun d =>
        let x := d.folOf f
        (x.bind = some b) ∧
        (d.glb.mode.publishes ∧ x.lock = 7 ∧ 16 ≤ x.resync ∧ d.portSampled b))) ∧
  (∃ (g : Nat) (x : _), g < 1024 ∧ Meets (fun d =>
        (Tbl.get? d.fo.grps g = some x) ∧
        let need := (x.pathDelay + x.margin + 9) / 10 * 10
        (x.latMode = 1 ∧ x.samples ≠ [] ∧ ((x.lat : Int) < need ∨ 4096 ≤ x.ticks)))) :=
  ⟨⟨63, by decide, meets (rig.setShaft 63 { shaft .running 3 with mirror := true, missRun := 3 }) (by decide +kernel)⟩,
  ⟨4095, by decide, meets (rig.setFol 4095 { fol .running 4 5 with missRun := 4 }) (by decide +kernel)⟩,
  ⟨4095, by decide, meets (rig.setFol 4095 { fol .running 2 5 with goodRun := 8 }) (by decide +kernel)⟩,
  ⟨4095, ⟨2, none, 0, 5, 0, 1, 1⟩, by decide, meets ({ rig with fo := { rig.fo with fols := [(4095, { fol .running 7 5 with resync := 16, sampled := true })]
    } }) (by decide +kernel)⟩,
  ⟨1023, { Grp.reset with latMode := 1, samples := [[(0, 1)]] }, by decide, meets (rig.setGrp 1023 { Grp.reset with latMode := 1, samples := [[(0, 1)]] })
    (by decide +kernel)⟩⟩

theorem test_LinkRowsAct_meets :
  (Meets (fun d => (d.bit F.LINK_CTRL.EN && !d.linkUp && d.domainOn 18))) ∧
  (Meets (fun _ => True)) ∧
  (Meets (fun d => (d.receives))) ∧
  (∃ (cls : Nat) (t : _), cls < 8 ∧ Meets (fun d => (Tbl.get? d.link.paused cls = some t))) ∧
  (∃ (cls : Nat), cls < 8 ∧ Meets (fun d => (d.link.xoff.getLsbD cls))) ∧
  (∃ (i : _) (f : _), Meets (fun d => (d.nextFrame = some i ∧ d.link.queue[i]? = some f))) ∧
  (∃ (f : _), Meets (fun d =>
        let held (f : LinkFrame) : Bool := f.kind.timed && (d.classPaused f.cls || !d.linkUp)
        (d.link.queue.find? held = some f))) ∧
  (Meets (fun d => (d.receives))) ∧
  (∃ (f : FeedbackFrame), Meets (fun d =>
        let n := f.recs.length
        let d1 := d.relayed (.feedback f)
        (d.receives ∧ d1.headerOk f.header 2 n ∧ d1.glb.mode.publishes ∧ d1.ingests ∧ !d1.tick.cutDone) ∧
        (!d1.grpFree f.header.group ∧ f.header.firstSlot + n ≤ 32))) ∧
  (∃ (f : ShaftFrame), Meets (fun d => (d.receives ∧ (d.relayed (.shafts f)).headerOk f.header 3 f.recs.length))) ∧
  (Meets (fun d => (d.receives))) ∧
  (Meets (fun d =>
        let line := d.link.sent.filter fun s => s.kind.line && decide (s.k + 2 ≤ d.tick.index)
        (d.linkUp ∧ line ≠ []))) ∧
  (∃ (f : _), Meets (fun d => (d.linkUp ∧ (d.link.sent.filter fun s => s.kind.line && decide (s.k + 2 ≤ d.tick.index)) = [] ∧ (d.link.sent.find? fun s =>
    s.kind.timed) = some f))) ∧
  (Meets (fun d => (d.receives))) ∧
  (Meets (fun d => (¬ (!d.linkUp)))) ∧
  (∃ (e : TimeEcho) (s : _), Meets (fun d =>
        (d.receives) ∧
        (((d.relayed (.echo e)).link.syncs.find? fun s => decide (s.1 = e.syncSeq)) = some s))) ∧
  (∃ (f : InBandFrame) (t : _), Meets (fun d =>
        let b := f.body
        let key := beAt b 16 1
        let counter := beAt b 24 8
        let d1 := d.relayed (.command f)
        (d.receives ∧ d1.rxFits f.cls (14 + b.length)) ∧
        (beAt b 0 1 = 1 ∧ beAt b 1 1 = 4 ∧ d1.lineId ≠ 0 ∧ beAt b 2 2 = d1.lineId ∧ beAt b 9 1 = 1 ∧ b.length = 112) ∧
        (d1.bit F.LINK_CTRL.CMD_EN ∧ d1.keyValid key ∧ d1.lineMac key f.sa (b.take 96) = b.drop 96) ∧
        ((d1.rxFill f.cls (14 + b.length)).replayCheck f.sa counter = some t) ∧
        ((d1.rxFill f.cls (14 + b.length)).cmd.inband.length < 32))) :=
  ⟨meets (poke rig [(F.LINK_CTRL.EN, 1)]) (by decide +kernel),
  meets (linked) (by decide +kernel),
  meets (linked) (by decide +kernel),
  ⟨7, 5, by decide, meets ({ linked with link := { linked.link with paused := [(7, 5)] } }) (by decide +kernel)⟩,
  ⟨7, by decide, meets ({ linked with link := { linked.link with xoff := 0x80 } }) (by decide +kernel)⟩,
  ⟨0, ⟨.tsync, 0, 0, 0, .tsync [], 0, 0⟩, meets ({ linked with link := { linked.link with queue := [⟨.tsync, 0, 0, 0, .tsync [], 0, 0⟩] } }) (by
    decide +kernel)⟩,
  ⟨⟨.response, 0, 0, 0, .line [], 0, 0⟩, meets ({ rig with link := { rig.link with queue := [⟨.response, 0, 0, 0, .line [], 0, 0⟩] } }) (by decide +kernel)⟩,
  meets (linked) (by decide +kernel),
  ⟨⟨0, ⟨1, 2, 1, 0, 0, 31, 1, 100, false⟩, [⟨0, 100, true, false, true, 0⟩]⟩, meets (linked) (by decide +kernel)⟩,
  ⟨⟨0, ⟨1, 3, 1, 0, 0, 0, 1, 100, false⟩, [⟨1, 3, 3, true, false, 0, 100, 0, 0, 0, 0, 0, 1, 0⟩]⟩, meets (linked) (by decide +kernel)⟩,
  meets (linked) (by decide +kernel),
  meets ({ linked with link := { linked.link with sent := [⟨1, .shaft, [0], 98, 0, 0, none⟩] } }) (by decide +kernel),
  ⟨⟨1, .response, [0], 98, 0, 0, none⟩, meets ({ linked with link := { linked.link with sent := [⟨1, .response, [0], 98, 0, 0, none⟩] } }) (by decide +kernel)⟩,
  meets (linked) (by decide +kernel),
  meets (linked) (by decide +kernel),
  ⟨⟨0, 0, 0, 0, 5⟩, (5, 0), meets ({ linked with link := { linked.link with syncs := [(5, 0)] } }) (by decide +kernel)⟩,
  ⟨command, [⟨9, 100000000, 0⟩], meets (keyed) (by decide +kernel)⟩⟩

theorem test_TimeRowsAct_meets :
  (∃ (m : PtpMessage), Meets (fun d =>
        let d1 := (d.relayed (.ptp m)).rxFill m.cls m.bytes
        (d.receives ∧ (d.relayed (.ptp m)).rxFits m.cls m.bytes ∧ d1.ptpEnabled m.port ∧ m.domain = d1.get F.PTP_CFG.DOMAIN ∧
        m.sender / 65536 ≠ Config.ptpIdentity.toNat))) ∧
  (∃ (p : Nat) (kind : PtpKind), p < 256 ∧ Meets (fun d =>
        let d1 := d.portWake p
        (d.linkUp ∧ d.ptpEnabled p ∧ d1.ptpSends p kind))) ∧
  (∃ (p : Nat) (t : _), p < 256 ∧ Meets (fun d =>
        (d.timeSrc = 2 ∧ d.time.st = .locked ∧ d.slavePort = none ∧ d.time.lostBy = some t ∧
        (!d.ptpEnabled p ∨ t ≤ d.annDue p)))) ∧
  (∃ (p : Nat), p < 256 ∧ Meets (fun d =>
        let x := d.portOf p
        (d.ptpEnabled p ∧ x.state = 9 ∧ d.slavePort ≠ none ∧ d.timeSrc = 2 ∧ d.time.st = .locked ∧ (d.syncDue p < d.annDue p ∨ d.bit
          F.PTP_CLASS.EXT_PORT_CFG)))) ∧
  (∃ (p : Nat), p < 256 ∧ Meets (fun d =>
        let x := d.portOf p
        (d.ptpEnabled p ∧ d.ptpOrphan = false ∧ ¬ (x.state = 9 ∧ d.timeSrc = 2 ∧ d.time.st = .locked ∧ (d.syncDue p < d.annDue p ∨ d.bit
          F.PTP_CLASS.EXT_PORT_CFG)) ∧
        (x.state = 4 ∨ x.state = 7 ∨ x.state = 9)))) ∧
  (Meets (fun d => (¬ d.bit F.TIME_CTRL.PPS_IN_EN ∨ d.boot.ppsIn ≠ d.bit F.TIME_CTRL.PPS_IN_EDGE))) ∧
  (Meets (fun d => (d.bit F.TIME_CTRL.PPS_IN_EN ∧ d.boot.ppsIn = d.bit F.TIME_CTRL.PPS_IN_EDGE))) ∧
  (∃ (t : _), Meets (fun d =>
        (d.time.lastPps = some t) ∧
        (d.timeSrc = 1 ∧ d.time.st = .locked))) ∧
  (Meets (fun d => (¬ (!d.ppsEnabled)))) ∧
  (∃ (t : _), Meets (fun d => (d.time.ppsOutAt = some t))) ∧
  (Meets (fun d => (d.time.slewing ∧ (!d.onRing ∨ d.time.slewLeft = 0)))) :=
  ⟨⟨⟨255, 7, 64, .sync, 0, 1, false, 0, 0, 0, 0, otherSender, 0, 0, none, ⟨0, 0, 0, 0, 0, 0, 0, 0⟩⟩, meets (ported) ⟨by decide +kernel, by decide +kernel,
    by decide +kernel, by decide +kernel, other_sender⟩⟩,
  ⟨255, .announce, by decide, meets ({ ported with time := { ported.time with ports := [(255, { PtpPort.reset with state := 6 })] } }) (by decide +kernel)⟩,
  ⟨255, 0, by decide, meets (poke ({ ported with time := { ported.time with lostBy := some 0 } }) [(F.TIME_CTRL.SRC, 2)]) (by decide +kernel)⟩,
  ⟨255, by decide, meets (poke ({ ported with time := { ported.time with ports := [(255, { PtpPort.reset with state := 9, heardAt := 10 ^ 30 })] } })
    [(F.TIME_CTRL.SRC, 2)]) (by decide +kernel)⟩,
  ⟨255, by decide, meets ({ ported with time := { ported.time with ports := [(255, { PtpPort.reset with state := 4 })] } }) (by decide +kernel)⟩,
  meets (poke rig [(F.TIME_CTRL.PPS_IN_EN, 1), (F.TIME_CTRL.PPS_IN_EDGE, 1)]) (by decide +kernel),
  meets (poke { rig with boot := { rig.boot with ppsIn := true } } [(F.TIME_CTRL.PPS_IN_EN, 1), (F.TIME_CTRL.PPS_IN_EDGE, 1)]) (by decide +kernel),
  ⟨5, meets (poke { rig with time := { rig.time with lastPps := some 5 } } [(F.TIME_CTRL.SRC, 1)]) (by decide +kernel)⟩,
  meets (poke rig [(F.TIME_CTRL.PPS_OUT_EN, 1)]) (by decide +kernel),
  ⟨5, meets ({ rig with time := { rig.time with ppsOutAt := some 5 } }) (by decide +kernel)⟩,
  meets ({ rig with time := { rig.time with slewing := true } }) (by decide +kernel)⟩

theorem test_FaultRowsAct_meets :
  (∃ (s : _) (m : _) (r : _), Meets (fun d => (d.nextSource = some (s, m, r)))) ∧
  (∃ (bank : Nat), bank < 4 ∧ Meets (fun d => (¬ (!d.bankIn bank)))) ∧
  (∃ (bank : Nat), bank < 4 ∧ Meets (fun d => (¬ (!d.bankIn bank)))) ∧
  (Meets (fun d => (¬ (!d.flt.croakOn)))) ∧
  (Meets (fun d => (d.flt.checking))) ∧
  (Meets (fun d => (d.beats))) ∧
  (Meets (fun d => (¬ (d.mgmt.started.isNone ∨ d.mgmt.beatLost)))) ∧
  (∃ (core : Nat), core < 4 ∧ Meets (fun d => (d.coreOn core ∧ d.glb.mode ≠ .halt))) ∧
  (∃ (s : StepSample), Meets (fun d =>
        (d.mgmtCount.bit F.MGMT_CTRL.SAMP_EN ∧ d.mgmtCount.coreOn s.core ∧ d.mgmtCount.glb.mode ≠ .halt ∧ 0 < d.mgmtCount.marked s.core))) ∧
  (Meets (fun d => (d.mgmt.started.isSome ∧ d.coresRun ∧ d.glb.mode ≠ .halt))) :=
  ⟨⟨0x3F, ⟨0x3F, 2, .c, 0, false, true, false⟩, [], meets ({ rig with flt := { rig.flt with queues := [(0x3F, [⟨0x3F, 2, .c, 0, false, true, false⟩])] } })
    (by decide +kernel)⟩,
  ⟨3, by decide, meets (rig) (by decide +kernel)⟩,
  ⟨3, by decide, meets (rig) (by decide +kernel)⟩,
  meets ({ rig with flt := { rig.flt with croakOn := true } }) (by decide +kernel),
  meets ({ rig with flt := { rig.flt with checking := true } }) (by decide +kernel),
  meets (started) (by decide +kernel),
  meets (started) (by decide +kernel),
  ⟨3, by decide, meets (started) (by decide +kernel)⟩,
  ⟨⟨3, 0, 0, 0, 0, 0⟩, meets (poke { started with mgmt := { started.mgmt with cntAt := started.now, marks := [(3, 1)] } } [(F.MGMT_CTRL.SAMP_EN, 1)]) (by
    decide +kernel)⟩,
  meets (started) (by decide +kernel)⟩

theorem test_RecorderRowsAct_meets :
  (∃ (i : _) (r : _), Meets (fun d =>
        (d.evt.fifo = i :: r) ∧
        (¬ (d.glb.mode = .halt ∨ !d.coresRun)))) ∧
  (∃ (b : _) (r : _) (s : _), Meets (fun d => (d.coresRun ∧ d.evt.haltQueue = b :: r ∧ d.haltSlot = some s))) ∧
  (∃ (b : _) (r : _), Meets (fun d => (d.coresRun ∧ d.evt.haltQueue = [] ∧ d.evt.clayQueue = b :: r ∧ d.glb.mode ≠ .halt))) ∧
  (∃ (req : _), Meets (fun d => (d.evt.clearing = some req))) ∧
  (Meets (fun d => (d.firmwareRuns))) ∧
  (∃ (t : _), Meets (fun d => (d.store.evSince = some t))) ∧
  (∃ (t : _), Meets (fun d => (d.store.perstAt = some t))) ∧
  (Meets (fun d => (d.storeStarting ∧ d.domainOn 20 ∧ d.ssdReached ∧ d.coresRun))) ∧
  (Meets (fun d => (d.bit F.STORE_STATUS.LINK_UP))) ∧
  (∃ (t : _), Meets (fun d => (d.store.lostAt = some t))) ∧
  (∃ (s : _), Meets (fun d =>
        (¬ (!d.storeWrites ∨ !d.ssdReached)) ∧
        (d.store.flight.find? TraceSeg.due = some s))) ∧
  (∃ (j : _) (r : _), Meets (fun d => (d.ssdReached ∧ !d.storeStarting ∧ d.bit F.STORE_STATUS.LINK_UP ∧ d.store.jobs = j :: r))) ∧
  (∃ (ok : Bool), Meets (fun d => (d.ssdReached ∧ d.storeStarting ∧ !ok))) ∧
  (∃ (j : _) (r : _), Meets (fun d => (!d.storeStarting ∧ d.bit F.STORE_STATUS.LINK_UP ∧ d.store.jobs = j :: r))) ∧
  (∃ (s : _), Meets (fun d => (!d.storeStarting ∧ d.bit F.STORE_STATUS.LINK_UP ∧ d.store.jobs = [] ∧ d.store.flight.find? TraceSeg.due = some s ∧
    d.storeWrites))) ∧
  (Meets (fun d => (d.storeStarting))) :=
  ⟨⟨⟨0x010, none, []⟩, [], meets ({ rig with evt := { rig.evt with fifo := [⟨0x010, none, []⟩] } }) (by decide +kernel)⟩,
  ⟨[1], [], 1024, meets ({ rig with evt := { rig.evt with haltQueue := [[1]] } }) (by decide +kernel)⟩,
  ⟨[1], [], meets ({ rig with evt := { rig.evt with clayQueue := [[1]] } }) (by decide +kernel)⟩,
  ⟨5, meets ({ rig with evt := { rig.evt with clearing := some 5 } }) (by decide +kernel)⟩,
  meets (rig) (by decide +kernel),
  ⟨5, meets ({ rig with store := { rig.store with evSince := some 5 } }) (by decide +kernel)⟩,
  ⟨5, meets ({ rig with store := { rig.store with perstAt := some 5 } }) (by decide +kernel)⟩,
  meets (mounting) (by decide +kernel),
  meets (stored) (by decide +kernel),
  ⟨5, meets ({ rig with store := { rig.store with lostAt := some 5 } }) (by decide +kernel)⟩,
  ⟨⟨0, 0, 0, 0, 0, 65536000000, 1, [], 0, false, false, false, 1, 0, 1, 0, 0, false, 0, false, false⟩, meets ({ stored with store := { stored.store with
    flight := [⟨0, 0, 0, 0, 0, 65536000000, 1, [], 0, false, false, false, 1, 0, 1, 0, 0, false, 0, false, false⟩] } }) (by decide +kernel)⟩,
  ⟨.index 5, [], meets ({ stored with store := { stored.store with jobs := [.index 5] } }) (by decide +kernel)⟩,
  ⟨false, meets (mounting) (by decide +kernel)⟩,
  ⟨.index 5, [], meets ({ stored with store := { stored.store with jobs := [.index 5] } }) (by decide +kernel)⟩,
  ⟨⟨0, 0, 0, 0, 0, 65536000000, 1, [], 0, false, false, false, 1, 0, 1, 0, 0, false, 0, false, false⟩, meets ({ stored with store := { stored.store with
    flight := [⟨0, 0, 0, 0, 0, 65536000000, 1, [], 0, false, false, false, 1, 0, 1, 0, 0, false, 0, false, false⟩] } }) (by decide +kernel)⟩,
  meets (mounting) (by decide +kernel)⟩

/-! ### Ill-formed rows -/

/-- Sources and requesters that do not exist, and objects beyond the last of their kind. -/
theorem test_numbers_ill_formed : ((
  [.nop (.ring 4), .chStatus (.ring 4) true, .fltRead (.ring 7) false, .regWrite (.ring 4), .entryFetch 4 .fetchError, .cmdSqTail 4 15 0, .cmdCqHead 4 15 0,
   .ringDrained 4, .guardPairTimeout (.inband (2 ^ 48)), .guardPairTimeout (.ring 4), .interruptCoalescing 4, .msCtrlEn .host 4 15 0, .lockGained 4 0,
     .msSettle 4,
   .outCtrlEn .host 32 15 0, .channelStart 32, .activityFail 8, .activityPresent 8, .tempConversion 8 0, .tjCrit 8, .railUv 17 0 0, .railOv 17 0 0,
     .vddoLevel 4 0,
   .fieldCtrlEn .host 8 15 0, .ftickPulse 8, .overcurrent 8, .mirrorLost 64, .missRun 4096, .resyncCompare 4096, .feedbackCutoff [0, 4096], .latencyUpdate 1024,
   .announceTimeout 256, .pauseExpiry 8, .xon 8, .eccCorr 4 0, .eccUncorr 4 0, .newtException 4 0] : List Instr).all fun i => !i.wellFormed) = true :=
     by decide +kernel

/-- Offsets that are not aligned or lie beyond BAR0, and accesses that only PCIe makes. -/
theorem test_accesses_ill_formed : ((
  [.registerWrite .host (.bar2 0x1000 15 0), .registerWrite (.ring 0) (.bar2 0 15 0), .registerRead .host (.bar2 2 15), .registerWrite .host (.one 2 15 0),
    .registerWrite .host (.one 0x100000 15 0), .registerWrite .host (.two 0xFFFFC 15 0 15 0), .registerWrite (.ring 0) (.two 0 15 0 15 0),
   .registerWrite (.ring 0) (.long 0), .registerWrite (.inband 1) (.poisoned 0), .registerWrite .host (.long 1), .registerRead .host (.one 1 15),
   .registerRead .host (.two 0xFFFFC 15 15), .registerRead (.ring 0) (.two 0 15 15), .registerRead (.ring 0) (.long 0), .registerRead (.ring 4) (.one 0 15),
   .forceSet .host 128 0, .forceSet .host 0 64, .forceClear .host 128 0, .linkKey .host 2 0 0, .linkKey .host 0 8 0, .glbModeReq (.ring 4) 0] : List
     Instr).all fun i => !i.wellFormed) = true := by decide +kernel

/-- Lengths, codes and field values that their formats cannot hold. -/
theorem test_values_ill_formed : ((
  [.imageCopy (some ⟨16, true, true⟩), .imageCopy (some ⟨1024, true, true⟩), .signatureCheck (some []) none, .outGuard ⟨32, 0⟩, .calUpdate 4 [], .calUpdate 0
    [(32, 0)], .ptpMessage ⟨255, 7, 0, .sync, 0, 0, false, 2 ^ 48, 0, 0, 0, 0, 0, 0, none, ⟨0, 0, 0, 0, 0, 0, 0, 0⟩⟩, .entryFetch 0 (.entry (List.replicate
    63 0)), .smbusProcessCall 256 [] false, .smbusProcessCall 0 (List.replicate 256 0) false, .powerGood true 4, .rstNRelease 4,
   .surveyDone 0 [], .surveyDone 0 (⟨true, 2, 1⟩ :: List.replicate 63 ⟨false, 0, 0⟩), .railUv 0 65536 0, .railOv 0 0 65536,
   .tempConversion 0 32768, .lockGained 0 (-32769), .lockLost 0 false 32768, .frequencyGate 0 (2 ^ 31), .dpllNarrow 0 (2 ^ 31), .dpllLocked 0 (-(2 ^ 31) - 1),
   .shaftStateFrame ⟨0, ⟨1, 0, 0, 0, 0, 0, 0, 0, false⟩, [⟨0, 8, 0, false, false, 0, 0, 0, 0, 0, 0, 0, 1, 0⟩]⟩,
   .shaftStateFrame ⟨0, ⟨1, 0, 0, 0, 0, 0, 0, 0, false⟩, [⟨0, 0, 0, false, false, 0, 0, 0, 2 ^ 63, 0, 0, 0, 1, 0⟩]⟩, .ringOscillatorMeasurement (2 ^ 32),
     .portStatus (2 ^ 256), .pfcFrame 0 [], .pfcFrame 0 [0, 0, 0, 0, 0, 0, 0, 65536],
   .stepSample ⟨4, 0, 0, 0, 0, 0⟩, .stepSample ⟨0, 0, 0, 0, 5, 0⟩, .egressReports [⟨0, 256, 0, 0, 0, true⟩], .timeEcho ⟨2 ^ 48, 0, 0, 0, 0⟩,
   .inBandCommandFrame ⟨256, 0, 0, []⟩, .inBandCommandFrame ⟨0, 8, 0, []⟩, .feedbackFrame ⟨0, ⟨256, 0, 0, 0, 0, 0, 0, 0, false⟩, []⟩,
   .feedbackFrame ⟨0, ⟨1, 0, 0, 0, 0, 0, 0, 0, false⟩, [⟨0, 2 ^ 24, false, false, false, 0⟩]⟩, .shaftStateFrame ⟨256, ⟨1, 0, 0, 0, 0, 0, 0, 0, false⟩, []⟩,
   .ptpMessageInterval 256 .sync, .ptpMessage ⟨256, 0, 0, .sync, 0, 0, false, 0, 0, 0, 0, 0, 0, 0, none, ⟨0, 0, 0, 0, 0, 0, 0, 0⟩⟩] : List Instr).all fun i
     => !i.wellFormed) = true := by decide +kernel

/-- More than 64 KiB of inline data, and images longer than their flash area. -/
theorem test_lengths_ill_formed (b : List Byte) (h : b.length = 65537) :
    (Instr.msRampLoad .inband (some b)).wellFormed = false ∧ (Instr.profLoad .inband (some b)).wellFormed = false ∧
    (Instr.camLoad .inband (some b)).wellFormed = false ∧ (Instr.sramInitialisation (some b) none).wellFormed = false ∧
    (Instr.sramInitialisation none (some b)).wellFormed = false := by
  simp [Instr.wellFormed, h]

theorem test_some_well_formed :
    ([.nop (.ring 3), .registerWrite .host (.two 0xFFFF8 15 0 15 0), .channelStart 31, .missRun 4095, .portStatus (2 ^ 256 - 1)] : List Instr).all
      Instr.wellFormed = true := by decide +kernel

/-- The table gives no row any bits, so no word spells a command. -/
theorem test_no_word_spells_a_command : decodeTableWord 16 0 = none ∧ decodeTableWord 64 0x0100 = none := by decide

/-! ### States that meet the hypotheses of the statements about every step -/

theorem test_StepRunsFront_meets : ∃ (c : Instr) (rest : List Instr) (s : State), s.pending = c :: rest :=
  ⟨.tickBoundary, [.supplyFall], ⟨rig, none, [.tickBoundary, .supplyFall]⟩, rfl⟩

theorem test_EmptyQueueClock_meets : (∃ s : State, s.pending = [] ∧ s.up) ∧ (∃ s : State, s.pending = [] ∧ ¬ s.up) :=
  ⟨⟨⟨rig, none, []⟩, rfl, by decide +kernel, by decide +kernel⟩, ⟨State.reset, rfl, fun h => by cases h.1⟩⟩

theorem test_NoSupplyNoEffect_meets : ∃ (c : Instr) (s : State), ¬ s.up ∧ (∀ a b, c ≠ .powerGood a b) ∧ c ≠ .supplyFall ∧ (∀ a, c ≠ .rstNAssert a) ∧
    (∀ a, c ≠ .rstNRelease a) ∧ (∀ a, c ≠ .perstN a) ∧ c ≠ .perstNRelease ∧ (∀ a, c ≠ .railCheck a) ∧ ∀ a, c ≠ .testAccessPort a :=
  ⟨.tickBoundary, State.reset, (fun h => by cases h.1), nofun, nofun, nofun, nofun, nofun, nofun, nofun, nofun⟩

/-- The three ways of TicksNeverRepeat: an empty ring leaves the index, a boundary raises it, the fall of the supplies starts anew. -/
theorem test_TicksNeverRepeat_meets :
    (∃ t, step ⟨rig, some 100, [.nop (.ring 0)]⟩ = .next t ∧ t.lastOpened = some 100) ∧
    (∃ t, step ⟨rig, some 100, [.tickBoundary]⟩ = .next t ∧ t.lastOpened = some 101) ∧
    (∃ t, step ⟨rig, some 100, [.supplyFall]⟩ = .next t ∧ t.lastOpened = none) :=
  ⟨⟨_, rfl, by decide +kernel⟩, ⟨_, rfl, by decide +kernel⟩, ⟨_, rfl, by decide +kernel⟩⟩

theorem test_InterruptsStayExact_meets : ∃ s t : State, s.dev.irqOk ∧ step s = .next t :=
  ⟨⟨rig, none, [.tickBoundary]⟩, _, (by unfold Dev.irqOk; decide +kernel), rfl⟩

theorem test_PendingCopiesStayBacked_meets : ∃ s t : State, s.dev.pend ≠ [] ∧ s.dev.pendOk ∧ step s = .next t :=
  ⟨⟨{ rig with pend := [(R.OUTn_DIV 0, 1)], pendNow := [⟨.word (R.OUTn_DIV 0) 1 1, none⟩] }, none, [.tickBoundary]⟩, _, by decide +kernel,
    (by unfold Dev.pendOk; decide +kernel), rfl⟩

theorem test_QuietStaysAsItIs_meets : ∃ d : Dev, d.quiet :=
  ⟨{ Dev.powerOn with flt := { FltState.powerOn with croakBad := 8 } }, ⟨by decide, by decide +kernel, by decide, by decide, by decide, by decide +kernel,
    by decide +kernel, by decide +kernel, by decide +kernel, by decide +kernel, by decide +kernel, by decide +kernel, by decide, by decide +kernel,
    by decide +kernel, by decide +kernel, by unfold Dev.irqOk; decide +kernel⟩⟩

/-! ### The command interface -/

def nopEntry : Entry := entryOf 0 0 0 []

/-- Entries ready on the rings of a list, and in-band or not. -/
def ready (l : List Nat) (inb : Bool) (turn : Bool := false) : Dev :=
  { rig with cmd := { rig.cmd with rings := l.map fun r => (r, { Ring.reset with enabled := true, fetched := [nopEntry] }),
                                   inband := if inb then [nopEntry] else [], inbandTurn := turn } }

/-- The clauses of TurnFollowsPriority, each somewhere; the last two are the two ways in which ring 2 and the in-band queue take turns. -/
theorem test_TurnFollowsPriority_meets :
    (mode .halt (ready [0] false)).turn = none ∧ (poke (ready [0] false) [(F.MGMT_STATUS.ONLINE, 0)]).turn = none ∧ (ready [0, 1, 2, 3] true).turn = some
      (.ring 0) ∧ (ready [1, 2, 3] true).turn = some (.ring 1) ∧
    (ready [2, 3] false).turn = some (.ring 2) ∧ (ready [3] true).turn = some .inband ∧ (ready [3] false).turn = some (.ring 3) ∧ (ready [] false).turn = none ∧
    (ready [2, 3] true).turn = some (.ring 2) ∧ ((ready [2, 3] true).popCmd (.ring 2)).turn = some .inband ∧
    (ready [2, 3] true true).turn = some .inband ∧ ((ready [2, 3] true true).popCmd .inband).turn = some (.ring 2) := by decide +kernel

/-- An entry of NOP with a time limit of 1 ms, 2 ms after the device saw it, and one that is in time. -/
def late : Dev := load { rig with now := 2 * msec } ⟨(nopEntry.bytes.take 12) ++ [1] ++ (nopEntry.bytes.drop 13), 0, 0, 0, 0, 0, false⟩
def crowded : Dev :=
  { rig with cmd := { rig.cmd with inProgress := List.replicate 256 ⟨0, .ring 0, nopEntry, 0, false, 0x0405, 0, .armed, 0, 0, false⟩ } }

/-- The status with which the front command of ring 0 ends without executing. -/
def refusal (d : Dev) (spec : CmdSpec) : Option Status :=
  let e := ((d.frontOf (.ring 0)).getD nopEntry)
  ((d.popCmd (.ring 0)).countCommand e).reject spec (Cmd.parse (.ring 0) e spec.params none)

theorem test_CommandsThatDoNotExecute_meets :
    (opcodes.contains nopSpec.opcode = true ∧ opcodes.contains shaftStartSpec.opcode = true) ∧
    (let d := load rig (entryOf 0xFFFF 0 0 []); d.turn = some (.ring 0) ∧ (d.frontOf (.ring 0)).map Entry.opcode = some 0xFFFF ∧ opcodes.contains 0xFFFF =
      false) ∧
    (let d : Dev := { booting 7 with boot := { (booting 7).boot with begun := true }, cmd := { rig.cmd with list := [entryOf 0xFFFF 0 0 []] } };
      d.turn = some .list ∧ (d.frontOf .list).map Entry.opcode = some 0xFFFF ∧ listAccepts 0xFFFF = false) ∧
    (late.turn = some (.ring 0) ∧ (late.frontOf (.ring 0)).map (fun e => decide ((Cmd.parse (.ring 0) e [] none).timeout ≠ 0 ∧
      e.seen + (Cmd.parse (.ring 0) e [] none).timeout * msec < late.now)) = some true) ∧
    (let d := load rig (entryFor shaftStartSpec 0 0x03000000 [100]); d.turn = some (.ring 0) ∧ refusal d shaftStartSpec ≠ none) ∧
    (let d := load crowded (entryFor shaftStartSpec 0 0x03000000 [102]); d.turn = some (.ring 0) ∧ refusal d shaftStartSpec = none ∧
      (d.popCmd (.ring 0)).hasPlace (.ring 0) = false) := by decide +kernel

/-- A command of each of the checks of R241. -/
theorem test_ChecksKeepTheirOrder_meets :
    refusal (load rig (entryFor shaftStartSpec 0x8000 0x03000000 [102])) shaftStartSpec = some .range ∧
    refusal (load rig (entryFor shaftStartSpec 0 0x0300003F [102])) shaftStartSpec = some .badHandle ∧
    refusal (load rig (entryFor shaftStartSpec 0 0x03010000 [102])) shaftStartSpec = some .staleHandle ∧
    refusal (load rig (entryFor folConfigSpec 0 0x04000003 [0x03010000, 0, 0x07000000, 1, 1, 31, 0])) folConfigSpec = some .staleHandle ∧
    refusal (load (mode .configure rig) (entryFor shaftStartSpec 0 0x03000000 [102])) shaftStartSpec = some .mode ∧
    refusal (load rig (entryFor shaftStartSpec 0 0x03000001 [102])) shaftStartSpec = some .state ∧
    refusal (load rig (entryFor chCreateSpec 0 0 [32])) chCreateSpec = some .range ∧
    refusal (load rig (entryFor calSaveSpec 0 0 [])) calSaveSpec = some .busy ∧
    refusal (load rig (entryFor chCreateSpec 0 0 [0])) chCreateSpec = some .noResource ∧
    refusal (load rig (entryFor shaftStartSpec 0 0x03000000 [100])) shaftStartSpec = some .deadline ∧
    refusal (load rig (entryFor shaftStartSpec 0 0x03000000 [102])) shaftStartSpec = none := by decide +kernel

theorem test_HandlesAreChecked_meets : ∃ (d : Dev) (ty idx far ty' g : Nat), 0 < ty ∧ idx < typeCount ty ∧ d.shaftFree idx = false ∧ d.shaftFree 63 = true ∧
    63 < typeCount ty ∧ ty' ≠ ty ∧ 0 < ty' ∧ typeCount ty ≤ far ∧ far < 65536 ∧ g < 256 ∧ g ≠ d.gen ty idx :=
  ⟨rig, 3, 0, 64, 4, 255, by decide +kernel⟩

theorem test_ChannelHandlesGoStale_meets : Runs chDestroySpec none ∧
    (let d := load rig (entryFor chCreateSpec 0 0 [1]); let c := Cmd.parse (.ring 0) (entryFor chCreateSpec 0 0 [1]) chCreateSpec.params none
     d.turn = some (.ring 0) ∧ c.timeout = 0 ∧ c.reservedOk chCreateSpec = true ∧ c.p 0 < 32 ∧ d.chFree (c.p 0) = false) :=
  ⟨runs rig chDestroySpec none (entryFor chDestroySpec 0 0x01000000 []) (by decide +kernel), by decide +kernel⟩

/-- Each row of NoTickNoArming would run but for the tick. -/
def stilled (spec : CmdSpec) (fl h : Nat) (vs : List Nat) : Bool :=
  let d := { rig with tick := { rig.tick with running := false } }
  let e := entryFor spec fl h vs
  let c := Cmd.parse (.ring 0) e spec.params none
  decide (c.reservedOk spec = true ∧ (spec.ty = 0 ∨ d.checkHandle c.handle spec.ty spec.isFree .badHandle = none) ∧ d.checkHandles c spec.handles = none ∧
    spec.modes (c.mode d) = true) && decide (refusal (load rig e) spec = none) && decide (refusal (load d e) spec = some .state)

theorem test_NoTickNoArming_meets :
    stilled msRampStartSpec 0 0 [0, 105] && stilled shaftStartSpec 0 0x03000000 [102] && stilled shaftStopSpec 1 0x03000001 [102] &&
    stilled shaftRetuneSpec 0 0x03000001 [5, 0, 1, 102] && stilled lineStartAllSpec 0 0 [102] && stilled lineStopAllSpec 1 0 [102] &&
    stilled folStartSpec 3 0x04000000 [102] && stilled folStopSpec 0 0x04000001 [102] && stilled streamStartSpec 0 0x08000000 [102] &&
    stilled streamStopSpec 0 0x08000001 [102] && stilled snapCaptureSpec 0 0 [102] && stilled chStartSpec 0 0x01000000 [105] &&
    stilled chStopSpec 0 0x01000001 [105] = true := by decide +kernel

/-! ### Registers and pairs -/

/-- The host, and ring 3, as requesters. -/
def host : Req := rig.reqOf .host
def ring3 : Req := rig.reqOf (.ring 3)

theorem test_ReadsChangeOnlyWhatTheyReturn_meets :
    (∃ x, findReg R.TIME_EVENT = some x ∧ x.bits .rc ≠ 0) ∧ rig.hidden R.TIME_EVENT = false ∧ host.code ≠ 6 ∧ (rig.reqOf .smbus).code = 6 ∧
    R.TIME_EVENT < 0x7C100 ∧ 0x7C200 ≤ 0x7C200 ∧ isLo R.TIME_EVENT = false ∧ isLo (R.MSn_NFRAC_LO 3) = true ∧ ring3.key ≠ host.key :=
  ⟨⟨_, rfl, by decide +kernel⟩, by decide +kernel⟩

theorem test_HiddenReadsZero_meets :
    (findReg 0xFFFFC = none ∧ gpBase 0xFFFFC = none ∧ isHi 0xFFFFC = false) ∧
    ((findReg R.FLT_ACK).any (fun r => decide (r.bits .wo ≠ 0)) ∧ gpBase R.FLT_ACK = none ∧ isHi R.FLT_ACK = false) ∧
    ((booting 4).glb.mode = .boot ∧ ({ rig with glb := { rig.glb with regsReady := false } } : Dev).glb.regsReady = false ∧ 0x1000 ≤ 0x3FFC ∧ 0x3FFC < 0x4000
      ∧ 0x5000 ≤ 0x5000) ∧
    ((mode .halt { rig with glb := { rig.glb with regsReady := false } }).glb.mode ≠ .boot ∧ (findReg R.FLT_STATUS).isSome ∧ gpBase R.FLT_STATUS = none ∧
      isHi R.FLT_STATUS = false) ∧
    (gpBase (R.LINK_KEY 1 7) = some (R.LINK_KEY 1 7) ∧ gpBase (R.LINK_KEY 1 7 + 4) = some (R.LINK_KEY 1 7) ∧ isKey (R.LINK_KEY 1 7) = true ∧ ring3.priv =
      false) := by
  decide +kernel

theorem test_UntakenWritesChangeNothing_meets :
    host.code ≠ 6 ∧ (rig.reqOf .smbus).code = 6 ∧ Tbl.get? rig.glb.guards host.key = none ∧ contiguous 5 = false ∧ contiguous 15 = true ∧
    (findReg 0xFFFFC = none ∧ gpBase 0xFFFFC = none) ∧
    ((findReg R.GLB_ID).any (fun r => decide (r.writable &&& beMask 15 = 0)) ∧ gpBase R.GLB_ID = none ∧ isLo R.GLB_ID = false ∧ isHi R.GLB_ID = false) := by
  decide +kernel

theorem test_AccessErrorsAreRecorded_meets : (0xFFFFC < 2 ^ 20 ∧ ring3.code < 8 ∧ host.code < 8) ∧
    (rig.bit F.GLB_ACCESS_FIRST.VALID = false ∧ (rig.accessError host 0x10008 1).bit F.GLB_ACCESS_FIRST.VALID = true) ∧
    ((rig.accessError host 0x10008 1).word R.GLB_WWE_COUNT = 1 ∧ (rig.accessError host 0x10 4).word R.GLB_GUARD_ERR_COUNT = 1 ∧
      (rig.accessError ring3 0xFFFFC 7).word R.GLB_ACCESS_LAST = 0x847FFFFC ∧ (rig.accessError host 0x70800 6).bit F.GLB_ACCESS_STATUS.DENIED = true) := by
  decide +kernel

theorem test_GuardedRegistersAreThoseOfTheTable_meets :
    gpBase 0x70900 = some 0x70900 ∧ gpBase 0x70904 = some 0x70900 ∧ gpBase 0x70878 = none ∧ gpBase 0x70838 = some 0x70838 ∧
    (host.mode rig ≠ .configure ∧ host.mode rig ≠ .test) ∧ (host.mode (mode .configure rig) = .configure ∧ (mode .configure rig).anyStream = true) ∧
    (host.mode (booting 7) = .boot ∧ host.mode (mode .halt rig) = .halt) := by decide +kernel

/-- A device on which the host has opened a pair. -/
def paired (x : Nat) (v : Word) (m : Mode := .configure) (at' : Nat := 0) : Dev :=
  { rig with glb := { rig.glb with mode := m, guards := [(0, ⟨x, v, at'⟩)] }, store := { rig.store with streams := [] } }

theorem test_GuardedPairsNeedTheirComplement_meets :
    (host.code ≠ 6 ∧ ∃ p, Tbl.get? (paired 0x10 1).glb.guards host.key = some p ∧ (paired 0x10 1).now ≤ p.at' + msec ∧ 0x14 = p.off + 4 ∧ 0xFFFFFFFE#32 =
      ~~~p.val ∧
      ¬ (0x10 = p.off + 4)) ∧
    (∃ p, Tbl.get? ({ paired 0x10 1 with now := msec + 1 } : Dev).glb.guards host.key = some p ∧ p.at' + msec < msec + 1) ∧
    (Tbl.get? rig.glb.guards host.key = none ∧ gpBase 0x10 = some 0x10 ∧ gpBase 0x14 = some 0x10 ∧ isKey 0x10 = false ∧ 0x14 ≠ 0x10 ∧ contiguous 7 = true) ∧
    (gpBase (R.LINK_KEY 0 0) = some (R.LINK_KEY 0 0) ∧ isKey (R.LINK_KEY 0 0) = true ∧ ring3.priv = false) :=
  ⟨⟨by decide +kernel, _, rfl, by decide +kernel⟩, ⟨_, rfl, by decide +kernel⟩, by decide +kernel, by decide +kernel⟩

theorem test_PairsReadAndWriteWhole_meets :
    let lo := R.MSn_NFRAC_LO 3
    (isLo lo = true ∧ host.code ≠ 6 ∧ lo < 0x7C100 ∧ rig.hidden lo = false ∧ rig.hidden (lo + 4) = false) ∧
    ((findReg lo).any (fun r => decide (r.writable ≠ 0)) ∧ gpBase lo = none ∧ contiguous 15 = true ∧ Tbl.get? rig.glb.guards host.key = none ∧ ¬ 0x20000 ≤ lo) ∧
    Tbl.get? ({ rig with glb := { rig.glb with stages := [(0, (lo, 5))] } } : Dev).glb.stages host.key = some (lo, 5) := by decide +kernel

/-- Whether a write of a register is taken, as one question. -/
def taken (d : Dev) (req : Requester) (off : Nat) (val : Word) : Bool :=
  d.boot.powered && !d.boot.rstLow && d.reaches req && decide (Tbl.get? d.glb.guards (d.reqOf req).key = none) && decide (req ≠ .smbus) && d.modeTakes
    (d.reqOf req) off &&
    !d.wwe (d.reqOf req) ⟨off, beMask 15, val⟩ && (decide (off < 0x20000) || decide (0x28000 ≤ off) || !d.chFree ((off - 0x20000) / 0x400))

/-- Some state takes that write. -/
def Takes (req : Requester) (off : Nat) (val : Word) : Prop := ∃ s : State, s.up ∧ s.dev.takesWrite req off 15 val

theorem takes (d : Dev) {req : Requester} {off : Nat} {val : Word} (h : taken d req off val = true) : Takes req off val := by
  simp only [taken, Bool.and_eq_true, Bool.or_eq_true, decide_eq_true_eq, Bool.not_eq_true'] at h
  obtain ⟨⟨⟨⟨⟨⟨⟨h1, h2⟩, h3⟩, h4⟩, h5⟩, h6⟩, h7⟩, h8⟩ := h
  exact ⟨⟨d, none, []⟩, ⟨h1, h2⟩, h3, h4, h5, by decide, by decide, h6, h7, fun ha hb => by
    rcases h8 with (h8 | h8) | h8
    · omega
    · omega
    · exact h8⟩

/-- Some state takes that write and meets a condition. -/
def TakesIn (req : Requester) (off : Nat) (val : Word) (p : Dev → Prop) : Prop := ∃ s : State, s.up ∧ s.dev.takesWrite req off 15 val ∧ p s.dev

theorem takesIn (d : Dev) {req : Requester} {off : Nat} {val : Word} {p : Dev → Prop} (hp : p d) (h : taken d req off val = true) : TakesIn req off val p := by
  simp only [taken, Bool.and_eq_true, Bool.or_eq_true, decide_eq_true_eq, Bool.not_eq_true'] at h
  obtain ⟨⟨⟨⟨⟨⟨⟨h1, h2⟩, h3⟩, h4⟩, h5⟩, h6⟩, h7⟩, h8⟩ := h
  exact ⟨⟨d, none, []⟩, ⟨h1, h2⟩, ⟨h3, h4, h5, by decide, by decide, h6, h7, fun ha hb => by
    rcases h8 with (h8 | h8) | h8
    · omega
    · omega
    · exact h8⟩, hp⟩

/-- The clauses of the rings: the last index, the first past it, one ring enabled and one disabled. -/
theorem test_RegisterRowsAct_rings_meet :
    TakesIn .host (R.CMD_SQr_TAIL 3) 15 (fun d => (d.overlaid .host (R.CMD_SQr_TAIL 3) 15 15).toNat < d.sqLen 3) ∧
    TakesIn .host (R.CMD_SQr_TAIL 3) 16 (fun d => d.sqLen 3 ≤ (d.overlaid .host (R.CMD_SQr_TAIL 3) 15 16).toNat) ∧
    TakesIn .host (R.CMD_CQr_HEAD 3) 15 (fun d => (d.overlaid .host (R.CMD_CQr_HEAD 3) 15 15).toNat < d.cqLen 3) ∧
    TakesIn .host (R.CMD_CQr_HEAD 3) 16 (fun d => d.cqLen 3 ≤ (d.overlaid .host (R.CMD_CQr_HEAD 3) 15 16).toNat) ∧
    TakesIn .host R.CMD_CTRL 8 (fun d => ∀ i, i < 4 → i ≠ 3 → (8 : Word).getLsbD i = (d.ring i).enabled) ∧
    TakesIn .host R.CMD_CTRL 0 (fun d => (∀ i, i < 4 → i ≠ 3 → (0 : Word).getLsbD i = (d.ring i).enabled) ∧ (d.ring 3).enabled = true) :=
  ⟨takesIn rig (by decide +kernel) (by decide +kernel), takesIn rig (by decide +kernel) (by decide +kernel),
   takesIn rig (by decide +kernel) (by decide +kernel), takesIn rig (by decide +kernel) (by decide +kernel), takesIn rig (by decide +kernel) (by
     decide +kernel),
   takesIn (ringed 3 { Ring.reset with enabled := true }) (by decide +kernel) (by decide +kernel)⟩

/-- The clauses of the synthesisers and outputs. -/
theorem test_RegisterRowsAct_units_meet :
    TakesIn .host (R.MSn_CTRL 3) 3 (fun d => d.bit (F.MSn_CTRL.EN 3) = false ∧ d.bit (F.MSn_STATUS.SURVEYING 3) = false ∧ (d.selectBand 3).isSome) ∧
    TakesIn .host (R.MSn_CTRL 0) 2 (fun d => d.bit (F.MSn_CTRL.EN 0) = true ∧ d.msInUse 0 = false) ∧
    TakesIn (.inband 9) (R.MSn_RAMP_CTRL 0) 1 (fun d => (∀ c ∈ d.rampChecks 0, c.2 = false) ∧ d.tick.running = true ∧ d.get64 (R.MSn_RAMP_TICK_LO 0) = 0) ∧
    TakesIn .host (R.MSn_RAMP_CTRL 3) 2 (fun d => (d.msOf 3).ramp.any fun z => !z.profile) ∧
    TakesIn .host (R.OUTn_CTRL 0) 1 (fun d => ∀ c ∈ d.chStartChecks 0 (d.get64 (R.OUTn_START_TICK_LO 0)), c.2 = false) ∧
    TakesIn .host (R.OUTn_CTRL 1) 8 (fun d => (d.outOf 1).st = .running ∧ (d.outOf 1).sub = .active ∧ (d.outOf 1).goal = none) :=
  ⟨takesIn rig (by decide +kernel) (by decide +kernel), takesIn { rig with outs := [] } (by decide +kernel) (by decide +kernel),
   takesIn rig (by decide +kernel) (by decide +kernel), takesIn (rig.setMs 3 { Ms.reset with ramp := some ⟨0, 0, 0, 0, false⟩ }) (by decide +kernel) (by
     decide +kernel),
   takesIn rig (by decide +kernel) (by decide +kernel), takesIn rig (by decide +kernel) (by decide +kernel)⟩

/-- The clauses of the other registers. -/
theorem test_RegisterRowsAct_rest_meet :
    (Takes .host R.FLT_ACK 1 ∧ Takes (.ring 3) R.TIME_CAP_CTRL 1 ∧ Takes .host R.LINK_CTRL 1 ∧ Takes .host R.LINK_CTRL 0) ∧
    (TakesIn .host R.STORE_CTRL 1 (fun d => d.bit F.STORE_CTRL.EN = false ∧ d.storeState = 0) ∧ TakesIn .host R.STORE_CTRL 0 (fun d => d.bit F.STORE_CTRL.EN
      = true) ∧
      TakesIn .host R.STORE_RELEASE 0x8000 (fun d => ((List.range 16).map fun i => if i = 15 then Window.free else d.store.windows.getD i Window.free) ≠
        d.store.windows)) ∧
    (TakesIn .host (R.FIELDn_CTRL 7) 1 (fun d => d.domainOn 21 = true) ∧ Takes .host (R.FIELDn_CTRL 7) 0 ∧ Takes .host R.MGMT_CTRL 4 ∧
      TakesIn .host R.MGMT_CTRL 2 (fun d => d.mgmtCount.bit F.MGMT_CTRL.SAMP_EN = false) ∧
      TakesIn .host R.MGMT_CTRL 0 (fun d => d.mgmtCount.bit F.MGMT_CTRL.SAMP_EN = true) ∧
      TakesIn .host R.DBG_CHECK 1 (fun d => d.flt.checking = false ∧ d.domainOn 23 = true)) :=
  ⟨⟨takes rig (by decide +kernel), takes rig (by decide +kernel), takes rig (by decide +kernel), takes rig (by decide +kernel)⟩,
   ⟨takesIn (poke rig [(F.STORE_STATUS.STATE, 0)]) (by decide +kernel) (by decide +kernel), takesIn (poke rig [(F.STORE_CTRL.EN, 1)]) (by decide +kernel) (by
     decide +kernel),
    takesIn { rig with store := { rig.store with windows := List.replicate 15 Window.free ++ [{ Window.free with inUse := true }] } } (by decide +kernel) (by
      decide +kernel)⟩,
   ⟨takesIn rig (by decide +kernel) (by decide +kernel), takes rig (by decide +kernel), takes rig (by decide +kernel),
    takesIn rig (by decide +kernel) (by decide +kernel), takesIn (poke rig [(F.MGMT_CTRL.SAMP_EN, 1)]) (by decide +kernel) (by decide +kernel),
    takesIn rig (by decide +kernel) (by decide +kernel)⟩⟩

/-- Some state has a pair that its second write can complete, and meets a condition. -/
def Readies (x : Nat) (v : Word) (p : Dev → Prop) : Prop := ∃ s : State, s.up ∧ s.dev.pairReady .host x v ∧ p s.dev

theorem readies (d : Dev) {x : Nat} {v : Word} {p : Dev → Prop} (hp : p d)
    (h : (d.boot.powered && !d.boot.rstLow && d.reaches .host && decide (Tbl.get? d.glb.guards 0 = some ⟨x, v, 0⟩) && decide (d.now ≤ msec) &&
      d.pairTakes (d.reqOf .host) x) = true) : Readies x v p := by
  simp only [Bool.and_eq_true, decide_eq_true_eq, Bool.not_eq_true'] at h
  exact ⟨⟨d, none, []⟩, h.1.1.1.1, ⟨h.1.1.1.2, nofun, ⟨0, h.1.1.2, by have := h.1.2; simpa using this⟩, h.2⟩, hp⟩

def injecting (n v : Nat) : Dev := poke (paired R.FLT_INJ_CTRL (BitVec.ofNat 32 v) .test) [(F.FLT_INJ_MODE.MODE, n)]

theorem test_GuardedPairRowsAct_meets :
    (Readies R.GLB_MODE_REQ 2 (fun d => d.glb.modeReq = none) ∧ Readies R.GLB_SOFT_RESET 1 (fun _ => True) ∧ Readies R.PWR_DOMAIN_CTRL 0x107 (fun _ => True) ∧
      Readies R.FLT_INJ_MODE 1 (fun _ => True)) ∧
    (Readies R.FLT_INJ_CTRL 0x01000410 (fun d => kindClass 16 1 = some .u ∧ d.injMode = 1) ∧ Readies R.FLT_INJ_CTRL 0x0200FC7F (fun _ => True) ∧
      Readies R.FLT_INJ_CTRL 0x03000000 (fun _ => True) ∧ Readies R.FLT_INJ_CTRL 0x04000000 (fun d => d.injMode = 2 ∧ d.get F.FLT_INJ_MODE.CB_TARGET ≤ 4) ∧
      Readies R.FLT_INJ_CTRL 0x05000000 (fun _ => True)) ∧
    (Readies R.STORE_ERASE 1 (fun d => d.storeState = 3 ∨ d.storeState = 4) ∧ Readies R.EVT_CLAY_CLEAR 1 (fun d => d.evt.clearing = none) ∧
      Readies (R.LINK_KEY 1 7) 9 (fun _ => True) ∧ Readies R.LINK_KEY_CTRL 3 (fun _ => True)) :=
  ⟨⟨readies (paired R.GLB_MODE_REQ 2) rfl (by decide +kernel), readies (paired R.GLB_SOFT_RESET 1) trivial (by decide +kernel),
    readies (paired R.PWR_DOMAIN_CTRL 0x107) trivial (by decide +kernel), readies (paired R.FLT_INJ_MODE 1) trivial (by decide +kernel)⟩,
   ⟨readies (injecting 1 0x01000410) (by decide +kernel) (by decide +kernel), readies (injecting 1 0x0200FC7F) trivial (by decide +kernel),
    readies (injecting 1 0x03000000) trivial (by decide +kernel), readies (injecting 2 0x04000000) (by decide +kernel) (by decide +kernel),
    readies (injecting 2 0x05000000) trivial (by decide +kernel)⟩,
   ⟨readies (paired R.STORE_ERASE 1) (by decide +kernel) (by decide +kernel), readies (paired R.EVT_CLAY_CLEAR 1) (by decide +kernel) (by decide +kernel),
    readies (paired (R.LINK_KEY 1 7) 9) trivial (by decide +kernel), readies (paired R.LINK_KEY_CTRL 3) trivial (by decide +kernel)⟩⟩

theorem test_RegisterAccessActs_meets :
    rig.reaches .host = true ∧ Takes .host (R.MSn_LOCK_CFG 3) 0 ∧ Takes .host (R.MSn_NFRAC_LO 3) 0 ∧
    ((findReg (R.MSn_LOCK_CFG 3)).any (fun r => decide (r.writable &&& beMask 15 ≠ 0)) ∧ gpBase (R.MSn_LOCK_CFG 3) = none ∧ isLo (R.MSn_LOCK_CFG 3) = false ∧
      isHi (R.MSn_LOCK_CFG 3) = false) ∧
    ((findReg (R.MSn_NFRAC_LO 3)).any (fun r => decide (r.writable ≠ 0)) ∧ gpBase (R.MSn_NFRAC_LO 3) = none ∧ isLo (R.MSn_NFRAC_LO 3) = true) ∧
    (gpBase 0x10 = some 0x10 ∧ isKey 0x10 = false ∧ Tbl.get? rig.glb.guards host.key = none) ∧
    (∃ p, Tbl.get? (paired 0x10 1).glb.guards host.key = some p) :=
  ⟨by decide +kernel, takes rig (by decide +kernel), takes rig (by decide +kernel), by decide +kernel, by decide +kernel, by decide +kernel, _, rfl⟩

theorem test_SupplyAndBoundaryRowsAct_meets :
    State.reset.dev.boot.powered = false ∧ rig.boot.powered = true ∧ (rig.boot.rstLow = false ∧ rig.pulseTaken 10000 = true) ∧
    ({ rig with boot := { rig.boot with rstLow := true } } : Dev).boot.rstLow = true ∧
    (State.reset.dev.boot.perst = false ∧ State.reset.dev.pulseTaken 10000 = true ∧ ({ rig with boot := { rig.boot with perst := true } } : Dev).boot.perst =
      true) ∧
    ((booting 1).boot.powered = true ∧ (booting 1).inStep 1 = true ∧ 0x7F8#17 &&& 0x7F8#17 = 0x7F8#17) ∧ rig.tap.trst = false ∧
    (rig.opensK (some 100) = some 101 ∧ rig.opensK none = some 101) := by decide +kernel

/-! ### Shafts, faults, modes and records -/

theorem test_PlannerKeepsItsLimits_meets :
    planStep 0 0 100 10 1 = (1, 1, false) ∧ (planStep 5 0 5 10 1).2.2 = true ∧ (planStep 4 0 5 10 1).2.2 = true ∧ (planStep 9 0 5 10 1).1 < 9 :=
      by decide +kernel

/-- The speed 146,601,550,370 + 2/15. -/
def held : Shaft :=
  { Shaft.reset with st := .running, sub := 3, target := ⟨146601550370, 2, 15⟩, v := 146601550370 * 2 ^ 32, trackA := 1, trackJ := 1 }

theorem test_ConstantSpeedIsExact_meets :
    held.st = .running ∧ held.sub = 3 ∧ held.prof = none ∧ held.following = false ∧ held.v = held.target.tgt * 2 ^ 32 ∧ held.a = 0 ∧ held.trim = 0 ∧
    0 < held.trackJ ∧ held.target.num < held.target.den ∧ held.remAcc < held.target.den ∧ ({ held with sub := 4 } : Shaft).following = false :=
      by decide +kernel

/-- 15 ticks at that speed make 15 × TARGET + 2 LSB exactly (R145). -/
theorem test_fifteen_ticks : ((held.advances [] 0 15).pos : Int) = 15 * 146601550370 + 2 ∧ (held.advances [] 0 15).remAcc = 0 := by decide +kernel

def message (source kind : Nat) (cls : FClass) : FaultMsg := ⟨source, kind, cls, 0, false, true, false⟩
def queued (n : Nat) : Dev := { rig with flt := { rig.flt with queues := [(13, List.replicate n (message 13 1 .u)), (16, [message 16 1 .c])] } }

theorem test_MessagesQueueAndCombine_meets :
    (Tbl.getD (queued 7).flt.queues 13 []).length < 8 ∧
    (Tbl.getD (queued 8).flt.queues 13 [] = List.replicate 7 (message 13 1 .u) ++ [message 13 1 .u] ∧ (List.replicate 7 (message 13 1 .u)).length = 7) ∧
    (Tbl.sorted (queued 8).flt.queues = true ∧ Tbl.get? (queued 8).flt.queues 13 = some (message 13 1 .u :: List.replicate 7 (message 13 1 .u)) ∧
      ∀ s', s' < 13 → Tbl.getD (queued 8).flt.queues s' [] = []) := by decide +kernel

theorem test_FaultsAreCapturedOrMerged_meets :
    (rig.flt.rec? = none ∧ rig.reactionOf 13 .u ≤ 1 ∧ rig.reactionOf 127 .u ≤ 1) ∧ (rig.flt.rec? = none ∧ rig.reactionOf 2 .c = 0) ∧
    (∃ x, faulty.flt.rec? = some x ∧ x.cls ≠ .f ∧ faulty.reactionOf 13 .u ≤ x.reaction) :=
  ⟨by decide +kernel, by decide +kernel, _, rfl, by decide +kernel⟩

theorem test_AcknowledgementEndsHandling_meets :
    (faulty.flt.rec?.isSome = true ∧ faulty.glb.mode ≠ .halt) ∧ rig.flt.rec? = none ∧ (mode .halt faulty).glb.mode = .halt ∧
    (let c := Cmd.parse (.ring 0) (entryFor fltAckSpec 0 0 []) fltAckSpec.params none; c.reservedOk fltAckSpec = true ∧ (c.mode rig).served = true) ∧
    Takes .host R.FLT_ACK 1 ∧ Runs fltAckSpec none :=
  ⟨by decide +kernel, by decide +kernel, by decide +kernel, by decide +kernel, takes faulty (by decide +kernel),
    runs faulty fltAckSpec none (entryFor fltAckSpec 0 0 []) (by decide +kernel)⟩

theorem test_ModeRequestsFollowTheTable_meets :
    rig.judgeMode Mode.run.code = some .ok ∧ rig.judgeMode Mode.test.code = some .mode ∧ rig.judgeMode Mode.configure.code = some .state ∧
    ({ rig with sh := ShaftState.empty } : Dev).judgeMode Mode.configure.code = none ∧ (mode .degraded rig).judgeMode Mode.run.code = none ∧
    (mode .degraded faulty).judgeMode Mode.run.code = some .state ∧ (mode .configure rig).judgeMode Mode.run.code = none ∧
    (mode .test rig).judgeMode Mode.configure.code = none ∧ rig.judgeMode 6 = some .range := by decide +kernel

theorem test_RecordsAreNumbered_meets :
    let full := { rig with evt := { rig.evt with fifo := List.replicate 64 ⟨0x100, none, []⟩ } }
    rig.evt.seq < 2 ^ 32 ∧ 4095 < 4096 ∧ rig.bit F.EVT_STATUS.SAND_OFF = false ∧ rig.evt.fifo.length < 64 ∧ 64 ≤ full.evt.fifo.length := by decide +kernel

/-! ### Single operations against the worked examples of the spec -/

/-- The first generation after a boot with PCC = 1,204 (worked example of Command interface and handles), and the handle of OUT9. -/
theorem test_first_generation :
    let d := ({ rig with evt := { rig.evt with pcc := 1204 } } : Dev).genBoot
    d.gen 1 9 = 0xB9 ∧ d.handle 1 9 = 0x01B90009 := by decide +kernel

/-- Table 10-7: the entry of CH_CONFIG byte by byte. -/
theorem test_channel_entry :
    let e : Entry := ⟨[2, 1, 0, 0, 2, 1, 0, 0, 9, 0, 0xB9, 1, 0, 0, 0, 0, 1, 1, 5, 0, 2, 0, 0, 1, 4, 0, 1, 0, 0x28, 0, 0, 0, 0xCE, 1, 0, 0, 0, 0, 0, 0, 0xD6,
      0x34, 0, 0, 0, 0, 0, 0,
      0x93, 0x69, 0, 0, 0, 0, 0, 0, 0, 0, 0, 0, 0, 0, 0, 0], 0, 0, 0, 0, 0, false⟩
    let c := Cmd.parse (.ring 1) e chConfigSpec.params none
    e.opcode = 0x0102 ∧ c.tag = 0x0102 ∧ c.handle = 0x01B90009 ∧ c.timeout = 0 ∧
      (List.range 16).map c.p = [1, 1, 5, 0, 2, 0, 0, 1, 4, 1, 40, 0, 462, 13526, 27027, 0] := by decide +kernel

/-- The three messages of the worked example of Faults. -/
theorem test_message_codes :
    (⟨0x010, 1, .u, 33, false, true, false⟩ : FaultMsg).code = 0x0800000000860410 ∧
    (⟨0x050, 2, .c, 0, false, true, false⟩ : FaultMsg).code = 0x0800000000010850 ∧
    (⟨0x043, 1, .u, 31, false, true, false⟩ : FaultMsg).code = 0x08000000007E0443 := by decide +kernel

/-- Table 8-1, ticks 1, 2 and 8 of the roller geared 96/127. -/
theorem test_gear :
    gearStep 0 0 146601550370 96 127 = (110816919964, 92) ∧ gearStep 0 92 146601550370 96 127 = (110816919965, 57) ∧
    gearStep 0 9 146601550371 96 127 = (110816919965, 70) := by decide +kernel

/-- The curve of the example of Followers and cams: 7.625 revolutions give 7.5625. -/
theorem test_cam :
    let pts := [leBytes 16 0, leBytes 16 0, leBytes 16 0x80000000, leBytes 8 0xC0000000 ++ leBytes 8 0x80000000]
    (⟨0, 2 ^ 32, pts, pts, true⟩ : Cam).output (7 * 2 ^ 48 + 0xA00000000000) = 0x790000000 := by decide +kernel

/-- The worked example of Register interface: a spoilt pair, its orphan complement, and the pair that completes. -/
theorem test_mode_request_by_register :
    let d := mode .configure { rig with sh := ShaftState.empty }
    let d1 := registerWrite .host (.one 0x10 15 2) d
    let d2 := registerWrite .host (.one 0x70 15 0x1234) d1
    let d3 := registerWrite .host (.one 0x14 15 0xFFFFFFFD) d2
    let d4 := registerWrite .host (.one 0x14 15 0xFFFFFFFD) (registerWrite .host (.one 0x10 15 2) d3)
    d2.word R.GLB_GUARD_ERR_COUNT = 1 ∧ d2.word R.GLB_ACCESS_FIRST = 0x80400010 ∧ d2.word 0x70 = 0 ∧ d3.word R.GLB_GUARD_ERR_COUNT = 2 ∧
    d3.word R.GLB_ACCESS_FIRST = 0x80400010 ∧ (d3.readOne host R.GLB_ACCESS_STATUS 15).2 = 0x00010000 ∧ d4.glb.modeReq.map (·.code) = some 2 :=
      by decide +kernel

/-- The counts of Table 16-2, the 109 balls of the boundary-scan register, and the examples below Table 16-4. -/
theorem test_balls :
    let uses := allBalls.map fun p => ballUse p.1 p.2
    let supplies (f : Supply → Bool) := (uses.filter fun u => match u with | .supply v => f v | _ => false).length
    (uses.filter fun u => match u with | .signal _ _ => true | _ => false).length = 162 ∧ (uses.filter (· = .unconnected)).length = 1 ∧
    (uses.filter (· = .vss)).length = 729 ∧ supplies (· = .core) = 308 ∧ supplies (· = .sram) = 84 ∧ supplies (· = .vddio) = 8 ∧
    supplies (· = .vddf) = 4 ∧ supplies (· = .aon) = 4 ∧ supplies (fun v => match v with | .vddaMs _ => true | _ => false) = 32 ∧
    supplies (· = .pcie85) = 26 ∧ supplies (· = .pcie12) = 26 ∧ supplies (· = .swl85) = 14 ∧ supplies (· = .swl12) = 14 ∧
    supplies (fun v => match v with | .vddo _ => true | _ => false) = 32 ∧ balls.length = 109 ∧
    ballUse 38 13 = .signal (.out 9) false ∧ ballUse 37 13 = .signal (.out 9) true ∧ ballUse 36 12 = .supply (.vddo 1) ∧
    ballUse 25 38 = .signal (.refin 7) false ∧ ballUse 26 38 = .signal (.refin 7) true := by decide +kernel

/-- A flash of 32 Mbit has image slots of 1,792 KiB (R341), one of 512 Mbit slots of 6 MiB and 4-byte addresses. -/
theorem test_flash_layout :
    flashSlotSize ⟨32, true, true⟩ = 1792 * 1024 ∧ flashSlotSize ⟨512, true, true⟩ = 6 * 2 ^ 20 ∧ flashWide ⟨512, true, true⟩ = true ∧
    flashWide ⟨128, true, true⟩ = false ∧ flashClay 1039 + 264 ≤ 0x4C000 := by decide +kernel

/-- The base point of P-384 lies on its curve (R324). -/
theorem test_base_point : basePoint.any (fun p => onCurve p.1 p.2) = true := by decide +kernel

/-- The AON clock of the worked example's oscillator of 25 MHz has a period of 4 µs (R338). -/
theorem test_aon_period : (({ rig with regs := [] } : Dev).setWord R.REF_OSC_NOM 25000000#32).aonPeriod = 4 * usec := by decide +kernel

/-- One update of a coefficient of 2560 changes it by at most 2560 / 256 = 10 (R79). -/
theorem test_update_bounded :
    let d : Dev := ({ rig with regs := [] } : Dev).set (F.CALn_TDC_GAIN.TDC_GAIN 1) 2560
    let g (step : Int) : Nat := (d.calApply 1 1 [(0, step)]).get (F.CALn_TDC_GAIN.TDC_GAIN 1)
    g 100 = 2570 ∧ g (-3) = 2557 ∧ g (-11) = 2550 ∧ (d.calApply 1 1 []).get (F.CALn_TDC_GAIN.TDC_GAIN 1) = 2560 := by decide +kernel

/-- Rising and falling edges of PPS_IN alternate, and only the active one is timestamped (R111). -/
theorem test_pps_edges :
    let d : Dev := poke { rig with regs := [] } [(F.TIME_CTRL.PPS_IN_EN, 1), (F.TIME_CTRL.PPS_IN_EDGE, 1), (⟨R.TIME_PPS_IN_ERR, 0, 32⟩, 7)]
    d.boot.ppsIn = false ∧ (ppsIn d).boot.ppsIn = true ∧ (ppsIn d).word R.TIME_PPS_IN_ERR = 7#32 ∧
    (ppsIn (ppsIn d)).boot.ppsIn = false ∧ (ppsIn (ppsIn d)).word R.TIME_PPS_IN_ERR ≠ 7#32 := by decide +kernel

end Sys2Proof.Tests
end

/-! What every settled device keeps: each pending copy waits with its change (R12, R136). -/

namespace Sys2Proof.Machine

/-- What holds of every settled device is kept by a step: a row, or a cycle of the core clock on an empty queue. -/
theorem step_keeps {P : Dev → Prop} (hP : ∀ d : Dev, P d.settle) {s t : State} (h : P s.dev) (he : step s = .next t) : P t.dev := by
  unfold step at he
  split at he
  case h_1 =>
    cases he
    exact State.onDev_keeps hP h _
  case h_2 c rest _ => exact exec_keeps (s := { s with pending := rest }) hP h he

namespace Dev

/-- What touches no unit leaves pending copies and waiting changes alone. -/
theorem unitsKept.pendOk {d d1 : Dev} (h : d.unitsKept d1) (hd : d.pendOk) : d1.pendOk := by
  rw [h]
  exact hd

theorem unitsKept_sendVectors (d : Dev) (v : BitVec 4) : d.unitsKept (d.sendVectors v) :=
  unitsKept_foldl _ (fun d i => by
    split
    · exact unitsKept_sendVector d _
    · exact unitsKept.refl d) _ d

/-- Trimming drops every pending copy that no waiting change touches (R12). -/
theorem pendOk_pendTrim (d : Dev) : d.pendTrim.pendOk := fun _ hp =>
  List.any_eq_true.1 (List.mem_filter.1 hp).2

/-- The interrupts touch no pending copy and no waiting change (R267). -/
theorem pendOk_irqStage {d : Dev} (hd : d.pendOk) : d.irqStage.pendOk :=
  (unitsKept_sendVectors { d with glb := _ } _).pendOk hd

/-- Settling ends with the trim, and the interrupts after it leave what it reached. -/
theorem pendOk_settle (d : Dev) : d.settle.pendOk :=
  pendOk_irqStage (pendOk_pendTrim _)

end Dev

/-- Settles O9: every row ends by settling, which trims the pending copies to those that a waiting change touches. -/
theorem pendingCopiesStayBacked : Obligations.PendingCopiesStayBacked := by
  unfold Obligations.PendingCopiesStayBacked
  exact fun s t hs ht => step_keeps Dev.pendOk_settle hs ht

end Sys2Proof.Machine

/-! What a read may show: reserved, hidden, write-only and guarded words (R10, R26, R256, R260). -/

namespace Sys2Proof.Machine

/-! ### The map -/

/-- A register, or a family of them, lies in one run of offsets from its base. -/
theorem RegDesc.hits_bounds {r : RegDesc} {off : Nat} (hs : 0 < r.s1) (h : r.hits off = true) : r.base ≤ off ∧ off < r.base + r.n1 * r.s1 := by
  simp only [RegDesc.hits, Bool.and_eq_true, decide_eq_true_eq] at h
  obtain ⟨⟨⟨hbase, hindex⟩, -⟩, -⟩ := h
  have := (Nat.div_lt_iff_lt_mul hs).1 hindex
  omega

/-- The LO offsets of the LO/HI pairs stay clear of the key registers and of the word below them (R260, R261). -/
theorem loPairs_avoid_keys : ∀ r ∈ loPairs, 0 < r.s1 ∧ (r.base + r.n1 * r.s1 ≤ 0x707FC ∨ 0x70904 ≤ r.base) := by decide

/-- So no offset of a key pair is HI of a LO/HI pair. -/
theorem isHi_of_key {x off : Nat} (hx : isKey x = true) (hoff : off = x ∨ off = x + 4) : isHi off = false := by
  simp only [isKey, Bool.and_eq_true, decide_eq_true_eq] at hx
  have hlo : isLo (off - 4) = false := by
    refine List.any_eq_false.2 fun r hr hhit => ?_
    obtain ⟨hs, hgap⟩ := loPairs_avoid_keys r hr
    have := RegDesc.hits_bounds hs hhit
    omega
  rw [isHi, hlo, Bool.and_false]

/-- A guarded pair is its value offset X and X + 4 (R257). -/
theorem eq_or_eq_add_of_gpBase {off x : Nat} (h : gpBase off = some x) : off = x ∨ off = x + 4 := by
  unfold gpBase at h
  split at h
  · split at h
    · cases h; exact .inl rfl
    · cases h
  · split at h
    · cases h; omega
    · cases h

/-! ### What a requester sees -/

namespace Dev

/-- Only BOOT hides a location (R256, R26). -/
theorem hidden_of_mode_ne_boot {d : Dev} (h : d.glb.mode ≠ .boot) (off : Nat) : d.hidden off = false := by
  simp [hidden, h]

/-- BOOT before REGS_READY hides all but the GLB and CMD blocks (R256). -/
theorem hidden_in_boot {d : Dev} {off : Nat} (hm : d.glb.mode = .boot) (hr : d.glb.regsReady = false) (hglb : 0x1000 ≤ off)
    (hcmd : off < 0x4000 ∨ 0x5000 ≤ off) : d.hidden off = true := by
  simp only [hidden, hm, hr, decide_true, Bool.not_false, Bool.true_and, hglb, Bool.not_eq_true', Bool.and_eq_false_iff, decide_eq_false_iff_not]
  omega

/-- Outside the guarded pairs a requester sees the view of the register, where there is one and it is not hidden (R10, R256). -/
theorem busWord_of_gpBase_none {off : Nat} (h : gpBase off = none) (d : Dev) (q : Req) (live : Bool) :
    d.busWord q live off = if d.hidden off then 0 else ((findReg off).map fun r => d.viewWord r live off).getD 0 := by
  unfold busWord
  rw [h]

/-- A requester that is not privileged sees no key, at either offset of its pair (R260). -/
theorem busWord_of_key {off x : Nat} (h : gpBase off = some x) (hx : isKey x = true) {q : Req} (hq : q.priv = false) (d : Dev) (live : Bool) :
    d.busWord q live off = 0 := by
  unfold busWord
  rw [h]
  simp [hx, hq]

/-- The view of a register shows no WO and no reserved field (R10, R12). -/
theorem viewWord_masked (d : Dev) (r : RegDesc) (live : Bool) (off : Nat) :
    d.viewWord r live off &&& ~~~(r.mask fun a => decide (a ≠ .wo)) = 0 := by
  unfold viewWord
  rw [BitVec.and_assoc, BitVec.and_not_self]
  exact BitVec.and_zero

/-! ### What a read returns -/

/-- The device as a read finds it: for a counter of the Newt cores, with these counters up to date. -/
def asRead (d : Dev) (off : Nat) : Dev := if 0x7C100 ≤ off ∧ off < 0x7C200 then d.mgmtCount else d

theorem asRead_of_outside (d : Dev) {off : Nat} (h : off < 0x7C100 ∨ 0x7C200 ≤ off) : d.asRead off = d := if_neg (by omega)

/-- Bringing counters up to date hides and shows no location. -/
theorem hidden_asRead (d : Dev) (off off' : Nat) : (d.asRead off).hidden off' = d.hidden off' := by
  unfold asRead
  split
  · unfold hidden
    rw [mgmtCount_glb]
  · rfl

/-- What a read returns (R249, R256, R261): zero where the location is hidden, else the enabled bytes of the shadow, or of what its requester sees. -/
theorem readOne_word (d : Dev) {q : Req} (hq : q.code ≠ 6) (off : Nat) (be : BitVec 4) :
    (d.readOne q off be).2 =
      if d.hidden off then 0 else ((d.asRead off).shadowOf q off).getD ((d.asRead off).busWord q false off) &&& beMask be := by
  by_cases hbe : be = 0
  · have hmask : beMask be = 0#32 := by rw [hbe]; rfl
    rw [hmask, BitVec.and_zero, readOne, if_pos hbe]
    exact ite_self _ |>.symm
  · rw [← d.hidden_asRead off off, readOne, if_neg hbe, if_neg hq]
    exact apply_ite Prod.snd _ _ _

/-- A read of anything but HI of a pair returns the enabled bytes of what its requester sees (R249, R261). -/
theorem readOne_of_not_hi (d : Dev) {q : Req} (hq : q.code ≠ 6) {off : Nat} (be : BitVec 4) (h : isHi off = false) :
    (d.readOne q off be).2 = (d.asRead off).busWord q false off &&& beMask be := by
  have hshadow : (d.asRead off).shadowOf q off = none := by simp [shadowOf, h]
  rw [d.readOne_word hq, hshadow, Option.getD_none]
  split
  · next hhid =>
    rw [busWord, if_pos ((d.hidden_asRead off off).trans hhid)]
    exact BitVec.zero_and.symm
  · rfl

end Dev

/-- Settles O18: a read of anything but HI of a pair returns bytes of the requester's view, which is zero where the map, the mode, the access code or the
privilege shows nothing; and neither BOOT nor a key lets a read reach a shadow. -/
theorem hiddenReadsZero : Obligations.HiddenReadsZero := by
  unfold Obligations.HiddenReadsZero
  intro d q off be hq
  refine ⟨fun hreg hgp hhi => ?reserved, fun r hreg hgp hhi => ?writeOnly, fun hm hr hglb hcmd => ?boot, fun hm _ hoff r hreg hgp hhi => ?served,
    fun x hgp hx hpriv => ?key⟩
  case reserved =>
    rw [d.readOne_of_not_hi hq be hhi, Dev.busWord_of_gpBase_none hgp, hreg]
    simp
  case writeOnly =>
    rw [d.readOne_of_not_hi hq be hhi, Dev.busWord_of_gpBase_none hgp, hreg]
    split
    · simp
    · rw [Option.map_some, Option.getD_some, BitVec.and_assoc, BitVec.and_comm (beMask be), ← BitVec.and_assoc, Dev.viewWord_masked]
      exact BitVec.zero_and
  case boot => rw [d.readOne_word hq, if_pos (Dev.hidden_in_boot hm hr hglb hcmd)]
  case served =>
    rw [d.readOne_of_not_hi hq be hhi, d.asRead_of_outside hoff, Dev.busWord_of_gpBase_none hgp, Dev.hidden_of_mode_ne_boot hm, hreg]
    rfl
  case key =>
    rw [d.readOne_of_not_hi hq be (isHi_of_key hx (eq_or_eq_add_of_gpBase hgp)), Dev.busWord_of_key hgp hx hpriv]
    exact BitVec.zero_and

end Sys2Proof.Machine

/-! What the masters, the reference monitors and their DPLLs do: their commands (R28 to R33, R41 to R56) and their event rows (R34 to R54). -/

namespace Sys2Proof.Machine

/-! ### Rows of an object -/

/-- As `RowGoes.of_row`, for a row of an object that the device has. -/
theorem RowGoes.of_object_row {i : Instr} {cond : Dev → Prop} {eff : Dev → Dev} {p : Prop} [Decidable p] (f : Dev → Dev)
    (hexec : ∀ s : State, exec i s = .next (s.onDevFor (decide p) f)) (hp : p) (h : ∀ d, cond d → f d = eff d) : RowGoes i cond eff := by
  intro s hu hc
  rw [hexec, State.onDevFor_of_up hu f (decide_eq_true hp), h s.dev hc]

/-! ### The commands -/

/-- Settles O39: each row is the one command operation on its spec, which takes the entry, runs the effect the clause states, and completes or waits
(R236, R238, R241). -/
theorem masterCommandsRun : Obligations.MasterCommandsRun := by
  unfold Obligations.MasterCommandsRun
  intro src dma
  refine ⟨?msConfig, ?msStart, ?msStop, ?bandSurvey, ?msRampLoad, ?msRampStart, ?msRampAbort⟩
  all_goals exact .of_run (by decide) (fun _ => rfl) rfl

/-- Settles O40, as O39: the one command operation on the specs of the monitors and the DPLLs. -/
theorem referenceCommandsRun : Obligations.ReferenceCommandsRun := by
  unfold Obligations.ReferenceCommandsRun
  intro src ok
  refine ⟨?refMonCreate, ?refMonDestroy, ?dpllConfig, ?dpllSelect, ?dpllHoldover, ?holdModelGet, ?holdModelSet⟩
  all_goals exact .of_run (by decide) (fun _ => rfl) rfl

/-! ### Locks, surveys and ramps -/

/-- Where an MS still tries to lock 5 ms after a loss, what follows turns on whether band selection was rerun and on what it finds (R36). -/
theorem reacqTimeout_of_acquiring {n : Nat} {d : Dev} (hacq : d.bit (F.MSn_STATUS.ACQUIRING n) = true) (hstart : (!(d.msOf n).starting) = true)
    (hosc : d.bit F.REF_OSC_STATUS.OSC_ACTIVE = true) :
    reacqTimeout n d =
      let t := d.after (d.msOf n).acqAt (5 * msec)
      let stop := (t.set (F.MSn_STATUS.ACQUIRING n) 0).setMs n { d.msOf n with acqAt := none }
      if (d.msOf n).second then stop
      else ((t.selectBand n).map fun b => (t.set (F.MSn_STATUS.BAND n) b).setMs n { d.msOf n with acqAt := some t.now, second := true }).getD
        ((stop.set (F.MSn_STATUS.NO_BAND n) 1).raise (F.MSn_EVENT2.NO_BAND n)) := by
  unfold reacqTimeout
  rw [if_pos ⟨hacq, hstart, hosc⟩]
  dsimp only
  cases (d.after (d.msOf n).acqAt (5 * msec)).selectBand n <;> rfl

/-- Settles O51. A row of an MS has its effect where its guard holds (R34, R35, R38, R33); the end of a reacquisition turns on the second attempt and
the band selected (R36), the end of a segment on the ramp in progress and its next segment (R52, R54). -/
theorem masterRowsAct : Obligations.MasterRowsAct := by
  unfold Obligations.MasterRowsAct
  refine ⟨?gained, ?lost, ?startTimeout, ?rerun, ?noBand, ?secondFailure, ?settle, ?survey, ?segmentEnd, ?rampDone⟩
  case gained => exact fun n e hn => .of_object_row (lockGained n e) (fun _ => rfl) hn fun _ hc => if_pos hc
  case lost => exact fun n slip e hn => .of_object_row (lockLost n slip e) (fun _ => rfl) hn fun _ hc => if_pos hc
  case startTimeout => exact fun n hn => .of_object_row (msStartTimeout n) (fun _ => rfl) hn fun _ hc => if_pos hc
  case rerun =>
    refine fun n b hn => .of_object_row (reacqTimeout n) (fun _ => rfl) hn fun d ⟨hacq, hstart, hosc, hsecond, hband⟩ => ?_
    rw [reacqTimeout_of_acquiring hacq hstart hosc]
    simp only [Bool.not_eq_true'] at hsecond
    simp only [hsecond, hband, Bool.false_eq_true, if_false, Option.map_some, Option.getD_some]
  case noBand =>
    refine fun n hn => .of_object_row (reacqTimeout n) (fun _ => rfl) hn fun d ⟨hacq, hstart, hosc, hsecond, hband⟩ => ?_
    rw [reacqTimeout_of_acquiring hacq hstart hosc]
    simp only [Bool.not_eq_true'] at hsecond
    simp only [hsecond, hband, Bool.false_eq_true, if_false, Option.map_none, Option.getD_none]
  case secondFailure =>
    refine fun n hn => .of_object_row (reacqTimeout n) (fun _ => rfl) hn fun d ⟨hacq, hstart, hosc, hsecond⟩ => ?_
    rw [reacqTimeout_of_acquiring hacq hstart hosc]
    exact if_pos hsecond
  case settle => exact fun n hn => .of_object_row (msSettle n) (fun _ => rfl) hn fun _ hc => if_pos hc
  case survey => exact fun n bands hn => .of_object_row (surveyDone n bands) (fun _ => rfl) hn fun _ hc => if_pos hc
  case segmentEnd =>
    refine fun n z i hn => .of_object_row (rampSegmentEnd n) (fun _ => rfl) hn fun d ⟨hramp, hnext⟩ => ?_
    simp only [rampSegmentEnd, hramp, hnext]
  case rampDone =>
    refine fun n z hn => .of_object_row (rampDone n) (fun _ => rfl) hn fun d ⟨hramp, hnext⟩ => ?_
    simp only [rampDone, hramp, hnext, Option.isNone_none, if_true]

/-! ### Monitors and DPLLs -/

/-- Settles O53. A monitor that is not disabled takes its rows (R42); a DPLL narrows and locks on a comparison inside its window (R47), and its other rows
stand behind their guards (R48, R49), but for the selection, which always runs (R43). -/
theorem referenceRowsAct : Obligations.ReferenceRowsAct := by
  unfold Obligations.ReferenceRowsAct
  refine ⟨?activityFail, ?activityPresent, ?gate, ?selection, ?narrow, ?locked, ?steerLimit, ?modelValid, ?extTemp⟩
  case activityFail => exact fun r hr => .of_object_row (activityFail r) (fun _ => rfl) hr fun _ hc => if_neg hc
  case activityPresent => exact fun r hr => .of_object_row (activityPresent r) (fun _ => rfl) hr fun _ hc => if_pos hc
  case gate => exact fun r ppb hr => .of_object_row (frequencyGate r ppb) (fun _ => rfl) hr fun _ hc => if_neg hc
  case selection => exact fun n hn => .of_object_row (referenceSelection n) (fun _ => rfl) hn fun _ _ => rfl
  case narrow => exact fun n measured hn => .of_object_row (dpllNarrow n measured) (fun _ => rfl) hn fun _ hc => if_pos hc
  case locked => exact fun n measured hn => .of_object_row (dpllLocked n measured) (fun _ => rfl) hn fun _ hc => if_pos hc
  case steerLimit => exact fun n correction hn => .of_object_row (steerLimit n correction) (fun _ => rfl) hn fun _ hc => if_pos hc
  case modelValid => exact fun n hn => .of_object_row (modelValid n) (fun _ => rfl) hn fun _ hc => if_pos hc
  case extTemp => exact fun n hn => .of_object_row (extTempTimeout n) (fun _ => rfl) hn fun _ hc => if_pos hc

end Sys2Proof.Machine

/-! What the channel commands do (R58, R63, R65 to R70, R246), what each leaves alone, and the rows of the outputs (R63, R67, R68, R72, R75). -/

namespace Sys2Proof.Machine

/-! ### The commands -/

/-- Settles O38: each row is the one command operation on its spec, as for the masters, with the effect the clause states (R236, R238, R241). -/
theorem channelCommandsRun : Obligations.ChannelCommandsRun := by
  unfold Obligations.ChannelCommandsRun
  intro src ok
  refine ⟨?create, ?destroy, ?config, ?start, ?stop, ?phase, ?status, ?query⟩
  all_goals exact .of_run (by decide) (fun _ => rfl) rfl

/-! ### The outputs -/

/-- A switch that is held and has the edge it waits for, on an output that does not stop, ends on its new clock (R72, R73). -/
theorem bypassSwitchDone_of_held {o : Nat} {d : Dev} {g : OutSub} (hgoal : (d.outOf o).goal = some g) (hheld : (d.outOf o).held = true)
    (hwait : d.toWait o = d) (hst : (d.outOf o).st ≠ .stopping) :
    bypassSwitchDone o d =
      let x := d.outOf o
      let d1 := ((d.unparkLive o).setOut o { x with sub := g, goal := none, held := false, waitH := none, waitAt := none }).bypassFlag (d.srcMs o)
      if g = .bypass ∧ x.sub ≠ .bypass then d1.raise (F.OUTn_EVENT2.BYPASS_ENTER o)
      else if g ≠ .bypass ∧ x.sub = .bypass then d1.raise (F.OUTn_EVENT2.BYPASS_EXIT o)
      else d1 := by
  simp only [bypassSwitchDone, Dev.switchOver, hgoal, hheld, hwait, if_true, if_neg hst, reduceCtorEq, if_false]

/-- Settles O52. A row of an output has its effect where its guard holds; the end of a switch turns on its goal (R72), the time limit on what is
still to fall (R68, R72), the start on whether its first edge is placed (R63, R67). -/
theorem outputRowsAct : Obligations.OutputRowsAct := by
  unfold Obligations.OutputRowsAct
  refine ⟨?switch, ?switchEnds, ?limitHolds, ?limitStops, ?guard, ?start, ?firstEdge, ?startTimeout, ?stopped, ?slewDone⟩
  case switch =>
    refine fun o g ho => .of_object_row (bypassSwitchDone o) (fun _ => rfl) ho fun d hgoal => ?_
    exact if_neg fun h => Option.some_ne_none g (hgoal.symm.trans h)
  case switchEnds =>
    exact fun o g ho => .of_object_row (bypassSwitchDone o) (fun _ => rfl) ho fun d ⟨hgoal, hheld, hwait, hst⟩ =>
      bypassSwitchDone_of_held hgoal hheld hwait hst
  case limitHolds => exact fun o ho => .of_object_row (highTimeLimit o) (fun _ => rfl) ho fun _ hc => if_pos hc
  case limitStops =>
    refine fun o ho => .of_object_row (highTimeLimit o) (fun _ => rfl) ho fun d ⟨hst, hedge⟩ => ?_
    have hno : ¬ ((d.outOf o).goal.isSome ∧ !(d.outOf o).held) := by
      rintro ⟨hgoal, hheld⟩
      rcases hedge with h | h
      · simp [h] at hgoal
      · simp [h] at hheld
    exact (if_neg hno).trans (if_pos hst)
  case guard => exact fun o half ho => .of_object_row (outGuard o half) (fun _ => rfl) ho fun _ hc => if_pos hc
  case start =>
    refine fun o ho => .of_object_row (channelStart o) (fun _ => rfl) ho fun d ⟨hst, hsub, hfirst, harm, hready⟩ => ?_
    simp only [channelStart, hst, hsub, hfirst, harm, hready, and_self, if_true, Option.isSome_none, Bool.false_eq_true, if_false]
  case firstEdge =>
    refine fun o z ho => .of_object_row (channelStart o) (fun _ => rfl) ho fun d ⟨hst, hsub, hfirst⟩ => ?_
    simp only [channelStart, Dev.toFirst, hst, hsub, hfirst, and_self, if_true, Option.isSome_some]
  case startTimeout => exact fun o ho => .of_object_row (chStartTimeout o) (fun _ => rfl) ho fun _ hc => if_pos hc
  case stopped => exact fun o ho => .of_object_row (channelStopped o) (fun _ => rfl) ho fun _ hc => if_pos hc
  case slewDone => exact fun o ho => .of_object_row (phaseSlewDone o) (fun _ => rfl) ho fun _ hc => if_pos hc


/-! ### The register words that serving a command counts in -/

/-- The words that taking, completing and reporting a command can change: the command counters and those of lost completions, combined messages and lost events. -/
def commandWords : List Nat :=
  [R.MGMT_CMD_COUNT, R.MGMT_CMD_LAT_SUM, R.MGMT_CMD_LAT_MAX, R.CMD_LOST_COUNT, R.FLT_COMBINED_COUNT, R.EVT_LOST_COUNT, R.EVT_EVENT]

namespace Dev

theorem wordsKeptBut_of_regs {d d1 : Dev} (h : d1.regs = d.regs) (offs : List Nat) : d.wordsKeptBut d1 offs := fun off _ => by
  unfold word
  rw [h]

theorem wordsKeptBut.trans {d d1 d2 : Dev} {offs : List Nat} (h1 : d.wordsKeptBut d1 offs) (h2 : d1.wordsKeptBut d2 offs) : d.wordsKeptBut d2 offs :=
  fun off h => (h2 off h).trans (h1 off h)

theorem wordsKeptBut.setWord {d d1 : Dev} {offs : List Nat} (h : d.wordsKeptBut d1 offs) {off : Nat} (hoff : off ∈ offs) (w : Word) :
    d.wordsKeptBut (d1.setWord off w) offs :=
  fun off' h' => (d1.word_setWord_other w (ne_of_mem_of_not_mem hoff h')).trans (h off' h')

theorem wordsKeptBut.count {d d1 : Dev} {offs : List Nat} (h : d.wordsKeptBut d1 offs) {off : Nat} (hoff : off ∈ offs) (n : Nat) :
    d.wordsKeptBut (d1.count off n) offs := h.setWord hoff _

theorem wordsKeptBut_foldl {α : Type} {f : Dev → α → Dev} {offs : List Nat} (hf : ∀ (d : Dev) (a : α), d.wordsKeptBut (f d a) offs) (l : List α) (d : Dev) :
    d.wordsKeptBut (l.foldl f d) offs := by
  induction l generalizing d with
  | nil => exact wordsKeptBut_of_regs rfl _
  | cons a r ih => exact (hf d a).trans (ih _)

/-- A fault message that is combined is counted (R271). -/
theorem wordsKeptBut_pushFault (d : Dev) (m : FaultMsg) : d.wordsKeptBut (d.pushFault m) commandWords := by
  unfold pushFault
  dsimp only
  split
  · exact wordsKeptBut_of_regs rfl _
  · exact .count (wordsKeptBut_of_regs rfl _) (by decide) 1

/-- An event that is lost is counted and raises its bit (R296). -/
theorem wordsKeptBut_event (d : Dev) (code : Nat) (b : Option Nat) (p : List Byte) : d.wordsKeptBut (d.event code b p) commandWords := by
  unfold event
  split
  · exact wordsKeptBut_of_regs rfl _
  · exact .setWord (.count (wordsKeptBut_of_regs rfl _) (by decide) 1) (by decide) _

theorem regs_sendVector (d : Dev) (v : Nat) : (d.sendVector v).regs = d.regs := by
  unfold sendVector
  split <;> rfl

theorem regs_ringIrq (d : Dev) (r : Nat) (n : Bool) : (d.ringIrq r n).regs = d.regs := by
  unfold ringIrq ringIrqDue
  dsimp only
  split
  · exact regs_sendVector _ r
  · rfl

/-- A completion that its ring cannot take is counted as lost (R225, R228). -/
theorem wordsKeptBut_postRing (d : Dev) (r : Nat) (tag : Word) (n : Bool) (st : Status) (a b : Nat) :
    d.wordsKeptBut (d.postRing r tag n st a b) commandWords := by
  unfold postRing
  dsimp only
  split
  · exact .count (wordsKeptBut_of_regs rfl _) (by decide) 1
  · refine wordsKeptBut_of_regs ((regs_ringIrq _ r n).trans ?_) _
    split <;> rfl

theorem wordsKeptBut_post (d : Dev) (src : Source) (e : Entry) (tag : Word) (n : Bool) (st : Status) (a b : Nat) :
    d.wordsKeptBut (d.post src e tag n st a b) commandWords := by
  unfold post
  split
  · exact wordsKeptBut_of_regs rfl _
  · cases src with
    | ring r => exact wordsKeptBut_postRing d r tag n st a b
    | inband => exact wordsKeptBut_of_regs rfl _
    | list =>
      dsimp only
      split
      · exact wordsKeptBut_of_regs rfl _
      · exact wordsKeptBut_event d _ _ _

theorem wordsKeptBut_internalReport (d : Dev) (tag : Word) (op : Nat) (st : Status) (s : Bool) :
    d.wordsKeptBut (d.internalReport tag op st s) commandWords := by
  unfold internalReport
  split
  · dsimp only
    split
    · exact wordsKeptBut_event d _ _ _
    · exact (wordsKeptBut_event d _ _ _).trans (wordsKeptBut_pushFault _ _)
  · exact wordsKeptBut_of_regs rfl _

theorem wordsKeptBut_finishAs (d : Dev) (t : Ticket) (st : Status) (a b : Nat) (s : Bool) : d.wordsKeptBut (d.finishAs t st a b s) commandWords := by
  unfold finishAs
  dsimp only
  refine wordsKeptBut.trans ?_ (wordsKeptBut_internalReport _ _ _ _ _)
  refine wordsKeptBut.trans (d1 := { d with cmd := { d.cmd with inProgress := d.cmd.inProgress.filter fun x => x.cid != t.cid } })
    (wordsKeptBut_of_regs rfl _) ?_
  split
  · exact .count (wordsKeptBut_of_regs rfl _) (by decide) 1
  · exact wordsKeptBut_post _ _ _ _ _ _ _ _

theorem wordsKeptBut_endStale (d : Dev) (h : Nat) : d.wordsKeptBut (d.endStale h) commandWords :=
  wordsKeptBut_foldl (fun d t => wordsKeptBut_finishAs d t _ _ _ _) _ d

theorem regs_popCmd (d : Dev) (src : Source) : (d.popCmd src).regs = d.regs := by
  unfold popCmd
  cases src with
  | ring r => dsimp only; split <;> rfl
  | inband => rfl
  | list => rfl

/-- A command that is taken steps the command counters (R326). -/
theorem wordsKeptBut_countCommand (d : Dev) (e : Entry) : d.wordsKeptBut (d.countCommand e) commandWords := by
  unfold countCommand
  dsimp only
  split
  · exact .setWord (.setWord (.setWord (wordsKeptBut_of_regs rfl _) (by decide) _) (by decide) _) (by decide) _
  · exact .setWord (.setWord (wordsKeptBut_of_regs rfl _) (by decide) _) (by decide) _

theorem wordsKeptBut_taken (d : Dev) (src : Source) (e : Entry) : d.wordsKeptBut (d.taken src e) commandWords :=
  (wordsKeptBut_of_regs (d.regs_popCmd src) _).trans (wordsKeptBut_countCommand _ e)

theorem wordsKeptBut_answer (r : Dev × Res) (c : Cmd) (cid : Nat) : r.1.wordsKeptBut (answer r c cid) commandWords := by
  unfold answer
  cases r.2 with
  | done st a b s => exact (wordsKeptBut_post _ _ _ _ _ _ _ _).trans (wordsKeptBut_internalReport _ _ _ _ _)
  | wait w a b => exact wordsKeptBut_of_regs rfl _

/-! ### What stays outside one output -/

/-- All that O31 names is kept but for output `o`: the channel, the generation and the registers of every other output, and the units beside the outputs. -/
structure onlyOutput (o : Nat) (d d1 : Dev) : Prop where
  outOf : ∀ o', o' ≠ o → d1.outOf o' = d.outOf o'
  gen   : ∀ o', o' ≠ o → d1.gen 1 o' = d.gen 1 o'
  word  : ∀ o' rel, o' ≠ o → o' < 32 → rel < 0x400 → d1.word (0x20000 + 0x400 * o' + rel) = d.word (0x20000 + 0x400 * o' + rel)
  ms    : d1.ms = d.ms
  refs  : d1.refs = d.refs
  tick  : d1.tick = d.tick
  time  : d1.time = d.time
  sh    : d1.sh = d.sh
  fo    : d1.fo = d.fo

theorem onlyOutput.refl (o : Nat) (d : Dev) : onlyOutput o d d :=
  ⟨fun _ _ => rfl, fun _ _ => rfl, fun _ _ _ _ _ => rfl, rfl, rfl, rfl, rfl, rfl, rfl⟩

section
variable {o : Nat} {d d1 : Dev} (h : onlyOutput o d d1)
include h

theorem onlyOutput.trans {d2 : Dev} (h2 : onlyOutput o d1 d2) : onlyOutput o d d2 where
  outOf o' ho := (h2.outOf o' ho).trans (h.outOf o' ho)
  gen o' ho := (h2.gen o' ho).trans (h.gen o' ho)
  word o' rel ho hlt hrel := (h2.word o' rel ho hlt hrel).trans (h.word o' rel ho hlt hrel)
  ms := h2.ms.trans h.ms
  refs := h2.refs.trans h.refs
  tick := h2.tick.trans h.tick
  time := h2.time.trans h.time
  sh := h2.sh.trans h.sh
  fo := h2.fo.trans h.fo

/-- A register of the output's own block is written, at offset `base` in the block of output 0. -/
theorem onlyOutput.setWord {off base : Nat} (hoff : off = base + o * 0x400) (hbase : 0x20000 ≤ base ∧ base < 0x20400) (w : Word) :
    onlyOutput o d (d1.setWord off w) :=
  { h with word := fun o' rel ho hlt hrel => (d1.word_setWord_other w (by omega)).trans (h.word o' rel ho hlt hrel) }

theorem onlyOutput.set {f : Fld} {base : Nat} (hoff : f.off = base + o * 0x400) (hbase : 0x20000 ≤ base ∧ base < 0x20400) (v : Nat) :
    onlyOutput o d (d1.set f v) := h.setWord hoff hbase _

theorem onlyOutput.set64 {lo base : Nat} (hoff : lo = base + o * 0x400) (hbase : 0x20000 ≤ base ∧ base + 4 < 0x20400) (v : Nat) :
    onlyOutput o d (d1.set64 lo v) :=
  (h.setWord hoff (by omega) _).setWord (base := base + 4) (by omega) (by omega) _

/-- A counter outside the blocks of the outputs steps. -/
theorem onlyOutput.count {off : Nat} (hoff : off < 0x20000 ∨ 0x28000 ≤ off) (n : Nat) : onlyOutput o d (d1.count off n) :=
  { h with word := fun o' rel ho hlt hrel => (d1.word_count_other n (by omega)).trans (h.word o' rel ho hlt hrel) }

theorem onlyOutput.setOut (x : OutCh) : onlyOutput o d (d1.setOut o x) :=
  { h with outOf := fun o' ho => (Tbl.getD_put_other _ _ _ ho.symm).trans (h.outOf o' ho) }

theorem onlyOutput.setCh (x : OutCh) : onlyOutput o d (d1.setCh o x) := (h.setOut x).set rfl (by decide) _

theorem onlyOutput.dropStops : onlyOutput o d (d1.dropStops o) := { h with }

theorem onlyOutput.bumpGen : onlyOutput o d (d1.bumpGen 1 o) :=
  { h with gen := fun o' ho => (d1.gen_bumpGen_other (by omega)).trans (h.gen o' ho) }

/-- Pending copies are no live words (R12). -/
theorem onlyOutput.pendChange (c : Change) : onlyOutput o d (d1.pendChange c) := by
  cases c <;> exact { h with }

theorem onlyOutput.pendChanges (cs : List Change) : onlyOutput o d (cs.foldl Dev.pendChange d1) := by
  induction cs generalizing d1 with
  | nil => exact h
  | cons c cs ih => exact ih (h.pendChange c)

/-- Changes that wait for a boundary change nothing yet but the count of the deferred ones (R135). -/
theorem onlyOutput.arrive (cs : List Buffered) : onlyOutput o d (d1.arrive cs) := by
  unfold Dev.arrive
  split
  · refine .count ?_ (by decide) 1
    exact { h with }
  · exact { h with }

/-- The settings of CH_CONFIG are registers of the output's own block, at once or from a boundary on (R70). -/
theorem onlyOutput.chSettings (c : Cmd) : onlyOutput o d (d1.chSettings o c) := by
  unfold Dev.chSettings
  dsimp only
  refine .arrive (.pendChanges ?_ _) _
  refine .set64 (.set64 ?_ rfl (by decide) _) rfl (by decide) _
  repeat refine .set ?_ rfl (by decide) _
  exact h

end

/-- The counters of the command interface lie outside the blocks of the outputs. -/
theorem commandWords_outside : ∀ off ∈ commandWords, off < 0x20000 ∨ 0x28000 ≤ off := by decide

/-- What serves a command, whatever its effect, leaves every output alone. -/
theorem onlyOutput_of_kept {d d1 : Dev} (hu : d.unitsKept d1) (hw : d.wordsKeptBut d1 commandWords) (o : Nat) : onlyOutput o d d1 where
  outOf o' _ := hu.outOf o'
  gen o' _ := hu.gen 1 o'
  word o' rel _ hlt hrel := hw _ fun hmem => by
    have := commandWords_outside _ hmem
    omega
  ms := hu.ms
  refs := by rw [hu]
  tick := hu.tick
  time := hu.time
  sh := by rw [hu]
  fo := by rw [hu]

/-- A command whose effect keeps to one output keeps to it as a whole. -/
theorem onlyOutput_answer {o : Nat} {d : Dev} (src : Source) (e : Entry) {r : Dev × Res} (h : onlyOutput o (d.taken src e) r.1) (c : Cmd) (cid : Nat) :
    onlyOutput o d (answer r c cid) :=
  ((onlyOutput_of_kept (d.unitsKept_taken src e) (d.wordsKeptBut_taken src e) o).trans h).trans
    (onlyOutput_of_kept (unitsKept_answer r c cid) (wordsKeptBut_answer r c cid) o)

/-- Which channels are FREE is not changed by what touches no unit. -/
theorem unitsKept.chFree {d d1 : Dev} (h : d.unitsKept d1) : d1.chFree = d.chFree := by
  funext o
  unfold Dev.chFree
  rw [h.outOf]

theorem onlyOutput_endStale (d : Dev) (handle o : Nat) : onlyOutput o d (d.endStale handle) :=
  onlyOutput_of_kept (d.unitsKept_endStale handle) (d.wordsKeptBut_endStale handle) o

end Dev

/-- Settles O31: the effect of each of the three commands is made of writes of one output's channel, generation and registers, and what serves a command
writes its own counters alone. -/
theorem channelCommandsKeepOtherOutputs : Obligations.ChannelCommandsKeepOtherOutputs := by
  unfold Obligations.ChannelCommandsKeepOtherOutputs
  intro s src e hu others
  have named : ∀ {o : Nat} {d1 : Dev}, Dev.onlyOutput o s.dev d1 → others o d1 := fun h =>
    ⟨fun o' ho hlt => ⟨h.outOf o' ho, h.gen o' ho, fun rel hrel => h.word o' rel ho hlt hrel⟩, h.ms, h.refs, h.tick, h.time, h.sh, h.fo⟩
  obtain ⟨create, destroy, config, -⟩ := channelCommandsRun src true
  refine ⟨fun ha => ⟨_, create s e hu ha, named (Dev.onlyOutput_answer src e ?created _ _)⟩,
    fun ha => ⟨_, destroy s e hu ha, named (Dev.onlyOutput_answer src e ?destroyed _ _)⟩,
    fun ha => ⟨_, config s e hu ha, named (Dev.onlyOutput_answer src e ?configured _ _)⟩⟩
  case created =>
    dsimp only
    rw [(s.dev.unitsKept_taken src e).chFree]
    exact (Dev.onlyOutput.refl _ _).setCh _
  case destroyed => exact (((Dev.onlyOutput.refl _ _).setCh _).dropStops.bumpGen).trans (Dev.onlyOutput_endStale _ _ _)
  case configured => exact ((Dev.onlyOutput.refl _ _).chSettings _).setCh _

/-! ### Handles of channels -/

namespace Dev

/-- Taking an entry off its source and counting it touches no unit. -/
theorem unitsKept_counted (d : Dev) (src : Source) (e : Entry) : d.unitsKept ((d.popCmd src).countCommand e) :=
  (d.unitsKept_popCmd src).trans (unitsKept_countCommand _ e)

/-- A command that a check stops completes with its status, and has no effect (R236, R241). -/
theorem command_of_reject {d : Dev} {spec : CmdSpec} {src : Source} {dma : Option (List Byte)} {e : Entry} {st : Status} (hturn : d.turn = some src)
    (hfront : d.frontOf src = some e) (hop : e.opcode = spec.opcode) (hknown : opcodes.contains e.opcode = true)
    (hlist : src = .list → listAccepts e.opcode = true)
    (htime : (Cmd.parse src e spec.params dma).timeout = 0 ∨ d.now ≤ e.seen + (Cmd.parse src e spec.params dma).timeout * msec)
    (hrej : ((d.popCmd src).countCommand e).reject spec (Cmd.parse src e spec.params dma) = some st) :
    d.command spec src dma =
      ((d.popCmd src).countCommand e).post src e (Cmd.parse src e spec.params dma).tag e.notify st 0 0 := by
  have hskip : (decide (src = .list) && !listAccepts e.opcode) = false := by
    by_cases h : src = .list
    · simp [hlist h]
    · simp [h]
  have hlate : ¬ ((Cmd.parse src e spec.params dma).timeout ≠ 0 ∧ e.seen + (Cmd.parse src e spec.params dma).timeout * msec < d.now) := by omega
  unfold command
  rw [if_neg (not_not_intro hturn)]
  simp only [hfront, hskip, hknown, Bool.not_true, Bool.false_eq_true, if_false]
  rw [if_neg fun h => h.2.2 hop, if_neg hlate, execute, hrej]
  rfl

/-- A source has its turn in a mode that serves the rings, but for the start-up list in BOOT, which acts as in CONFIGURE (R230, R237, R345). -/
theorem served_of_turn {d : Dev} {c : Cmd} (h : d.turn = some c.src) : (c.mode d).served = true := by
  unfold Cmd.mode
  split
  · rfl
  · next hlist =>
    unfold turn at h
    split at h
    · cases h
    · split at h
      · split at h
        · exact absurd (Option.some.inj h).symm hlist
        · cases h
      · split at h
        · cases h
        · next hmode => simpa using hmode

theorem unitsKept.mode {d d1 : Dev} (h : d.unitsKept d1) (c : Cmd) : c.mode d1 = c.mode d := by
  unfold Cmd.mode
  rw [h.glb]

/-- CH_CREATE of an output that has a channel finds no resource (R65, R241). -/
theorem reject_chCreate_of_used {d : Dev} {c : Cmd} {o : Nat} (hparams : c.params = [o]) (hres : c.reservedOk chCreateSpec = true)
    (hmode : (c.mode d).served = true) (ho : o < 32) (hused : d.chFree o = false) : d.reject chCreateSpec c = some .noResource := by
  have hp : c.p 0 = o := by rw [Cmd.p, hparams]; rfl
  have hvals : c.valuesBad chCreateSpec = false := by
    have hfits : o < 256 := by omega
    simp [Cmd.valuesBad, chCreateSpec, hparams, PField.fits, pu, hfits]
  have hchecks : chCreateSpec.checks c d = [(.range, false), (.noResource, true)] := by
    have hin : ¬ (32 ≤ o ∧ o ≠ 0xFF) := by omega
    have hnamed : o ≠ 0xFF := by omega
    simp only [chCreateSpec, hp, decide_eq_false hin, if_neg hnamed, hused, Bool.not_false]
  have hmodes : chCreateSpec.modes (c.mode d) = true := hmode
  unfold reject
  simp only [hres, hchecks, hvals, hmodes, Bool.not_true, Bool.false_eq_true, if_false]
  rfl

/-- The next generation is another one (R242). -/
theorem gen_next_ne (d : Dev) (ty idx : Nat) : (d.gen ty idx + 1) % 256 ≠ d.gen ty idx := by
  unfold gen
  omega

/-- A handle that was good is stale once its object has the next generation (R242, R243). -/
theorem checkHandle_stale_of_gen_next {d d1 : Dev} {h ty : Nat} {isFree : Dev → Nat → Bool} {wrong : Status} (hc : d.checkHandle h ty isFree wrong = none)
    (hgen : d1.gen ty (hIdx h) = (d.gen ty (hIdx h) + 1) % 256) (isFree' : Dev → Nat → Bool) (wrong' : Status) :
    d1.checkHandle h ty isFree' wrong' = some .staleHandle := by
  obtain ⟨hzero, htype, hidx, hold, -⟩ := checkHandle_none hc
  exact checkHandle_stale isFree' wrong' hzero htype hidx fun hnew => d.gen_next_ne ty (hIdx h) (hgen.symm.trans (hnew.symm.trans hold))

/-- CH_DESTROY leaves its output a reset channel, whatever waits on the old handle (R69). -/
theorem outOf_chDestroy (c : Cmd) (cid : Nat) (d : Dev) : (chDestroySpec.run c cid d).1.outOf c.idx = OutCh.reset :=
  ((unitsKept_endStale _ c.handle).outOf c.idx).trans (Tbl.getD_put_same d.outs c.idx OutCh.reset _)

/-- And the next generation (R69, R242). -/
theorem gen_chDestroy (c : Cmd) (cid : Nat) (d : Dev) : (chDestroySpec.run c cid d).1.gen 1 c.idx = (d.gen 1 c.idx + 1) % 256 :=
  ((unitsKept_endStale _ c.handle).gen 1 c.idx).trans (gen_bumpGen _ 1 c.idx)

end Dev

/-- Settles O15: a destroyed channel has the next generation, which the old handle does not name (R69, R242, R243); a CH_CREATE of an output that is not FREE is
stopped by its check (R65). -/
theorem channelHandlesGoStale : Obligations.ChannelHandlesGoStale := by
  unfold Obligations.ChannelHandlesGoStale
  intro s src e hu destroy create o
  have hcounted := s.dev.unitsKept_counted src e
  refine ⟨fun ha => ?destroyed, fun hturn hfront hop htime hres ho hused => ?refused⟩
  case destroyed =>
    obtain ⟨-, hruns, -⟩ := channelCommandsRun src true
    have hdone := Dev.unitsKept_answer (chDestroySpec.run destroy (s.dev.cidOf src e) (s.dev.taken src e)) destroy (s.dev.cidOf src e)
    have hout := (hdone.outOf o).trans (Dev.outOf_chDestroy destroy _ _)
    have hgen := (hdone.gen 1 o).trans (Dev.gen_chDestroy destroy _ _)
    have hgood := Dev.handle_of_reject_none ha.checked (by decide)
    refine ⟨_, hruns s e hu ha, congrArg OutCh.st hout, congrArg OutCh.sub hout, ?_, Dev.checkHandle_stale_of_gen_next hgood hgen⟩
    rw [← hcounted.gen 1 o]
    exact hgen
  case refused =>
    have hserved : (create.mode ((s.dev.popCmd src).countCommand e)).served = true := by
      rw [hcounted.mode create]
      exact Dev.served_of_turn hturn
    have hrej := Dev.reject_chCreate_of_used rfl hres hserved ho ((congrFun hcounted.chFree _).trans hused)
    have hknown : opcodes.contains e.opcode = true := by rw [hop]; decide
    have hlisted : src = .list → listAccepts e.opcode = true := fun _ => by rw [hop]; decide
    exact (State.onDev_of_up hu _).trans (congrArg s.goesTo (Dev.command_of_reject hturn hfront hop hknown hlisted htime hrej))

end Sys2Proof.Machine

/-! What calibration, the recorders and the store do: their commands (R85 to R98, R300 to R318) and the rows of runs and saves (R79 to R94). -/

namespace Sys2Proof.Machine

/-! ### The commands -/

/-- Settles O45: each row is the one command operation on its spec, as for the channels, with the effect the clause states (R236, R238, R241). -/
theorem recorderCommandsRun : Obligations.RecorderCommandsRun := by
  unfold Obligations.RecorderCommandsRun
  intro src ok
  refine ⟨?calRun, ?calAbort, ?calStatus, ?calSave, ?calRestore, ?calSlotInfo, ?evtRead, ?storeInfo, ?storeFormat, ?streamCreate, ?streamDestroy,
    ?streamConfig, ?streamStart, ?streamStop, ?streamTrigger, ?storeRead⟩
  all_goals exact .of_run (by decide) (fun _ => rfl) rfl

/-! ### Updates of a run -/

section

variable {n : Nat} {d : Dev} (sums : List (Nat × Int)) (hfirmware : d.firmwareRuns = true) (hrun : d.calRunning n = true) (hlive : d.tickLive = true)

include hfirmware hrun hlive

/-- Outside the window what CAL_UPDATE does turns on the count of samples and on an update that already waits (R79, R80). -/
theorem calUpdate_outside_window (hclosed : d.tick.phase ≠ 3) :
    calUpdate n sums d =
      let c := d.calOf n
      let all := addSums c.sums sums
      if c.samples < 1024 ∨ (if d.tick.phase = 4 then c.late.isSome else c.staged.isSome) then d.setCal n { c with sums := all }
      else if d.tick.phase = 4 then
        (d.setCal n { c with late := some (lmsSteps all c.samples), samples := 0, sums := [] }).count R.TICK_APPLY_DEFER_COUNT 1
      else d.setCal n { c with staged := some (lmsSteps all c.samples), samples := 0, sums := [], skip := true } :=
  if_pos ⟨hfirmware, hrun, hlive, hclosed⟩

/-- Short of 1,024 samples the products are summed and nothing else happens (R79). -/
theorem calUpdate_of_few (hclosed : d.tick.phase ≠ 3) (hfew : (d.calOf n).samples < 1024) :
    calUpdate n sums d = d.setCal n { d.calOf n with sums := addSums (d.calOf n).sums sums } :=
  (calUpdate_outside_window sums hfirmware hrun hlive hclosed).trans (if_pos (.inl hfew))

/-- Before the window an update waits for the coming boundary, and the window of this tick is discarded (R79, R80). -/
theorem calUpdate_before_window (hphase : d.tick.phase < 3) (hmany : 1024 ≤ (d.calOf n).samples) (hnone : (d.calOf n).staged = none) :
    calUpdate n sums d = d.setCal n { d.calOf n with
      staged := some (lmsSteps (addSums (d.calOf n).sums sums) (d.calOf n).samples), samples := 0, sums := [], skip := true } := by
  have hgap : d.tick.phase ≠ 4 := by omega
  rw [calUpdate_outside_window sums hfirmware hrun hlive (Nat.ne_of_lt hphase)]
  simp only [if_neg hgap, hnone, Option.isSome_none, Bool.false_eq_true, or_false, if_neg (Nat.not_lt.2 hmany)]

/-- Inside the apply window it is deferred, and counted (R79, R136). -/
theorem calUpdate_in_apply_window (hphase : d.tick.phase = 4) (hmany : 1024 ≤ (d.calOf n).samples) (hnone : (d.calOf n).late = none) :
    calUpdate n sums d = (d.setCal n { d.calOf n with
      late := some (lmsSteps (addSums (d.calOf n).sums sums) (d.calOf n).samples), samples := 0, sums := [] }).count R.TICK_APPLY_DEFER_COUNT 1 := by
  rw [calUpdate_outside_window sums hfirmware hrun hlive (by omega)]
  simp only [if_pos hphase, hnone, Option.isSome_none, Bool.false_eq_true, or_false, if_neg (Nat.not_lt.2 hmany)]

end

/-! ### The rows -/

/-- Settles O54. An update turns on the samples counted and on the phase of the tick (R79, R80); the other rows of a run stand behind their guards
(R84, R87, R90); the end of a save turns on the read-back, which only a save with its snapshot has (R94). -/
theorem calibrationRowsAct : Obligations.CalibrationRowsAct := by
  unfold Obligations.CalibrationRowsAct
  refine ⟨?staged, ?deferred, ?summed, ?temp, ?precond, ?runTimeout, ?saved, ?readBackFails, ?flashTimeout⟩
  case staged =>
    exact fun n sums hn => .of_object_row (calUpdate n sums) (fun _ => rfl) hn fun _ ⟨hfirmware, hrun, hlive, hphase, hmany, hnone⟩ =>
      calUpdate_before_window sums hfirmware hrun hlive hphase hmany hnone
  case deferred =>
    exact fun n sums hn => .of_object_row (calUpdate n sums) (fun _ => rfl) hn fun _ ⟨hfirmware, hrun, hlive, hphase, hmany, hnone⟩ =>
      calUpdate_in_apply_window sums hfirmware hrun hlive hphase hmany hnone
  case summed =>
    exact fun n sums hn => .of_object_row (calUpdate n sums) (fun _ => rfl) hn fun _ ⟨hfirmware, hrun, hlive, hclosed, hfew⟩ =>
      calUpdate_of_few sums hfirmware hrun hlive hclosed hfew
  case temp => exact fun n hn => .of_object_row (tempTrigger n) (fun _ => rfl) hn fun _ hc => if_pos hc
  case precond =>
    refine fun n p hn => .of_object_row (precondCheck n) (fun _ => rfl) hn fun d ⟨hpending, hready⟩ => ?_
    simp only [precondCheck, hpending]
    exact if_pos hready
  case runTimeout => exact fun n hn => .of_object_row (calRunTimeout n) (fun _ => rfl) hn fun _ hc => if_pos hc
  case saved =>
    refine fun readBackOk s x => .of_row (fun _ => rfl) fun d ⟨hsave, hsnap, hok⟩ => ?_
    simp only [calSaveComplete, hsave, hsnap, hok, if_true]
  case readBackFails =>
    refine fun readBackOk s => .of_row (fun _ => rfl) fun d ⟨hsave, hsome, hbad⟩ => ?_
    obtain ⟨x, hsnap⟩ := Option.isSome_iff_exists.1 hsome
    simp only [Bool.not_eq_true'] at hbad
    simp only [calSaveComplete, hsave, hsnap, hbad, Bool.false_eq_true, if_false]
  case flashTimeout =>
    refine fun s => .of_row (fun _ => rfl) fun d ⟨hsave, hsnap⟩ => ?_
    simp only [flashTimeout, hsave]
    exact if_pos hsnap

end Sys2Proof.Machine

/-! What the time engine's commands do (R102, R106, R107, R113, R115, R117), and what a step does while no command waits (log 1). -/

namespace Sys2Proof.Machine

/-! ### The commands -/

/-- A state whose device is up meets the one command operation with an accepted entry: the spec's effect happens and is answered, whatever the spec was
made from (R236, R238, R241). `RowRuns.of_run` says so for a spec that is the same in every state. -/
theorem State.goesTo_of_accepts {s : State} {spec : CmdSpec} {src : Source} {dma : Option (List Byte)} {e : Entry} (hu : s.up)
    (ha : s.dev.accepts spec src dma e) (hop : opcodes.contains spec.opcode = true) :
    Host.Outcome.next (φ := Fault) (ρ := Refusal) (s.onDev fun d => d.command spec src dma) =
      s.goesTo (Dev.answer (spec.run (Cmd.parse src e spec.params dma) (s.dev.cidOf src e) (s.dev.taken src e))
        (Cmd.parse src e spec.params dma) (s.dev.cidOf src e)) :=
  (State.onDev_of_up hu _).trans (congrArg s.goesTo (Dev.command_of_accepts ha hop))

/-- TIME_EPOCH_SET is in the table of opcodes, whatever index was opened last. -/
theorem opcodes_contains_timeEpochSet (last : Option Nat) : opcodes.contains (timeEpochSetSpec last).opcode = true := by
  have hknown : opcodes.contains 0x0303 = true := by decide
  exact hknown

/-- The effect of TIME_EPOCH_SET does not turn on the last index opened, which only its check reads (R115, R125). -/
theorem timeEpochSetSpec_run (last : Option Nat) : (timeEpochSetSpec last).run = Dev.epochSetEffect := rfl

/-- Settles O41: each row is the one command operation on its spec, with the effect the clause states (R236, R238, R241); the spec of TIME_EPOCH_SET
is made from the last index opened in the state at hand. -/
theorem timeCommandsRun : Obligations.TimeCommandsRun := by
  unfold Obligations.TimeCommandsRun
  intro src ok
  refine ⟨?timeSet, ?timeAdjust, ?timeGet, ?timeEpochSet, ?ptpConfig, ?ptpPortConfig, ?ptpStatus, ?ppsConfig⟩
  case timeEpochSet =>
    intro s e hu ha
    rw [← timeEpochSetSpec_run s.lastOpened]
    exact State.goesTo_of_accepts hu ha (opcodes_contains_timeEpochSet s.lastOpened)
  all_goals exact .of_run (by decide) (fun _ => rfl) rfl

/-! ### No command waits -/

/-- A step on an empty queue is a cycle of the core clock (log 1). -/
theorem step_of_pending_nil {s : State} (h : s.pending = []) : step s = .next s.idle := by
  rw [step, h]

/-- A state that is not up is one on which a row does not act (R334, R365). -/
theorem State.onDev_of_not_up {s : State} (h : ¬ s.up) (f : Dev → Dev) : s.onDev f = s :=
  State.onDev_down (by simpa [State.up] using h) f

/-- Settles O2: a step on an empty queue lets a period of the core clock pass, which acts on the device as a row does: not at all where it is not up. -/
theorem emptyQueueClock : Obligations.EmptyQueueClock := by
  unfold Obligations.EmptyQueueClock
  intro s hempty
  refine ⟨fun hup => ?up, fun hdown => ?down⟩
  case up => exact (step_of_pending_nil hempty).trans (State.onDev_of_up hup _)
  case down => exact (step_of_pending_nil hempty).trans (congrArg _ (State.onDev_of_not_up hdown _))

end Sys2Proof.Machine

/-! What a tick does: no step opens an index again (R110, R125), no row arms an operation without a tick (R369), and the tick, line and snapshot commands
(R127, R130, R142, R158, R247), the points of a tick and the field outputs (R131, R144, R348, R349). -/

namespace Sys2Proof.Machine

/-! ### The index of the last tick opened -/

/-- A boundary opens an index above the last one opened (R110, R125). -/
theorem Dev.lt_of_opensK {d : Dev} {last : Option Nat} {k j : Nat} (hopens : d.opensK last = some k) (hlast : last = some j) : j < k := by
  unfold Dev.opensK at hopens
  split at hopens
  · cases hopens
  · obtain ⟨-, habove⟩ := Option.filter_eq_some_iff.1 hopens
    simpa [hlast] using habove

/-- A tick boundary notes the index that it opens, and leaves the last one where it opens none. -/
theorem State.onBoundary_lastOpened (s : State) :
    s.onBoundary.lastOpened = s.lastOpened ∨ ∃ k, s.dev.opensK s.lastOpened = some k ∧ s.onBoundary.lastOpened = some k := by
  unfold State.onBoundary
  split
  · cases hopens : s.dev.opensK s.lastOpened with
    | none => exact .inl rfl
    | some k => exact .inr ⟨k, rfl, rfl⟩
  · exact .inl rfl

/-- A restart that is taken numbers the ticks anew (R110). -/
theorem State.onReset_lastOpened (s : State) (taken : Bool) (f : Dev → Dev) :
    (s.onReset taken f).lastOpened = if taken then none else s.lastOpened := rfl

/-- The rows that can restart the whole device: its supplies and RST_N. -/
def Instr.restarts (c : Instr) : Prop := c = .supplyFall ∨ (∃ a b, c = .powerGood a b) ∨ ∃ a, c = .rstNAssert a

/-- What a row can do to the index of the last tick opened: leave it, open one by the rule of the boundary, or restart the device. -/
theorem exec_lastOpened {c : Instr} {s t : State} (he : exec c s = .next t) :
    t.lastOpened = s.lastOpened ∨ (∃ k, s.dev.opensK s.lastOpened = some k ∧ t.lastOpened = some k) ∨ (t.lastOpened = none ∧ Instr.restarts c) := by
  rcases exec_shape c with hacts | ⟨-, hboundary⟩ | ⟨-, f, hall⟩ | ⟨hrow, taken, f, hreset⟩
  · exact .inl (hacts.frame he).2
  · rw [hboundary] at he
    cases he
    exact s.onBoundary_lastOpened.imp_right .inl
  · rw [hall] at he
    cases he
    exact .inl (s.onAll_lastOpened f)
  · rw [hreset] at he
    cases he
    rw [State.onReset_lastOpened]
    cases taken s with
    | false => exact .inl rfl
    | true => exact .inr (.inr ⟨rfl, or_left_comm.1 hrow⟩)

/-- Settles O7: a cycle of the core clock leaves the index, and of the rows only a boundary that opens a higher one and a restart change it. -/
theorem ticksNeverRepeat : Obligations.TicksNeverRepeat := by
  unfold Obligations.TicksNeverRepeat
  intro s t hstep
  cases hqueue : s.pending with
  | nil =>
    rw [step_of_pending_nil hqueue] at hstep
    cases hstep
    exact .inl (s.onDev_lastOpened _)
  | cons c rest =>
    rw [step, hqueue] at hstep
    rcases exec_lastOpened hstep with hkept | ⟨k, hopens, hk⟩ | ⟨hnone, hrestarts⟩
    · exact .inl hkept
    · exact .inr (.inl ⟨k, hk, fun _ hlast => Dev.lt_of_opensK hopens hlast⟩)
    · exact .inr (.inr ⟨hnone, c, rest, rfl, hrestarts⟩)

/-! ### Arming without a tick -/

/-- Of the checks that a command fails STATE is answered first (R241). -/
theorem firstOf_state {cs : List (Status × Bool)} (h : (.state, true) ∈ cs) (order : List Status) : firstOf (.state :: order) cs = some .state :=
  List.find?_cons_of_pos (List.any_eq_true.2 ⟨_, h, rfl⟩)

/-- A command whose entry, handles and mode are in order and that fails a check of state ends with STATE (R241). -/
theorem Dev.reject_of_state {d : Dev} {spec : CmdSpec} {c : Cmd} (hres : c.reservedOk spec = true)
    (hhandle : spec.ty = 0 ∨ d.checkHandle c.handle spec.ty spec.isFree .badHandle = none) (hhandles : d.checkHandles c spec.handles = none)
    (hmode : spec.modes (c.mode d) = true) (hstate : (.state, true) ∈ spec.checks c d) : d.reject spec c = some .state := by
  have hobject : (if spec.ty = 0 then none else d.checkHandle c.handle spec.ty spec.isFree .badHandle) = none := ite_eq_left_iff.2 hhandle.resolve_left
  unfold Dev.reject
  simp only [hres, hobject, hhandles, hmode, Bool.not_true, Bool.false_eq_true, if_false]
  exact firstOf_state (List.mem_append_left _ hstate) _

/-- A check of state that comes first in its row and whose condition holds. -/
theorem state_mem_of_head {b : Bool} (hb : b = true) (cs : List (Status × Bool)) : (Status.state, true) ∈ (Status.state, b) :: cs :=
  hb ▸ List.mem_cons_self

/-- The rows that arm an operation whatever boundary they name check that the tick runs (R369). -/
theorem state_check_of_no_tick {d : Dev} (hstill : d.tick.running = false) (c : Cmd) :
    ∀ spec ∈ [msRampStartSpec, shaftStartSpec, shaftStopSpec, shaftRetuneSpec, lineStartAllSpec, lineStopAllSpec, folStartSpec, folStopSpec,
      streamStartSpec, streamStopSpec, snapCaptureSpec], (.state, true) ∈ spec.checks c d := by
  have hnoStart : d.noStart = true := by simp [Dev.noStart, hstill]
  simp only [List.forall_mem_cons]
  refine ⟨?rampStart, ?shaftStart, ?shaftStop, ?shaftRetune, ?lineStart, ?lineStop, ?folStart, ?folStop, ?streamStart, ?streamStop, ?snapCapture, nofun⟩
  case rampStart => exact List.mem_append_right _ (state_mem_of_head (by simp [hstill]) _)
  case shaftStart => exact state_mem_of_head (by simp [hnoStart]) _
  case lineStart => exact state_mem_of_head hnoStart _
  all_goals exact state_mem_of_head (by simp [hstill]) _

/-- CH_START and CH_STOP check it where they name a boundary (R67, R68, R369). -/
theorem state_check_of_no_tick_at {d : Dev} (hstill : d.tick.running = false) {c : Cmd} (hnamed : c.p 0 ≠ 0) :
    ∀ spec ∈ [chStartSpec, chStopSpec], (.state, true) ∈ spec.checks c d := by
  simp only [List.forall_mem_cons]
  refine ⟨?start, ?stop, nofun⟩
  all_goals exact state_mem_of_head (by simp [hstill, hnamed]) _

/-- Settles O16: each of the rows has a check of state that asks for a running tick, and STATE comes before the other statuses of a check. -/
theorem noTickNoArming : Obligations.NoTickNoArming := by
  unfold Obligations.NoTickNoArming
  intro d spec c hstill hspec hres hhandle hhandles hmode
  refine Dev.reject_of_state hres hhandle hhandles hmode ?_
  rcases hspec with harms | ⟨hchannel, hnamed⟩
  · exact state_check_of_no_tick hstill c spec harms
  · exact state_check_of_no_tick_at hstill hnamed spec hchannel

/-! ### The commands -/

/-- Settles O42: each row is the one command operation on its spec, as for the channels, with the effect the clause states (R236, R238, R241). -/
theorem tickCommandsRun : Obligations.TickCommandsRun := by
  unfold Obligations.TickCommandsRun
  intro src ok
  refine ⟨?tickStatus, ?tickPeriodSet, ?tickSchedSet, ?tickWait, ?snapCapture, ?snapRead, ?snapRelease, ?lineStartAll, ?lineStopAll⟩
  all_goals exact .of_run (by decide) (fun _ => rfl) rfl

/-! ### The points of a tick and the field outputs -/

/-- Settles O55: each point of a tick, and each row of a field output that the device has, stands behind the guard that its clause names
(R131, R144, R348, R349). -/
theorem tickRowsAct : Obligations.TickRowsAct := by
  unfold Obligations.TickRowsAct
  refine ⟨?cutoff, ?computeStart, ?computeComplete, ?publish, ?gapWork, ?pulse, ?pulseEnd, ?overcurrent⟩
  case cutoff => exact fun left => .of_row (f := feedbackCutoff left) (fun _ => rfl) fun _ hc => if_pos hc
  case computeStart => exact .of_row (f := computeStart) (fun _ => rfl) fun _ hc => if_pos hc
  case computeComplete => exact fun w => .of_row (f := computeComplete w) (fun _ => rfl) fun _ hc => if_pos hc
  case publish => exact fun endNs => .of_row (f := publishDeadline endNs) (fun _ => rfl) fun _ hc => if_pos hc
  case gapWork => exact fun staged => .of_row (f := gapWorkComplete staged) (fun _ => rfl) fun _ hc => if_pos hc
  case pulse => exact fun n hn => .of_object_row (ftickPulse n) (fun _ => rfl) hn fun _ hc => if_pos hc
  case pulseEnd => exact fun n hn => .of_object_row (ftickPulseEnd n) (fun _ => rfl) hn fun _ hc => if_pos hc
  case overcurrent => exact fun n hn => .of_object_row (overcurrent n) (fun _ => rfl) hn fun _ hc => if_pos hc

end Sys2Proof.Machine

/-! What line shafts and followers do: the planner's limits (R148, R149), the exactness of a constant speed (R144, R145), the commands on shafts and profiles
(R146 to R161), and the rows of mirrors, followers and groups (R164, R176, R183, R188). -/

namespace Sys2Proof.Machine

/-! ### The planner -/

/-- The direction of the target at distance `e`, or against the acceleration `a` where the target is reached (R148). -/
def planDir (e a : Int) : Int := if 0 < e then 1 else if e < 0 then -1 else if 0 < a then -1 else 1

/-- The speed that a brake at J from the acceleration `ad` toward the target still gains (R148). -/
def planBrake (ad j : Int) : Int := if 0 < ad then ad * (ad + j) / (2 * j) else 0

/-- The next acceleration of a planner step, seen in the direction of the target: `dist` away, with the acceleration `ad` (R148). -/
def planAcc (dist ad am j : Int) : Int :=
  if planBrake ad j + ad < dist then min (ad + j) (max am (ad - j)) else max (ad - j) 0

/-- A planner step that does not end at rest goes on in the direction of the target, and arrives where its acceleration would reach it (R148). -/
theorem planStep_of_moving {v a vt am j : Int} (h : ¬ (vt - v = 0 ∧ -j ≤ a ∧ a ≤ j)) :
    planStep v a vt am j =
      let dir := planDir (vt - v) a
      let acc := dir * planAcc (dir * (vt - v)) (dir * a) am j
      if vt - v ≠ 0 ∧ 0 ≤ dir * (v + acc - vt) then (vt, 0, true) else (v + acc, acc, false) := if_neg h

/-- The direction is a sign, under which the distance is not negative. -/
theorem planDir_cases (e a : Int) : (planDir e a = 1 ∧ 0 ≤ e) ∨ (planDir e a = -1 ∧ e ≤ 0) := by
  unfold planDir
  repeat' split
  all_goals omega

theorem planDir_mul_nonneg (e a : Int) : 0 ≤ planDir e a * e := by
  rcases planDir_cases e a with ⟨hdir, he⟩ | ⟨hdir, he⟩
  all_goals rw [hdir]; omega

/-- The acceleration rises under J and A, or, where it already points to the target, falls by J to no less than 0: there is nothing to brake
where it points away (R149). -/
theorem planAcc_cases {dist : Int} (hdist : 0 ≤ dist) (ad am j : Int) :
    planAcc dist ad am j = min (ad + j) (max am (ad - j)) ∨ (0 ≤ ad ∧ planAcc dist ad am j = max (ad - j) 0) := by
  unfold planAcc
  split
  case isTrue hrise => exact .inl rfl
  case isFalse hfall =>
    refine .inr ⟨Int.not_lt.1 fun haway => hfall ?_, rfl⟩
    have hbrake : planBrake ad j = 0 := if_neg (Int.not_lt.2 (Int.le_of_lt haway))
    omega

/-- A step of `acc` in the direction `dir` reaches the target where `acc` is no less than the distance. -/
theorem reaches_iff {dir v vt acc : Int} (hdir : dir = 1 ∨ dir = -1) : 0 ≤ dir * (v + dir * acc - vt) ↔ dir * (vt - v) ≤ acc := by
  rcases hdir with rfl | rfl <;> omega

/-- What one planner step can do (R148, R149): stay at rest at the target, or take the next acceleration in the direction of the target, a sign `dir`,
and arrive where that is no less than the distance. -/
theorem planStep_cases (v a vt am j : Int) :
    (v = vt ∧ planStep v a vt am j = (v, 0, true)) ∨
    ∃ dir ad : Int, ((dir = 1 ∧ 0 ≤ vt - v) ∨ (dir = -1 ∧ vt - v ≤ 0)) ∧
      (ad = min (dir * a + j) (max am (dir * a - j)) ∨ (0 ≤ dir * a ∧ ad = max (dir * a - j) 0)) ∧
      ((v ≠ vt ∧ dir * (vt - v) ≤ ad ∧ planStep v a vt am j = (vt, 0, true)) ∨
        ((v ≠ vt → ad < dir * (vt - v)) ∧ (v = vt → ¬ (-j ≤ a ∧ a ≤ j)) ∧ planStep v a vt am j = (v + dir * ad, dir * ad, false))) := by
  by_cases hrest : vt - v = 0 ∧ -j ≤ a ∧ a ≤ j
  · exact .inl ⟨by omega, if_pos hrest⟩
  · have hdir := planDir_cases (vt - v) a
    have hacc := planAcc_cases (planDir_mul_nonneg (vt - v) a) (planDir (vt - v) a * a) am j
    refine .inr ⟨_, _, hdir, hacc, ?_⟩
    simp only [planStep_of_moving hrest, reaches_iff (hdir.imp And.left And.left)]
    split
    case isTrue harrives => exact .inl ⟨by omega, harrives.2, rfl⟩
    case isFalse hgoes => exact .inr ⟨by omega, by omega, rfl⟩

/-- Settles O24: in each case of a planner step the bounds are linear facts about the acceleration in the direction of the target. -/
theorem plannerKeepsItsLimits : Obligations.PlannerKeepsItsLimits := by
  unfold Obligations.PlannerKeepsItsLimits
  intro v a vt am j ham hj
  rcases planStep_cases v a vt am j with ⟨hat, hr⟩ | ⟨dir, ad, hdir, hacc, ⟨hoff, hreach, hr⟩ | ⟨hshort, hmoving, hr⟩⟩
  case inl =>
    rw [hr]
    exact ⟨fun _ => ⟨hat, rfl⟩, nofun, fun _ => Int.le_of_eq hat, fun _ => Int.le_of_eq hat.symm, fun _ hoff => absurd hat hoff, fun _ _ => rfl⟩
  case inr.inl =>
    rw [hr]
    refine ⟨fun _ => ⟨rfl, rfl⟩, nofun, fun _ => Int.le_refl _, fun _ => Int.le_refl _, fun _ _ => ?_, fun _ _ => rfl⟩
    rcases hdir with ⟨rfl, _⟩ | ⟨rfl, _⟩ <;> omega
  case inr.inr =>
    rw [hr]
    dsimp only
    refine ⟨nofun, fun _ => ⟨rfl, ?_, ?_⟩, fun _ => ?_, fun _ => ?_, nofun, fun hv ha => absurd ⟨by omega, by omega⟩ (hmoving hv)⟩
    all_goals rcases hdir with ⟨rfl, _⟩ | ⟨rfl, _⟩ <;> omega

/-! ### A shaft at a constant target -/

/-- The shaft has come to a rational target, with nothing left that would take it off: no profile, no trim, and its accumulator in range (R143 to R145). -/
structure Shaft.HoldsTarget (x : Shaft) : Prop where
  running : x.st = .running
  tracks  : x.sub = 3 ∨ x.sub = 4
  noProf  : x.prof = none
  own     : x.following = false
  speed   : x.v = x.target.tgt * 2 ^ 32
  steady  : x.a = 0
  noTrim  : x.trim = 0
  rest    : x.target.num < x.target.den
  acc     : x.remAcc < x.target.den

/-- What the accumulator gains and what it carries make up the fraction added (R144, step 2). -/
theorem carry_conserves (r num den : Nat) : (carry r num den).2 * den = (r : Int) + num - (carry r num den).1 := by
  unfold carry
  split <;> simp only <;> omega

/-- The accumulator stays below TGT_DEN (R145). -/
theorem carry_fst_lt {r num den : Nat} (hr : r < den) (hnum : num < den) : (carry r num den).1 < den := by
  unfold carry
  split <;> simp only <;> omega

/-- A planner step at its target with no acceleration arrives, and changes nothing (R148). -/
theorem planStep_at_target (v am : Int) {j : Int} (hj : 0 ≤ j) : planStep v 0 v am j = (v, 0, true) :=
  if_pos ⟨Int.sub_self v, by omega, hj⟩

/-- Without a profile a shaft in TRACKING or AT_TARGET takes a planner step toward its target (R144, step 1). -/
theorem Shaft.plan_of_tracking {x : Shaft} (hprof : x.prof = none) (hsub : x.sub = 3 ∨ x.sub = 4) (profs : Tbl Prof) :
    x.plan profs = { x with v := (planStep x.v x.a (x.target.tgt * 2 ^ 32) (x.trackA * 2 ^ 16 : Nat) x.trackJ).1,
                            a := (planStep x.v x.a (x.target.tgt * 2 ^ 32) (x.trackA * 2 ^ 16 : Nat) x.trackJ).2.1 } := by
  unfold Shaft.plan
  split
  case h_1 _ hsome => cases hprof.symm.trans hsome
  case h_2 => exact if_pos hsub

/-- Without a profile the sub-state of a shaft at target is 3 (Table 7-3). -/
theorem Shaft.runSub_of_atTarget {x : Shaft} (hprof : x.prof = none) (hat : x.atTarget = true) : x.runSub = 3 := by
  simp [Shaft.runSub, hprof, hat]

theorem wrapN_eq_emod (n : Nat) (v : Int) : (wrapN n v : Int) = v % (2 ^ n : Nat) :=
  Int.toNat_of_nonneg (Int.emod_nonneg v (Int.natCast_ne_zero.2 (Nat.ne_of_gt (Nat.two_pow_pos n))))

theorem wrapN_natCast (n v : Nat) : wrapN n v = v % 2 ^ n :=
  Int.ofNat.inj (wrapN_eq_emod n v)

/-- Of a position only its 80 bits count in what it is moved to (R144, step 4). -/
theorem movePos_of_mod {pos : Nat} {at' : Int} (h : pos % 2 ^ 80 = wrapN 80 at') (step : Int) : movePos pos step = wrapN 80 (at' + step) := by
  have hmod : (pos : Int) % (2 ^ 80 : Nat) = at' % (2 ^ 80 : Nat) := (congrArg Int.ofNat h).trans (wrapN_eq_emod 80 at')
  rw [movePos, wrapN, wrapN, Int.add_emod, hmod, ← Int.add_emod]

theorem movePos_mod (pos : Nat) (step : Int) : movePos pos step % 2 ^ 80 = movePos pos step := by
  rw [← wrapN_natCast, movePos, wrapN, wrapN_eq_emod, Int.emod_emod]
  rfl

namespace Shaft.HoldsTarget

variable {x : Shaft} (h : x.HoldsTarget)
include h

theorem atTarget : x.atTarget = true := by
  simp [Shaft.atTarget, h.own, h.speed, h.steady]

theorem plan (profs : Tbl Prof) : x.plan profs = x := by
  rw [plan_of_tracking h.noProf h.tracks, h.steady, ← h.speed, planStep_at_target x.v _ (Int.natCast_nonneg x.trackJ)]
  simp only [← h.steady]

theorem speed_eq : x.speed = x.target.tgt := by
  rw [Shaft.speed, sar, h.speed]
  exact Int.mul_fdiv_cancel _ (by decide)

theorem trimStep : x.trimStep = 0 := by
  rw [Shaft.trimStep, clampTo, h.noTrim]
  omega

/-- One advance moves the shaft by TARGET and what the accumulator carries, and leaves it tracking at its target (R144). -/
theorem advance (profs : Tbl Prof) (k : Nat) :
    x.advance profs k =
      let c := carry x.remAcc x.target.num x.target.den
      { x with sub := 3, remAcc := c.1, pos := movePos x.pos (x.target.tgt + c.2), posK := k + 1, delta := x.target.tgt + c.2, extrap := false,
               first := x.taken, taken := false } := by
  simp only [Shaft.advance, h.plan, h.atTarget, h.speed_eq, h.trimStep, h.running, if_true, Int.sub_zero, Int.add_zero]
  rw [Shaft.runSub_of_atTarget]
  · exact h.noProf
  · exact h.atTarget

theorem advance_holds (profs : Tbl Prof) (k : Nat) : (x.advance profs k).HoldsTarget := by
  rw [h.advance]
  exact { h with running := h.running, tracks := .inl rfl, acc := carry_fst_lt h.acc h.rest }

/-- What n advances of a shaft at its target leave: it is there still, and its position has grown by the rational speed but for what the accumulator
has gained (R145). -/
theorem advances (profs : Tbl Prof) (k n : Nat) :
    (x.advances profs k n).HoldsTarget ∧ (x.advances profs k n).target = x.target ∧
      ∃ grown : Int, (x.advances profs k n).pos % 2 ^ 80 = wrapN 80 (x.pos + grown) ∧
        grown * x.target.den = n * (x.target.tgt * x.target.den + x.target.num) + x.remAcc - (x.advances profs k n).remAcc := by
  induction n with
  | zero => exact ⟨h, rfl, 0, by rw [Int.add_zero, wrapN_natCast, Shaft.advances], by simp only [Shaft.advances, Int.natCast_zero, Int.zero_mul, Int.zero_add, Int.sub_self]⟩
  | succ n ih =>
    obtain ⟨hy, htarget, grown, hpos, hgrown⟩ := ih
    have hcarry := carry_conserves (x.advances profs k n).remAcc x.target.num x.target.den
    refine ⟨hy.advance_holds profs _, ?_⟩
    rw [Shaft.advances, hy.advance, htarget]
    refine ⟨rfl, grown + (x.target.tgt + (carry (x.advances profs k n).remAcc x.target.num x.target.den).2), ?position, ?exact⟩
    case position =>
      rw [movePos_mod, movePos_of_mod hpos, Int.add_assoc]
    case exact =>
      dsimp only
      rw [Int.add_mul, Int.add_mul, hgrown, hcarry, Int.natCast_succ, Int.add_mul, Int.one_mul]
      omega

end Shaft.HoldsTarget

/-- Settles O25, by induction on the advances: each is one of a shaft at its target. -/
theorem constantSpeedIsExact : Obligations.ConstantSpeedIsExact := by
  unfold Obligations.ConstantSpeedIsExact
  intro x profs k n hrunning htracks hprof hown hspeed hsteady htrim _ hrest hacc
  have hx : x.HoldsTarget := ⟨hrunning, htracks, hprof, hown, hspeed, hsteady, htrim, hrest, hacc⟩
  obtain ⟨hy, htarget, hgrown⟩ := hx.advances profs k n
  exact ⟨hy.atTarget, htarget, hy.acc, htarget ▸ hgrown⟩

/-! ### The commands -/

/-- Settles O43: each row is the one command operation on its spec, as for the channels, with the effect the clause states (R236, R238, R241). -/
theorem shaftCommandsRun : Obligations.ShaftCommandsRun := by
  unfold Obligations.ShaftCommandsRun
  intro src ok dma
  refine ⟨?shaftCreate, ?shaftDestroy, ?shaftConfig, ?shaftStart, ?shaftStop, ?shaftSpeed, ?shaftTrim, ?shaftRetune, ?shaftStatus, ?profCreate,
    ?profDestroy, ?profLoad, ?profRead⟩
  all_goals exact .of_run (by decide) (fun _ => rfl) rfl

/-! ### Mirrors, followers and groups -/

theorem Grp.measures_iff {x : Grp} : x.measures ↔ x.latMode = 1 ∧ x.samples ≠ [] := by
  simp [Grp.measures]

/-- Settles O56. Each row of a shaft, follower or group that the device has stands behind the guard that its clause names (R164, R183); the comparison after
a RESYNC needs a binding (R188), the new latency a group that measures (R176). -/
theorem followerRowsAct : Obligations.FollowerRowsAct := by
  unfold Obligations.FollowerRowsAct
  refine ⟨?mirrorLost, ?missRun, ?goodRun, ?resyncCompare, ?latencyUpdate⟩
  case mirrorLost => exact fun s hs => .of_object_row (mirrorLost s) (fun _ => rfl) hs fun _ hc => if_pos hc
  case missRun => exact fun f hf => .of_object_row (missRun f) (fun _ => rfl) hf fun _ hc => if_pos hc
  case goodRun => exact fun f hf => .of_object_row (goodRun f) (fun _ => rfl) hf fun _ hc => if_pos hc
  case resyncCompare =>
    refine fun f b hf => .of_object_row (resyncCompare f) (fun _ => rfl) hf fun d ⟨hbind, hready⟩ => ?_
    simp only [resyncCompare, hbind]
    exact if_pos hready
  case latencyUpdate =>
    refine fun g x hg => .of_object_row (latencyUpdate g) (fun _ => rfl) hg fun d ⟨hgrp, hmode, hsamples, hdue⟩ => ?_
    have hmeasures : x.measures := Grp.measures_iff.2 ⟨hmode, hsamples⟩
    simp only [latencyUpdate, hgrp]
    exact if_pos ⟨hmeasures, hdue⟩

end Sys2Proof.Machine

/-! What the commands on followers, cams and groups do (R169 to R197, R246). -/

namespace Sys2Proof.Machine

/-- Settles O44: each row is the one command operation on its spec, as for the shafts, and what the spec runs once no check stops the command is the effect
the clause states (R236, R238, R241). -/
theorem followerCommandsRun : Obligations.FollowerCommandsRun := by
  unfold Obligations.FollowerCommandsRun
  intro src ok dma
  refine ⟨?folCreate, ?folDestroy, ?folConfig, ?folStart, ?folStop, ?folOffset, ?folLimits, ?folClear, ?folStatus, ?camCreate, ?camDestroy, ?camLoad,
    ?camRead, ?grpCreate, ?grpDestroy, ?grpConfig, ?grpLatency, ?grpStatus⟩
  all_goals exact .of_run (by decide) (fun _ => rfl) rfl

end Sys2Proof.Machine

/-! What the switch link and the time engine do by themselves: frames, reports, ports and time carriage (R200 to R221), PTP messages and timeouts, PPS and
slews (R106 to R121, R212). -/

namespace Sys2Proof.Machine

/-! ### The switch link -/

/-- Settles O57. A row of the link stands behind its guard, and one of a received frame behind those of its checks in turn (R203, R208); what waits, is
outstanding or is echoed is found first (R209, R213, R215, R218), and an in-band command passes its authentication and the replay test (R220, R221). -/
theorem linkRowsAct : Obligations.LinkRowsAct := by
  unfold Obligations.LinkRowsAct
  refine ⟨?up, ?down, ?pfc, ?pauseExpiry, ?xon, ?transmit, ?backpressure, ?discarded, ?feedback, ?shaftState, ?reports, ?lineMissing, ?timedMissing,
    ?ports, ?syncUnit, ?echo, ?command⟩
  case up => exact .of_row (f := linkUp) (fun _ => rfl) fun _ hc => if_pos hc
  case down => exact .of_row (f := linkDown) (fun _ => rfl) fun _ _ => rfl
  case pfc => exact fun classes quanta => .of_row (f := pfcFrame classes quanta) (fun _ => rfl) fun _ hc => if_neg (Bool.not_not_eq.2 hc)
  case pauseExpiry =>
    refine fun cls t hcls => .of_object_row (pauseExpiry cls) (fun _ => rfl) hcls fun d hpaused => ?_
    simp only [pauseExpiry, hpaused]
  case xon => exact fun cls hcls => .of_object_row (xon cls) (fun _ => rfl) hcls fun _ hc => if_pos hc
  case transmit =>
    refine fun i f => .of_row (f := carriageFrameTransmit) (fun _ => rfl) fun d ⟨hnext, hframe⟩ => ?_
    simp only [carriageFrameTransmit, hnext, hframe]
  case backpressure =>
    refine fun f => .of_row (f := backpressureTimeout) (fun _ => rfl) fun d hheld => ?_
    simp only [backpressureTimeout, hheld]
  case discarded => exact fun cause => .of_row (f := discardedFrame cause) (fun _ => rfl) fun _ hc => if_pos hc
  case feedback =>
    refine fun f => .of_row (f := feedbackFrame f) (fun _ => rfl) fun d ⟨⟨hreceives, hheader, hpublishes, hingests, hopen⟩, hgroup, hslots⟩ => ?_
    have hnamed : ¬ ((d.relayed (.feedback f)).grpFree f.header.group = true ∨ 32 < f.header.firstSlot + f.recs.length) :=
      not_or.2 ⟨by simpa using hgroup, Nat.not_lt.2 hslots⟩
    calc feedbackFrame f d
      _ = _ := if_neg (Bool.not_not_eq.2 hreceives)
      _ = _ := if_neg (Bool.not_not_eq.2 hheader)
      _ = _ := if_neg (Bool.not_not_eq.2 hpublishes)
      _ = _ := if_neg (Bool.not_not_eq.2 hingests)
      _ = _ := if_neg (by simpa using hopen)
      _ = _ := if_neg hnamed
  case shaftState =>
    exact fun f => .of_row (f := shaftStateFrame f) (fun _ => rfl) fun _ ⟨hreceives, hheader⟩ =>
      (if_neg (Bool.not_not_eq.2 hreceives)).trans (if_neg (Bool.not_not_eq.2 hheader))
  case reports => exact fun rs => .of_row (f := egressReports rs) (fun _ => rfl) fun _ hc => if_pos hc
  case lineMissing =>
    exact .of_row (f := reportMissing) (fun _ => rfl) fun _ ⟨hup, hline⟩ => (if_neg (Bool.not_not_eq.2 hup)).trans (if_pos hline)
  case timedMissing =>
    refine fun f => .of_row (f := reportMissing) (fun _ => rfl) fun d ⟨hup, hnone, htimed⟩ => ?_
    refine (if_neg (Bool.not_not_eq.2 hup)).trans ((if_neg (not_not_intro hnone)).trans ?_)
    simp only [htimed]
  case ports => exact fun mask => .of_row (f := portStatus mask) (fun _ => rfl) fun _ hc => if_neg (Bool.not_not_eq.2 hc)
  case syncUnit => exact .of_row (f := timeSyncUnit) (fun _ => rfl) fun _ hc => if_neg hc
  case echo =>
    refine fun e s => .of_row (f := timeEcho e) (fun _ => rfl) fun d ⟨hreceives, hsync⟩ => ?_
    refine (if_neg (Bool.not_not_eq.2 hreceives)).trans ?_
    simp only [hsync]
  case command =>
    refine fun f t => .of_row (f := inBandCommandFrame f) (fun _ => rfl) fun d
      ⟨⟨hreceives, hfits⟩, ⟨hversion, htype, hline, hlineId, hcount, hlength⟩, ⟨henabled, hkey, hmac⟩, hfresh, hroom⟩ => ?_
    refine (if_neg (Bool.not_not_eq.2 hreceives)).trans ((if_neg (Bool.not_not_eq.2 hfits)).trans ?_)
    refine (if_neg (by simp [hversion, htype, hline, hlineId, hcount, hlength])).trans ?_
    refine (if_neg (by simp [henabled, hkey, hmac])).trans ?_
    simp only [hfresh]
    exact if_pos hroom

/-! ### PTP -/

namespace Dev

/-- An engine is an orphan where it is LOCKED to PTP and no port is its SLAVE (R121). -/
theorem ptpOrphan_iff {d : Dev} : d.ptpOrphan = true ↔ d.timeSrc = 2 ∧ d.time.st = .locked ∧ d.slavePort = none := by
  simp [ptpOrphan, and_assoc]

end Dev

/-- On an orphan what was due of its source runs out with the timeout, unless the port's own Announce is due before (R121). -/
theorem announceTimeout_of_orphan {p t : Nat} {d : Dev} (horphan : d.ptpOrphan = true) (hdue : d.time.lostBy = some t)
    (hlast : (!d.ptpEnabled p) = true ∨ t ≤ d.annDue p) : announceTimeout p d = (d.till t).ptpHoldover := by
  simp only [announceTimeout, hdue]
  refine if_pos ⟨horphan, hlast.imp (fun hoff => ?_) fun hbefore => by simpa using hbefore⟩
  simp only [Bool.not_eq_true'] at hoff
  simp only [hoff, Bool.false_and, Bool.not_false]

/-- On a port that waits for Announces, of an engine that is no orphan, the timeout ends the wait for Syncs where that is the first to end, or the only one
that counts, and the wait for Announces otherwise (R121). -/
theorem announceTimeout_of_waiting {p : Nat} {d : Dev} (horphan : d.ptpOrphan = false) (hon : d.ptpEnabled p = true)
    (hstate : (d.portOf p).state = 4 ∨ (d.portOf p).state = 7 ∨ (d.portOf p).state = 9) :
    announceTimeout p d =
      if (d.portOf p).state = 9 ∧ d.timeSrc = 2 ∧ d.time.st = .locked ∧ (d.syncDue p < d.annDue p ∨ d.bit F.PTP_CLASS.EXT_PORT_CFG) then
        (d.till (d.syncDue p)).ptpHoldover
      else (d.till (d.annDue p)).announceLost p := by
  have hwaits : (d.ptpEnabled p && (decide ((d.portOf p).state = 4) || decide ((d.portOf p).state = 7) || decide ((d.portOf p).state = 9))) = true := by
    simpa [hon, or_assoc] using hstate
  simp only [announceTimeout, horphan, hwaits, Bool.false_eq_true, false_and, if_false, Bool.not_true]

/-! ### PPS -/

/-- PPS_IN passes over an edge where it is off, and over one that is not the active one: the level before the edge is not PPS_IN_EDGE (R111). -/
theorem ppsIn_passes_iff {d : Dev} :
    ((!d.bit F.TIME_CTRL.PPS_IN_EN) = true ∨ (!d.boot.ppsIn) = d.bit F.TIME_CTRL.PPS_IN_EDGE) ↔
      (¬ d.bit F.TIME_CTRL.PPS_IN_EN = true ∨ d.boot.ppsIn ≠ d.bit F.TIME_CTRL.PPS_IN_EDGE) := by
  rw [Bool.not_eq_true', Bool.not_eq_true, Bool.not_eq, ne_eq]

/-! ### The rows -/

/-- Settles O58. A PTP message passes its checks (R212), a message interval its port's state (R117); an announce timeout turns on whether the engine
is an orphan and on which wait ends (R121), an edge of PPS_IN on whether it is the active one (R111, R112); the other rows stand behind their guards
(R106, R113). -/
theorem timeRowsAct : Obligations.TimeRowsAct := by
  unfold Obligations.TimeRowsAct
  refine ⟨?message, ?interval, ?orphan, ?syncsLost, ?announceLost, ?edgePassed, ?edgeTaken, ?ppsLost, ?ppsOut, ?ppsOutFall, ?slewDone⟩
  case message =>
    refine fun m => .of_row (f := ptpMessage m) (fun _ => rfl) fun d ⟨hreceives, hfits, hon, hdomain, hforeign⟩ => ?_
    exact (if_neg (Bool.not_not_eq.2 hreceives)).trans ((if_neg (Bool.not_not_eq.2 hfits)).trans (if_neg (by simp [hon, hdomain, hforeign])))
  case interval =>
    refine fun p kind hp => .of_object_row (ptpMessageInterval p kind) (fun _ => rfl) hp fun d ⟨hup, hon, hsends⟩ => ?_
    exact (if_neg (by simp [hup, hon])).trans (if_neg (Bool.not_not_eq.2 hsends))
  case orphan =>
    exact fun p t hp => .of_object_row (announceTimeout p) (fun _ => rfl) hp fun d ⟨hsrc, hlocked, hslave, hdue, hlast⟩ =>
      announceTimeout_of_orphan (Dev.ptpOrphan_iff.2 ⟨hsrc, hlocked, hslave⟩) hdue hlast
  case syncsLost =>
    refine fun p hp => .of_object_row (announceTimeout p) (fun _ => rfl) hp fun d ⟨hon, hstate, hslave, hsrc, hlocked, hfirst⟩ => ?_
    have horphan : d.ptpOrphan = false := Bool.eq_false_iff.2 fun h => hslave (Dev.ptpOrphan_iff.1 h).2.2
    exact (announceTimeout_of_waiting horphan hon (.inr (.inr hstate))).trans (if_pos ⟨hstate, hsrc, hlocked, hfirst⟩)
  case announceLost =>
    exact fun p hp => .of_object_row (announceTimeout p) (fun _ => rfl) hp fun d ⟨hon, horphan, hsyncs, hstate⟩ =>
      (announceTimeout_of_waiting horphan hon hstate).trans (if_neg hsyncs)
  case edgePassed => exact .of_row (f := ppsIn) (fun _ => rfl) fun _ hc => if_pos (ppsIn_passes_iff.2 hc)
  case edgeTaken =>
    refine .of_row (f := ppsIn) (fun _ => rfl) fun d ⟨hon, hactive⟩ => if_neg (mt (ppsIn_passes_iff (d := d)).1 ?_)
    exact not_or.2 ⟨not_not_intro hon, not_not_intro hactive⟩
  case ppsLost =>
    refine fun t => .of_row (f := ppsInLost) (fun _ => rfl) fun d ⟨hlast, hlocked⟩ => ?_
    simp only [ppsInLost, hlast]
    exact if_pos hlocked
  case ppsOut => exact .of_row (f := ppsOut) (fun _ => rfl) fun _ hc => if_neg hc
  case ppsOutFall =>
    refine fun t => .of_row (f := ppsOutFall) (fun _ => rfl) fun d hrose => ?_
    simp only [ppsOutFall, hrose]
  case slewDone => exact .of_row (f := slewDone) (fun _ => rfl) fun _ hc => if_pos hc

end Sys2Proof.Machine

/-! How commands are taken (R236 to R244): the front of the queue, the turn of a source, handles, the order of checks, and commands that do not execute. -/

namespace Sys2Proof.Machine

/-! ### The queue and the rows -/

/-- Settles O1: that is what `step` says of a queue that is not empty. -/
theorem stepRunsFront : Obligations.StepRunsFront := by
  unfold Obligations.StepRunsFront
  intro c rest s hqueue
  rw [step, hqueue]

/-- Settles O5: every row acts through one of the operations on the state, none of which stops or touches the queue. -/
theorem everyRowAnswers : Obligations.EveryRowAnswers := by
  unfold Obligations.EveryRowAnswers
  intro c s
  rcases exec_shape c with hacts | ⟨-, hboundary⟩ | ⟨-, f, hall⟩ | ⟨-, taken, f, hreset⟩
  · obtain ⟨t, ht⟩ : ∃ t, exec c s = .next t := by
      rcases hacts with ⟨f, hf⟩ | ⟨b, f, hf⟩
      · exact ⟨_, hf s⟩
      · exact ⟨_, hf s⟩
    exact ⟨t, ht, (hacts.frame ht).1⟩
  · exact ⟨_, hboundary s, s.onBoundary_pending⟩
  · exact ⟨_, hall s, s.onAll_pending f⟩
  · exact ⟨_, hreset s, s.onReset_pending (taken s) f⟩

namespace Dev

/-! ### Whose turn it is -/

/-- A device that executes nothing gives no source the turn: one in HALT (R230), or one without a core online (log 60). -/
theorem turn_of_idle {d : Dev} (h : d.glb.mode = .halt ∨ d.coresRun = false) : d.turn = none := by
  unfold turn
  rcases h with hhalt | hcores
  · simp [hhalt, Mode.served]
  · simp [hcores]

/-- In a mode that serves the rings, the turn goes by the priority of R237. -/
theorem turn_of_served {d : Dev} (hboot : d.glb.mode ≠ .boot) (hhalt : d.glb.mode ≠ .halt) (hcores : d.coresRun = true) :
    d.turn =
      if d.readySrc (.ring 0) then some (.ring 0)
      else if d.readySrc (.ring 1) then some (.ring 1)
      else if d.readySrc (.ring 2) && (!d.readySrc .inband || !d.cmd.inbandTurn) then some (.ring 2)
      else if d.readySrc .inband then some .inband
      else if d.readySrc (.ring 3) then some (.ring 3)
      else none := by
  have hserved : d.glb.mode.served = true := by
    cases hmode : d.glb.mode with
    | boot => exact absurd hmode hboot
    | halt => exact absurd hmode hhalt
    | configure | run | degraded | test => rfl
  unfold turn
  simp only [hcores, hboot, hserved, Bool.not_true, Bool.false_eq_true, if_false]

theorem coresRun_popCmd (d : Dev) (src : Source) : (d.popCmd src).coresRun = d.coresRun := by
  unfold coresRun get word
  rw [regs_popCmd]

end Dev

/-- Settles O11: the turn goes by the priority of R237, and taking an entry of ring 2 or of the in-band queue leaves the next turn of the two to the other. -/
theorem turnFollowsPriority : Obligations.TurnFollowsPriority := by
  unfold Obligations.TurnFollowsPriority
  intro d hboot
  refine ⟨Dev.turn_of_idle, fun hhalt hcores => ?_⟩
  have hturn := Dev.turn_of_served hboot hhalt hcores
  have hnext (src : Source) := Dev.turn_of_served (d := d.popCmd src) ((d.unitsKept_popCmd src).glb ▸ hboot) ((d.unitsKept_popCmd src).glb ▸ hhalt)
    ((d.coresRun_popCmd src).trans hcores)
  refine ⟨fun h0 => ?ring0, fun h0 h1 => ?ring1, fun h0 h1 =>
    ⟨fun h2 hin => ?ring2, fun h2 hin => ?inband, fun h2 hin => ?both, fun h2 hin h3 => ?ring3, fun h2 hin h3 => ?none⟩⟩
  case ring0 => simp [hturn, h0]
  case ring1 => simp [hturn, h0, h1]
  case ring2 => simp [hturn, h0, h1, h2, hin]
  case inband => simp [hturn, h0, h1, h2, hin]
  case both =>
    cases hside : d.cmd.inbandTurn with
    | false =>
      refine .inl ⟨by simp [hturn, h0, h1, h2, hin, hside], ?_⟩
      rintro d1 rfl h0' h1' hin'
      have hother : (d.popCmd (.ring 2)).cmd.inbandTurn = true := rfl
      simp [hnext, h0', h1', hin', hother]
    | true =>
      refine .inr ⟨by simp [hturn, h0, h1, h2, hin, hside], ?_⟩
      rintro d1 rfl h0' h1' h2'
      have hother : (d.popCmd .inband).cmd.inbandTurn = false := rfl
      simp [hnext, h0', h1', h2', hother]
  case ring3 => simp [hturn, h0, h1, h2, hin, h3]
  case none => simp [hturn, h0, h1, h2, hin, h3]

/-! ### Handles -/

/-- Every number of objects fits INDEX (Table 10-4, R242). -/
theorem typeCount_le (ty : Nat) : typeCount ty ≤ 65536 := by
  unfold typeCount
  split <;> decide

namespace Dev

/-- The check of a handle by its TYPE, GENERATION and INDEX (R242, R243). -/
theorem checkHandle_of_parts (d : Dev) {ty g idx : Nat} (hty : 0 < ty) (hg : g < 256) (hidx : idx < 65536) (want : Nat) (isFree : Dev → Nat → Bool)
    (wrong : Status) :
    d.checkHandle (ty * 2 ^ 24 + g * 2 ^ 16 + idx) want isFree wrong =
      if ty ≠ want then some wrong else if typeCount want ≤ idx then some .badHandle else if g ≠ d.gen want idx then some .staleHandle
      else if isFree d idx then some .badHandle else none := by
  have hzero : ty * 2 ^ 24 + g * 2 ^ 16 + idx ≠ 0 := by omega
  have htype : (ty * 2 ^ 24 + g * 2 ^ 16 + idx) / 2 ^ 24 = ty := by omega
  have hgen : (ty * 2 ^ 24 + g * 2 ^ 16 + idx) / 2 ^ 16 % 256 = g := by omega
  have hindex : hIdx (ty * 2 ^ 24 + g * 2 ^ 16 + idx) = idx := by unfold hIdx; omega
  unfold checkHandle
  rw [if_neg hzero, htype, hgen, hindex]

/-- A generation has 8 bits (R242). -/
theorem gen_lt (d : Dev) (ty idx : Nat) : d.gen ty idx < 256 := Nat.mod_lt _ (by decide)

end Dev

/-- Settles O14: a handle is its TYPE, GENERATION and INDEX, which its check takes in this order. -/
theorem handlesAreChecked : Obligations.HandlesAreChecked := by
  unfold Obligations.HandlesAreChecked
  intro d ty idx isFree wrong hty hidx
  have hfits : idx < 65536 := Nat.lt_of_lt_of_le hidx (typeCount_le ty)
  have hnear : ¬ typeCount ty ≤ idx := Nat.not_le_of_lt hidx
  have hown : d.checkHandle (d.handle ty idx) ty isFree wrong = if isFree d idx then some .badHandle else none := by
    rw [Dev.handle, d.checkHandle_of_parts hty (d.gen_lt ty idx) hfits]
    simp only [hnear, ne_eq, not_true_eq_false, if_false]
  refine ⟨fun hused => ?used, fun hfree => ?free, ?zero, fun ty' hne hty' => ?wrongType, fun far hfar hlt => ?far, fun g hg hne => ?stale⟩
  case used => rw [hown, if_neg (ne_true_of_eq_false hused)]
  case free => rw [hown, if_pos hfree]
  case zero => exact if_pos rfl
  case wrongType => rw [Dev.handle, d.checkHandle_of_parts hty' (d.gen_lt ty' idx) hfits, if_pos hne]
  case far => rw [Dev.handle, d.checkHandle_of_parts hty (d.gen_lt ty far) hlt, if_neg (not_not_intro rfl), if_pos hfar]
  case stale => rw [d.checkHandle_of_parts hty hg hfits, if_neg (not_not_intro rfl), if_neg hnear, if_pos hne]

/-! ### The order of checks -/

/-- Of several statuses the first whose condition holds is answered (R241). -/
theorem firstOf_of_fails {cs : List (Status × Bool)} {st : Status} (h : ∃ p ∈ cs, p.1 = st ∧ p.2 = true) (order : List Status) :
    firstOf (st :: order) cs = some st := by
  obtain ⟨⟨_, b⟩, hmem, rfl, rfl⟩ := h
  exact List.find?_cons_of_pos (List.any_eq_true.2 ⟨_, hmem, by simp⟩)

/-- A status whose condition does not hold is passed over. -/
theorem firstOf_of_passes {cs : List (Status × Bool)} {st : Status} (h : ¬ ∃ p ∈ cs, p.1 = st ∧ p.2 = true) (order : List Status) :
    firstOf (st :: order) cs = firstOf order cs := by
  refine List.find?_cons_of_neg fun hany => h ?_
  obtain ⟨p, hmem, hp⟩ := List.any_eq_true.1 hany
  simp only [Bool.and_eq_true, decide_eq_true_eq] at hp
  exact ⟨p, hmem, hp.2, hp.1⟩

namespace Dev

section

variable {d : Dev} {spec : CmdSpec} {c : Cmd} (hres : c.reservedOk spec = true)

include hres

/-- A handle that fails its check comes after the reserved bits and before all else (R241). -/
theorem reject_of_handle (hty : spec.ty ≠ 0) {st : Status} (hobject : d.checkHandle c.handle spec.ty spec.isFree .badHandle = some st) :
    d.reject spec c = some st := by
  unfold reject
  simp only [hres, if_neg hty, hobject, Bool.not_true, Bool.false_eq_true, if_false]

variable (hobject : spec.ty = 0 ∨ d.checkHandle c.handle spec.ty spec.isFree .badHandle = none)

include hobject

/-- Then come the handle parameters (R241, R243). -/
theorem reject_of_handles {st : Status} (hhandles : d.checkHandles c spec.handles = some st) : d.reject spec c = some st := by
  have hpass : (if spec.ty = 0 then none else d.checkHandle c.handle spec.ty spec.isFree .badHandle) = none := ite_eq_left_iff.2 hobject.resolve_left
  unfold reject
  simp only [hres, hpass, hhandles, Bool.not_true, Bool.false_eq_true, if_false]

variable (hhandles : d.checkHandles c spec.handles = none)

include hhandles

/-- Then the mode, and then the row's own checks with those of its values (R232, R234, R241). -/
theorem reject_of_good_handles :
    d.reject spec c = if spec.modes (c.mode d) then firstOf [.state, .range, .busy, .noResource, .deadline] (spec.checks c d ++ [(.range, c.valuesBad spec)])
      else some .mode := by
  have hpass : (if spec.ty = 0 then none else d.checkHandle c.handle spec.ty spec.isFree .badHandle) = none := ite_eq_left_iff.2 hobject.resolve_left
  unfold reject
  simp only [hres, hpass, hhandles, Bool.not_true, Bool.false_eq_true, if_false]
  cases spec.modes (c.mode d) <;> rfl

end

end Dev

/-- Settles O13: the checks stand in the order of R241, the row's own ones among them in that of their statuses. -/
theorem checksKeepTheirOrder : Obligations.ChecksKeepTheirOrder := by
  unfold Obligations.ChecksKeepTheirOrder
  intro d spec c own fails
  refine ⟨fun hres => ?reserved, fun hres hty st => Dev.reject_of_handle hres hty, fun hres hobject => ⟨fun st => Dev.reject_of_handles hres hobject,
    fun hhandles => ⟨fun hmode => ?mode, fun hmode => ?checks⟩⟩⟩
  case reserved => simp [Dev.reject, hres]
  case mode => rw [Dev.reject_of_good_handles hres hobject hhandles, hmode]; rfl
  case checks =>
    rw [Dev.reject_of_good_handles hres hobject hhandles, if_pos hmode]
    refine ⟨fun h => ?state, fun h1 h => ?range, fun h1 h2 h => ?busy, fun h1 h2 h3 h => ?noResource, fun h1 h2 h3 h4 h => ?deadline,
      fun h1 h2 h3 h4 h5 => ?none⟩
    case state => rw [firstOf_of_fails h]
    case range => rw [firstOf_of_passes h1, firstOf_of_fails h]
    case busy => rw [firstOf_of_passes h1, firstOf_of_passes h2, firstOf_of_fails h]
    case noResource => rw [firstOf_of_passes h1, firstOf_of_passes h2, firstOf_of_passes h3, firstOf_of_fails h]
    case deadline => rw [firstOf_of_passes h1, firstOf_of_passes h2, firstOf_of_passes h3, firstOf_of_passes h4, firstOf_of_fails h]
    case none =>
      rw [firstOf_of_passes h1, firstOf_of_passes h2, firstOf_of_passes h3, firstOf_of_passes h4, firstOf_of_passes h5]
      rfl

/-! ### Commands that do not execute -/

namespace Dev

section

variable {d : Dev} {spec : CmdSpec} {src : Source} {dma : Option (List Byte)} {e : Entry} (hturn : d.turn = some src) (hfront : d.frontOf src = some e)

include hturn hfront

/-- The next command of a source whose turn it is, unless its entry is of another row (R236, R239, R244, R345). -/
theorem command_of_turn (hrow : opcodes.contains e.opcode = false ∨ e.opcode = spec.opcode) :
    d.command spec src dma =
      let c := Cmd.parse src e spec.params dma
      let skipped : Bool := decide (src = .list) && !listAccepts e.opcode
      if c.timeout ≠ 0 ∧ e.seen + c.timeout * msec < d.now then
        ((d.popCmd src).count R.CMD_TIMEOUT_COUNT 1).post src e c.tag e.notify .timeout 0 0
      else if !opcodes.contains e.opcode then
        (if skipped then d.popCmd src else (d.popCmd src).countCommand e).post src e c.tag e.notify .badOpcode 0 0
      else if skipped then (d.popCmd src).post src e c.tag e.notify .mode 0 0
      else ((d.popCmd src).countCommand e).execute spec c := by
  have hmine (skips : Prop) : ¬ (opcodes.contains e.opcode = true ∧ skips ∧ e.opcode ≠ spec.opcode) := fun ⟨hknown, _, hother⟩ =>
    hrow.elim (fun hunknown => Bool.false_ne_true (hunknown.symm.trans hknown)) hother
  unfold command
  rw [if_neg (not_not_intro hturn)]
  simp only [hfront]
  rw [if_neg (hmine _)]

/-- Past its time limit it does not execute (R239). -/
theorem command_of_late (hrow : opcodes.contains e.opcode = false ∨ e.opcode = spec.opcode) (hlimit : (Cmd.parse src e spec.params dma).timeout ≠ 0)
    (hlate : e.seen + (Cmd.parse src e spec.params dma).timeout * msec < d.now) :
    d.command spec src dma =
      ((d.popCmd src).count R.CMD_TIMEOUT_COUNT 1).post src e (Cmd.parse src e spec.params dma).tag e.notify .timeout 0 0 :=
  (command_of_turn hturn hfront hrow).trans (if_pos ⟨hlimit, hlate⟩)

variable (htime : (Cmd.parse src e spec.params dma).timeout = 0 ∨ d.now ≤ e.seen + (Cmd.parse src e spec.params dma).timeout * msec)

include htime

/-- Inside its limit an entry with an opcode that no row has completes with BAD_OPCODE, and counts as executed unless the start-up list skips it
(R244, R345). -/
theorem command_of_unknown (hunknown : opcodes.contains e.opcode = false) :
    d.command spec src dma =
      (if decide (src = .list) && !listAccepts e.opcode then d.popCmd src else (d.popCmd src).countCommand e).post src e
        (Cmd.parse src e spec.params dma).tag e.notify .badOpcode 0 0 :=
  (command_of_turn hturn hfront (.inl hunknown)).trans <|
    (if_neg fun ⟨hlimit, hlate⟩ => htime.elim hlimit (Nat.not_le_of_lt hlate)).trans (if_pos (by rw [hunknown]; rfl))

/-- One of a row that the list does not skip executes. -/
theorem command_of_known (hop : e.opcode = spec.opcode) (hknown : opcodes.contains spec.opcode = true) (hlist : src = .list → listAccepts e.opcode = true) :
    d.command spec src dma = ((d.popCmd src).countCommand e).execute spec (Cmd.parse src e spec.params dma) := by
  have hskip : (decide (src = .list) && !listAccepts e.opcode) = false := by
    by_cases hsrc : src = .list
    · rw [hlist hsrc, Bool.not_true, Bool.and_false]
    · rw [decide_eq_false hsrc, Bool.false_and]
  have hin : ¬ ((Cmd.parse src e spec.params dma).timeout ≠ 0 ∧ e.seen + (Cmd.parse src e spec.params dma).timeout * msec < d.now) :=
    fun ⟨hlimit, hlate⟩ => htime.elim hlimit (Nat.not_le_of_lt hlate)
  rw [command_of_turn hturn hfront (.inr hop)]
  simp only [if_neg hin, hop ▸ hknown, hskip, Bool.not_true, Bool.false_eq_true, if_false]

end

/-- A command that must wait and finds no place ends with BUSY (R238). -/
theorem execute_of_no_place {d : Dev} {spec : CmdSpec} {c : Cmd} (hpass : d.reject spec c = none) (hwaits : spec.waits c d = true)
    (hfull : d.hasPlace c.src = false) :
    d.execute spec c = (d.count R.CMD_BUSY_COUNT 1).post c.src c.entry c.tag c.entry.notify .busy 0 0 := by
  unfold execute
  simp only [hpass, hwaits, hfull, Bool.not_false, Bool.and_self, if_true]

end Dev

/-- Settles O12: what a source's next command comes to turns on its time limit, its opcode, the start-up list, its checks and the place it may need. -/
theorem commandsThatDoNotExecute : Obligations.CommandsThatDoNotExecute := by
  unfold Obligations.CommandsThatDoNotExecute
  intro d spec src dma e hturn hfront hknown c taken
  refine ⟨Dev.command_of_late hturn hfront, fun htime => ⟨fun hunknown hlist => ?unknown, fun hunknown hsrc hskip => ?skipped,
    fun hop hlist => ⟨fun st hrej => ?rejected, fun hpass hwaits hfull => ?full⟩⟩⟩
  case unknown =>
    rw [Dev.command_of_unknown hturn hfront htime hunknown, if_neg]
    simpa using hlist
  case skipped =>
    rw [Dev.command_of_unknown hturn hfront htime hunknown, if_pos]
    simp [hsrc, hskip]
  case rejected => exact Dev.command_of_reject hturn hfront hop (hop ▸ hknown) hlist htime hrej
  case full => exact (Dev.command_of_known hturn hfront htime hop hknown hlist).trans (Dev.execute_of_no_place hpass hwaits hfull)

end Sys2Proof.Machine

/-! What the device commands (R3, R245) and the rows of the rings (R226, R227, R229) do, and what the commands that only report leave as it was (R246). -/

namespace Sys2Proof.Machine

/-! ### The device commands and the rings -/

/-- Settles O37: each row is the one command operation on its spec, as for the channels, with the effect the clause states (R236, R238, R241). -/
theorem deviceCommandsRun : Obligations.DeviceCommandsRun := by
  unfold Obligations.DeviceCommandsRun
  intro src
  refine ⟨?nop, ?getInfo, ?modeRequest, ?configDigest, ?regRead, ?regWrite⟩
  all_goals exact .of_run (by decide) (fun _ => rfl) rfl

/-- Settles O47. A row of a ring has its effect where its guard holds: an entry that can be fetched (R226), a pair in use (R228), a ring that drains (R229), a
completion that no interrupt has covered (R227). -/
theorem ringRowsAct : Obligations.RingRowsAct := by
  unfold Obligations.RingRowsAct
  refine ⟨fun r b hr => ?entry, fun r hr => ?fetchError, fun r hr => ?completionError, fun r hr => ?drained, fun r t hr => ?coalescing⟩
  case entry => exact .of_object_row (entryFetch r (.entry b)) (fun _ => rfl) hr fun d hfetch => (if_neg (Nat.not_le_of_lt hr)).trans (if_pos hfetch)
  case fetchError => exact .of_object_row (entryFetch r .fetchError) (fun _ => rfl) hr fun d hfetch => (if_neg (Nat.not_le_of_lt hr)).trans (if_pos hfetch)
  case completionError => exact .of_object_row (entryFetch r .completionError) (fun _ => rfl) hr fun d huse => (if_neg (Nat.not_le_of_lt hr)).trans (if_pos huse)
  case drained => exact .of_object_row (ringDrained r) (fun _ => rfl) hr fun d hdrains => if_pos hdrains
  case coalescing =>
    refine .of_object_row (interruptCoalescing r) (fun _ => rfl) hr fun d ⟨hsince, hon⟩ => ?_
    simp only [interruptCoalescing, hsince]
    exact if_neg hon

/-! ### Commands that only report -/

namespace Dev

/-- No unit changes, and no register but those at some offsets. -/
structure onlyWords (offs : List Nat) (d d1 : Dev) : Prop where
  units : d.unitsKept d1
  words : d.wordsKeptBut d1 offs

theorem onlyWords.trans {offs : List Nat} {d d1 d2 : Dev} (h1 : onlyWords offs d d1) (h2 : onlyWords offs d1 d2) : onlyWords offs d d2 :=
  ⟨h1.units.trans h2.units, h1.words.trans h2.words⟩

/-- The more offsets may change, the less is said. -/
theorem onlyWords.mono {offs more : List Nat} {d d1 : Dev} (h : onlyWords offs d d1) (hsub : offs ⊆ more) : onlyWords more d d1 :=
  ⟨h.units, fun off hoff => h.words off fun hmem => hoff (hsub hmem)⟩

theorem onlyWords_self (d : Dev) : onlyWords commandWords d d := ⟨rfl, wordsKeptBut_of_regs rfl _⟩

/-- A free value is taken (log 2). -/
theorem onlyWords_fresh (d : Dev) : onlyWords commandWords d d.fresh := ⟨rfl, wordsKeptBut_of_regs rfl _⟩

/-- Data for HOST_ADDR, or the message of a transfer that failed (R234). -/
theorem onlyWords_toHost (d : Dev) (c : Cmd) (addr : Nat) (bytes : List Byte) (ok : Res) : onlyWords commandWords d (d.toHost c addr bytes ok).1 := by
  refine ⟨d.unitsKept_toHost c addr bytes ok, ?_⟩
  unfold toHost
  split
  · exact wordsKeptBut_of_regs rfl _
  · split
    · exact d.wordsKeptBut_pushFault _
    · exact wordsKeptBut_of_regs rfl _

/-- What serves a command changes the command words alone. -/
theorem onlyWords_taken (d : Dev) (src : Source) (e : Entry) : onlyWords commandWords d (d.taken src e) :=
  ⟨d.unitsKept_taken src e, d.wordsKeptBut_taken src e⟩

theorem onlyWords_answer (r : Dev × Res) (c : Cmd) (cid : Nat) : onlyWords commandWords r.1 (answer r c cid) :=
  ⟨unitsKept_answer r c cid, wordsKeptBut_answer r c cid⟩

/-- The words of the capture (R102). -/
def captureWords : List Nat :=
  [R.TIME_CAP_SEC_LO, R.TIME_CAP_SEC_LO + 4, R.TIME_CAP_NS, R.TIME_CAP_FRAC, R.TIME_CAP_TICK_LO, R.TIME_CAP_TICK_LO + 4,
    R.TIME_CAP_OPTIME_LO, R.TIME_CAP_OPTIME_LO + 4, R.TIME_CAP_PCC, R.TIME_CAP_STATUS]

theorem onlyWords.setWord {offs : List Nat} {d d1 : Dev} (h : onlyWords offs d d1) {off : Nat} (hoff : off ∈ offs) (w : Word) :
    onlyWords offs d (d1.setWord off w) := ⟨h.units.trans rfl, h.words.setWord hoff w⟩

theorem onlyWords.set64 {offs : List Nat} {d d1 : Dev} (h : onlyWords offs d d1) {lo : Nat} (hlo : lo ∈ offs ∧ lo + 4 ∈ offs) (v : Nat) :
    onlyWords offs d (d1.set64 lo v) := (h.setWord hlo.1 _).setWord hlo.2 _

/-- A capture writes its registers and nothing else (R102). -/
theorem onlyWords_doCapture (d : Dev) : onlyWords captureWords d d.doCapture := by
  unfold doCapture
  dsimp only
  refine .setWord (.setWord (.set64 (.set64 (.setWord (.setWord (.set64 ?_ ?_ _) ?_ _) ?_ _) ?_ _) ?_ _) ?_ _) ?_ _
  case refine_1 => exact ⟨rfl, wordsKeptBut_of_regs rfl _⟩
  all_goals decide

end Dev

/-- A command row whose effect changes words at some offsets alone, those of serving a command among them, changes no more as a whole (R236, R238). -/
theorem onlyWords_of_run {s : State} {spec : CmdSpec} {src : Source} {dma : Option (List Byte)} {e : Entry} {i : Instr} {offs : List Nat} (hu : s.up)
    (hop : opcodes.contains spec.opcode = true) (hexec : ∀ s : State, exec i s = .next (s.onDev fun d => d.command spec src dma))
    (hown : commandWords ⊆ offs) (hrun : ∀ (c : Cmd) (cid : Nat) (d : Dev), Dev.onlyWords offs d (spec.run c cid d).1) (ha : s.dev.accepts spec src dma e) :
    ∃ d1 : Dev, exec i s = s.goesTo d1 ∧ s.dev.unitsKept d1 ∧ s.dev.wordsKeptBut d1 offs := by
  have hkept := (((s.dev.onlyWords_taken src e).mono hown).trans (hrun (Cmd.parse src e spec.params dma) (s.dev.cidOf src e) _)).trans
    ((Dev.onlyWords_answer _ (Cmd.parse src e spec.params dma) (s.dev.cidOf src e)).mono hown)
  exact ⟨_, (hexec s).trans (State.goesTo_of_accepts hu ha hop), hkept.units, hkept.words⟩

/-- The commands that only report, but for TIME_GET, leave all but the command words as they are: they answer from the state, and at most send a block to
the host. -/
theorem onlyWords_of_report (c : Cmd) (cid : Nat) (d : Dev) :
    ∀ spec ∈ [nopSpec, getInfoSpec, chStatusSpec, holdModelGetSpec, ptpStatusSpec, tickStatusSpec, shaftStatusSpec, profReadSpec, folStatusSpec, camReadSpec,
      grpStatusSpec, calStatusSpec, calSlotInfoSpec, storeInfoSpec, fltReadSpec, pwrStatusSpec, snapReadSpec],
      Dev.onlyWords commandWords d (spec.run c cid d).1 := by
  simp only [List.forall_mem_cons]
  refine ⟨?nop, ?getInfo, ?chStatus, ?holdModelGet, ?ptpStatus, ?tickStatus, ?shaftStatus, ?profRead, ?folStatus, ?camRead, ?grpStatus, ?calStatus, ?calSlotInfo,
    ?storeInfo, ?fltRead, ?pwrStatus, ?snapRead, nofun⟩
  case nop | getInfo | calStatus => exact d.onlyWords_self
  case pwrStatus => exact d.onlyWords_fresh
  case grpStatus => exact d.onlyWords_fresh.trans (Dev.onlyWords_toHost _ c _ _ _)
  case ptpStatus => exact (d.onlyWords_fresh.trans d.fresh.onlyWords_fresh).trans (Dev.onlyWords_toHost _ c _ _ _)
  case camRead =>
    cases hcam : Tbl.get? d.fo.cams c.idx with
    | none => simp only [camReadSpec, hcam]; exact d.onlyWords_self
    | some x => simp only [camReadSpec, hcam]; exact d.onlyWords_toHost c _ _ _
  case calSlotInfo =>
    cases hslot : d.validSlot (c.p 0 - 1) with
    | none => simp only [calSlotInfoSpec, hslot]; exact d.onlyWords_self
    | some x => simp only [calSlotInfoSpec, hslot]; exact d.onlyWords_self
  all_goals exact d.onlyWords_toHost c _ _ _

/-- Settles O30: each row is the one command operation on its spec, whose effect answers from the state; TIME_GET captures first (R102). -/
theorem reportsChangeNoUnit : Obligations.ReportsChangeNoUnit := by
  unfold Obligations.ReportsChangeNoUnit
  intro s src ok e hu own cap reports
  have hreport : ∀ {spec : CmdSpec} {dma : Option (List Byte)} {i : Instr}, opcodes.contains spec.opcode = true →
      (∀ s : State, exec i s = .next (s.onDev fun d => d.command spec src dma)) →
      (∀ (c : Cmd) (cid : Nat) (d : Dev), Dev.onlyWords commandWords d (spec.run c cid d).1) → reports spec dma i own :=
    fun hop hexec hrun => onlyWords_of_run hu hop hexec (fun _ h => h) hrun
  refine ⟨?nop, ?getInfo, ?chStatus, ?holdModelGet, ?ptpStatus, ?tickStatus, ?shaftStatus, ?profRead, ?folStatus, ?camRead, ?grpStatus, ?calStatus, ?calSlotInfo,
    ?storeInfo, ?fltRead, ?pwrStatus, ?snapRead, ?timeGet⟩
  case timeGet =>
    refine onlyWords_of_run hu (by decide) (fun _ => rfl) (List.subset_append_left _ _) fun c cid d => ?_
    exact (d.onlyWords_doCapture.mono (List.subset_append_right _ _)).trans ((Dev.onlyWords_toHost _ c _ _ _).mono (List.subset_append_left _ _))
  all_goals exact hreport (by decide) (fun _ => rfl) fun c cid d => onlyWords_of_report c cid d _ (by simp)

end Sys2Proof.Machine

/-! The register writes that have a row of their own (R225, R229, R53 to R56, R65, R102, R200, R279, R291, R305, R307, R328, R329, R348). -/

namespace Sys2Proof.Machine

namespace Dev

/-! ### Words that another write leaves -/

theorem get_setWord_other (d : Dev) {off : Nat} {f : Fld} (w : Word) (h : off ≠ f.off) : (d.setWord off w).get f = d.get f := by
  unfold get
  rw [d.word_setWord_other w h]

theorem bit_setWord_other (d : Dev) {off : Nat} {f : Fld} (w : Word) (h : off ≠ f.off) : (d.setWord off w).bit f = d.bit f := by
  unfold bit
  rw [d.get_setWord_other w h]

theorem get64_setWord_other (d : Dev) {off lo : Nat} (w : Word) (hlo : off ≠ lo) (hhi : off ≠ lo + 4) : (d.setWord off w).get64 lo = d.get64 lo := by
  unfold get64
  rw [d.word_setWord_other w hlo, d.word_setWord_other w hhi]

/-- A LO/HI pair holds 64 bits. -/
theorem get64_set64_same (d : Dev) (lo v : Nat) : (d.set64 lo v).get64 lo = v % 2 ^ 64 := by
  unfold get64 set64
  rw [word_setWord_other _ _ (by omega), word_setWord_same, word_setWord_same, BitVec.toNat_ofNat, BitVec.toNat_ofNat]
  omega

theorem word_set64_other (d : Dev) {lo off : Nat} (v : Nat) (hlo : lo ≠ off) (hhi : lo + 4 ≠ off) : (d.set64 lo v).word off = d.word off :=
  (word_setWord_other _ _ hhi).trans (word_setWord_other _ _ hlo)

theorem get64_set64_other (d : Dev) {lo lo' : Nat} (v : Nat) (h : lo ≠ lo' ∧ lo + 4 ≠ lo' ∧ lo ≠ lo' + 4) : (d.set64 lo v).get64 lo' = d.get64 lo' :=
  (get64_setWord_other _ _ h.2.1 (by omega)).trans (get64_setWord_other _ _ h.1 h.2.2)

theorem domainOn_setWord_other (d : Dev) {off : Nat} (w : Word) (h : off ≠ R.PWR_DOMAIN_STATUS) (n : Nat) : (d.setWord off w).domainOn n = d.domainOn n := by
  unfold domainOn
  rw [d.word_setWord_other w h]

/-! ### Live words that bring nothing with them -/

/-- Above the PTP registers a live word brings nothing with it. -/
theorem wordLive_of_ge (d : Dev) {off : Nat} (h : 0x30120 ≤ off) (w : Word) : d.wordLive off w = d.setWord off w := by
  have hbefore : d.wordBefore off = d := if_neg (by omega)
  unfold wordLive wordHook
  rw [hbefore, if_neg (by omega), if_neg (by omega), if_neg (by unfold R.FLT_CROAK_CFG; omega), if_neg (by unfold R.TIME_CTRL; omega),
    if_neg (by unfold R.PTP_CFG; omega), if_neg (by unfold R.PTP_CLASS; omega), if_neg (by omega)]

/-- Nor does MSn_CTRL. -/
theorem wordLive_msCtrl (d : Dev) {n : Nat} (hn : n < 4) (w : Word) : d.wordLive (R.MSn_CTRL n) w = d.setWord (R.MSn_CTRL n) w := by
  have hoff : R.MSn_CTRL n = 0x10000 + n * 0x1000 := rfl
  have hms : (0x10000 + n * 0x1000 - 0x10000) / 0x1000 = n := by omega
  have hbefore : d.wordBefore (R.MSn_CTRL n) = d := if_neg (by omega)
  unfold wordLive wordHook
  rw [hbefore, if_neg (by omega), if_pos (by omega)]
  simp only [hoff, hms, R.MSn_DPLL_CTRL, R.MSn_DPLL_PRIO, R.MSn_DPLL_LIMITS, R.MSn_HOLD_A0_HI, R.MSn_HOLD_A1_HI, R.MSn_HOLD_A2_HI, R.MSn_HOLD_D_HI,
    R.MSn_HOLD_EXT_TEMP, Nat.add_right_cancel_iff, Nat.reduceEqDiff, or_self, false_and, if_false]

/-- Nor does OUTn_CTRL, which holds no phase target and no slew rate. -/
theorem wordLive_outCtrl (d : Dev) {o : Nat} (ho : o < 32) (w : Word) : d.wordLive (R.OUTn_CTRL o) w = d.setWord (R.OUTn_CTRL o) w := by
  have hoff : R.OUTn_CTRL o = 0x20000 + o * 0x400 := rfl
  have hout : (0x20000 + o * 0x400 - 0x20000) / 0x400 = o := by omega
  have hbefore : d.wordBefore (R.OUTn_CTRL o) = d := by
    refine if_neg fun ⟨_, _, hphase⟩ => ?_
    rw [hoff, hout] at hphase
    simp only [R.OUTn_PHASE_LO, R.OUTn_PH_SLEW] at hphase
    omega
  unfold wordLive wordHook
  rw [hbefore, if_neg (by omega), if_neg (by omega), if_neg (by unfold R.FLT_CROAK_CFG; omega), if_neg (by unfold R.TIME_CTRL; omega),
    if_neg (by unfold R.PTP_CFG; omega), if_neg (by unfold R.PTP_CLASS; omega), if_neg (by omega)]

/-! ### What each register does as it is written (R254, Table 11-5) -/

section

variable (d : Dev) (new m val : Word)

theorem writeNow_sqTail {r : Nat} (hr : r < 4) : d.writeNow (R.CMD_SQr_TAIL r) new m val = d.doorbell r new.toNat := by
  have hoff : R.CMD_SQr_TAIL r = 0x410C + r * 0x40 := rfl
  have hring : (R.CMD_SQr_TAIL r - 0x4100) / 0x40 = r := by omega
  unfold writeNow
  dsimp only
  rw [if_neg (by omega), if_pos (by omega), hring, if_neg (by unfold R.CMD_CTRL; omega), if_pos rfl]

theorem writeNow_cqHead {r : Nat} (hr : r < 4) : d.writeNow (R.CMD_CQr_HEAD r) new m val = d.cqConsume r new.toNat := by
  have hoff : R.CMD_CQr_HEAD r = 0x4124 + r * 0x40 := rfl
  have hring : (R.CMD_CQr_HEAD r - 0x4100) / 0x40 = r := by omega
  unfold writeNow
  dsimp only
  rw [if_neg (by omega), if_pos (by omega), hring, if_neg (by unfold R.CMD_CTRL; omega), if_neg (by unfold R.CMD_SQr_TAIL; omega), if_pos rfl]

theorem writeNow_cmdCtrl :
    d.writeNow R.CMD_CTRL new m val = (List.range 4).foldl (fun d i => if m.getLsbD i then d.ringEnable i (val.getLsbD i) else d) d := rfl

theorem writeNow_fltAck : d.writeNow R.FLT_ACK new m val = if (m &&& val).getLsbD 0 then d.ackFault else d := rfl

theorem writeNow_capCtrl : d.writeNow R.TIME_CAP_CTRL new m val = if (m &&& val).getLsbD 0 then d.doCapture else d := rfl

theorem writeNow_msCtrl {n : Nat} (hn : n < 4) : d.writeNow (R.MSn_CTRL n) new m val = d.msCtrl n new m val := by
  have hoff : R.MSn_CTRL n = 0x10000 + n * 0x1000 := rfl
  have hms : (R.MSn_CTRL n - 0x10000) / 0x1000 = n := by omega
  unfold writeNow
  dsimp only
  rw [if_neg (by omega), if_neg (by omega), if_pos (by omega), hms, if_pos rfl]

theorem writeNow_rampCtrl {n : Nat} (hn : n < 4) : d.writeNow (R.MSn_RAMP_CTRL n) new m val = d.rampCtrl n (m &&& val) := by
  have hoff : R.MSn_RAMP_CTRL n = 0x10044 + n * 0x1000 := rfl
  have hms : (R.MSn_RAMP_CTRL n - 0x10000) / 0x1000 = n := by omega
  unfold writeNow
  dsimp only
  rw [if_neg (by omega), if_neg (by omega), if_pos (by omega), hms, if_neg (by unfold R.MSn_CTRL; omega), if_pos rfl]

theorem writeNow_outCtrl {o : Nat} (ho : o < 32) : d.writeNow (R.OUTn_CTRL o) new m val = d.outCtrl o new m val := by
  have hoff : R.OUTn_CTRL o = 0x20000 + o * 0x400 := rfl
  have hout : (R.OUTn_CTRL o - 0x20000) / 0x400 = o := by omega
  unfold writeNow
  dsimp only
  rw [if_neg (by omega), if_neg (by omega), if_neg (by omega), if_pos (by omega), hout, if_pos ⟨by omega, rfl⟩]

theorem writeNow_linkCtrl : d.writeNow R.LINK_CTRL new m val = d.linkCtrl new m := rfl

theorem writeNow_storeCtrl : d.writeNow R.STORE_CTRL new m val = d.storeCtrl new := rfl

theorem writeNow_storeRelease : d.writeNow R.STORE_RELEASE new m val = d.storeFree (m &&& val &&& 0xFFFF#32).toNat := rfl

theorem writeNow_mgmtCtrl :
    d.writeNow R.MGMT_CTRL new m val = if (m &&& val).getLsbD 2 then (d.mgmtCtrl new).cntClearGo else d.mgmtCtrl new := rfl

theorem writeNow_fieldCtrl {n : Nat} (hn : n < 8) : d.writeNow (R.FIELDn_CTRL n) new m val = d.fieldCtrl n new := by
  have hoff : R.FIELDn_CTRL n = 0x7E000 + n * 0x20 := rfl
  have hfield : (R.FIELDn_CTRL n - 0x7E000) / 0x20 = n := by omega
  unfold writeNow
  dsimp only
  rw [if_neg (by omega), if_neg (by omega), if_neg (by omega), if_neg (by omega), if_neg (by unfold R.TIME_CAP_CTRL; omega), if_neg (by unfold R.LINK_CTRL; omega),
    if_neg (by unfold R.STORE_CTRL; omega), if_neg (by unfold R.STORE_RELEASE; omega), if_neg (by unfold R.MGMT_CTRL; omega),
    if_neg (by unfold R.MGMT_SAMP_PERIOD; omega), if_pos (by omega), hfield]

theorem writeNow_dbgCheck :
    d.writeNow R.DBG_CHECK new m val = if (m &&& val).getLsbD 0 then (d.setWord R.DBG_CHECK new).checkerStart else d.setWord R.DBG_CHECK new := by
  rw [← d.wordLive_of_ge (off := R.DBG_CHECK) (by decide)]
  rfl

end

end Dev

/-! ### The registers of the rows -/

/-- A register whose accepted write acts at once and as a whole: `row_plain` speaks of it, and no field of it waits for a boundary. -/
def writesNow (off : Nat) : Bool := plainReg off && noRwp off

theorem writesNow_sqTail : ∀ r < 4, writesNow (R.CMD_SQr_TAIL r) = true := by decide +kernel

theorem writesNow_cqHead : ∀ r < 4, writesNow (R.CMD_CQr_HEAD r) = true := by decide +kernel

theorem writesNow_rampCtrl : ∀ n < 4, writesNow (R.MSn_RAMP_CTRL n) = true := by decide +kernel

theorem writesNow_outCtrl : ∀ o < 32, writesNow (R.OUTn_CTRL o) = true := by decide +kernel

theorem writesNow_unit : ∀ off ∈ [R.CMD_CTRL, R.FLT_ACK, R.TIME_CAP_CTRL, R.STORE_RELEASE, R.MGMT_CTRL, R.DBG_CHECK], writesNow off = true := by decide +kernel

theorem plainReg_msCtrl : ∀ n < 4, plainReg (R.MSn_CTRL n) = true := by decide +kernel

theorem plainReg_fieldCtrl : ∀ n < 8, plainReg (R.FIELDn_CTRL n) = true := by decide +kernel

theorem plainReg_linkCtrl : plainReg R.LINK_CTRL = true := by decide +kernel

theorem plainReg_storeCtrl : plainReg R.STORE_CTRL = true := by decide +kernel

/-- Such a write does at once what its register says, where no field of it waits for a boundary. -/
theorem rowWrite_now {d : Dev} {req : Requester} {off : Nat} {be : BitVec 4} {val : Word} (hp : writesNow off = true)
    (hb : be.getLsbD 0 = true) (h : d.takesWrite req off be val) :
    d.rowWrite req off be val = d.writeNow off (d.overlaid req off be val) (beMask be) val := by
  obtain ⟨hplain, hnone⟩ := Bool.and_eq_true_iff.1 hp
  exact (row_plain hplain h hb).trans (awaits_plain hnone _)

/-- What is written in an enabled first byte. -/
theorem beMask_and_bit {be : BitVec 4} (hb : be.getLsbD 0 = true) {i : Nat} (hi : i < 8) (val : Word) : (beMask be &&& val).getLsbD i = val.getLsbD i := by
  rw [BitVec.getLsbD_and, beMask_bit be hb i hi, Bool.true_and]

/-- Where every check of a row passes, none fails. -/
theorem any_eq_false_of_passes {cs : List (Status × Bool)} (h : ∀ c ∈ cs, c.2 = false) : (cs.any fun c => c.2) = false :=
  List.any_eq_false.2 fun c hc => by rw [h c hc]; exact Bool.false_ne_true

namespace Dev

/-! ### The rings -/

theorem doorbell_of_lt (d : Dev) {r v : Nat} (h : v < d.sqLen r) :
    d.doorbell r v = d.setRing r
      { d.ring r with sqTail := v, seen := (d.ring r).seen ++ List.replicate ((v + d.sqLen r - (d.ring r).sqTail % d.sqLen r) % d.sqLen r) d.now } :=
  if_neg (Nat.not_le_of_lt h)

theorem ring_setRing_other (d : Dev) {r i : Nat} (x : Ring) (h : r ≠ i) : (d.setRing r x).ring i = d.ring i := Tbl.getD_put_other _ _ _ h

/-- A pair that is written as it stands stays as it is (R229). -/
theorem ringEnable_same (d : Dev) {r : Nat} {on : Bool} (h : on = (d.ring r).enabled) : d.ringEnable r on = d := if_pos h

/-- Enabling a pair empties it; disabling it leaves it to drain (R229). -/
theorem ringEnable_on (d : Dev) {r : Nat} (hwas : (d.ring r).enabled = false) :
    d.ringEnable r true = d.setRing r
      { d.ring r with enabled := true, draining := false, err := 0, cqBad := false, sqHead := 0, sqTail := 0, cqTail := 0, cqHead := 0, seen := [] } := by
  unfold ringEnable
  simp only [hwas, Bool.true_eq_false, if_false, if_true]

theorem ringEnable_off (d : Dev) {r : Nat} (hwas : (d.ring r).enabled = true) :
    d.ringEnable r false = d.setRing r { d.ring r with enabled := false, draining := decide (0 < d.outstanding r) } := by
  unfold ringEnable
  simp only [hwas, Bool.false_eq_true, if_false]

/-- Enabling or disabling a pair touches no other (R229). -/
theorem ring_ringEnable_other (d : Dev) {r i : Nat} (on : Bool) (h : r ≠ i) : (d.ringEnable r on).ring i = d.ring i := by
  unfold ringEnable
  dsimp only
  split
  · rfl
  · split
    · exact d.ring_setRing_other _ h
    · exact d.ring_setRing_other _ h

/-- Pairs that are written as they stand stay as they are. -/
theorem foldl_ringEnable_same (on : Nat → Bool) (l : List Nat) (d : Dev) (h : ∀ i ∈ l, on i = (d.ring i).enabled) :
    l.foldl (fun d i => d.ringEnable i (on i)) d = d := by
  induction l with
  | nil => rfl
  | cons i l ih =>
    rw [List.foldl_cons, d.ringEnable_same (h i List.mem_cons_self)]
    exact ih fun j hj => h j (List.mem_cons_of_mem _ hj)

/-- A write that changes one pair does that alone. -/
theorem foldl_ringEnable_one (on : Nat → Bool) {r : Nat} {l : List Nat} (hl : l.Nodup) (hr : r ∈ l) (d : Dev)
    (h : ∀ i ∈ l, i ≠ r → on i = (d.ring i).enabled) : l.foldl (fun d i => d.ringEnable i (on i)) d = d.ringEnable r (on r) := by
  obtain ⟨before, after, rfl⟩ := List.append_of_mem hr
  have hnot : r ∉ before ∧ r ∉ after := by
    obtain ⟨-, hafter, hdisjoint⟩ := List.nodup_append.1 hl
    exact ⟨fun hmem => hdisjoint r hmem r List.mem_cons_self rfl, (List.nodup_cons.1 hafter).1⟩
  have hbefore : ∀ i ∈ before, on i = (d.ring i).enabled := fun i hi => h i (List.mem_append_left _ hi) (ne_of_mem_of_not_mem hi hnot.1)
  rw [List.foldl_append, foldl_ringEnable_same on before d hbefore, List.foldl_cons]
  refine foldl_ringEnable_same on after _ fun i hi => ?_
  have hne : i ≠ r := ne_of_mem_of_not_mem hi hnot.2
  rw [d.ring_ringEnable_other _ hne.symm]
  exact h i (List.mem_append_right _ (List.mem_cons_of_mem _ hi)) hne

/-- An accepted write of RING_EN in an enabled first byte: each pair as its bit says (R229). -/
theorem writeNow_ringEn (d : Dev) (new : Word) {be : BitVec 4} (hb : be.getLsbD 0 = true) (val : Word) :
    d.writeNow R.CMD_CTRL new (beMask be) val = (List.range 4).foldl (fun d i => d.ringEnable i (val.getLsbD i)) d := by
  have hrings : List.range 4 = [0, 1, 2, 3] := rfl
  rw [d.writeNow_cmdCtrl, hrings]
  simp only [List.foldl_cons, List.foldl_nil, beMask_bit be hb 0 (by decide), beMask_bit be hb 1 (by decide), beMask_bit be hb 2 (by decide),
    beMask_bit be hb 3 (by decide), if_true]

/-! ### The capture -/

/-- What a capture shows (R102). -/
theorem doCapture_shows (d : Dev) :
    d.doCapture.get64 R.TIME_CAP_SEC_LO = secOf d.tod16 % 2 ^ 64 ∧ d.doCapture.word R.TIME_CAP_NS = BitVec.ofNat 32 (nsOf d.tod16) ∧
    d.doCapture.word R.TIME_CAP_FRAC = BitVec.ofNat 32 (fracOf d.tod16) ∧ d.doCapture.get64 R.TIME_CAP_TICK_LO = d.tick.index % 2 ^ 64 ∧
    d.doCapture.get64 R.TIME_CAP_OPTIME_LO = d.optime % 2 ^ 64 ∧ d.doCapture.word R.TIME_CAP_PCC = BitVec.ofNat 32 d.evt.pcc := by
  unfold doCapture
  dsimp only
  simp (disch := decide) only [get64_setWord_other, get64_set64_other, get64_set64_same, word_setWord_other, word_set64_other, word_setWord_same, true_and]
  exact ⟨rfl, rfl, rfl⟩

/-! ### The masters -/

theorem surveying_setWord_msCtrl (d : Dev) {n : Nat} (w : Word) : (d.setWord (R.MSn_CTRL n) w).surveying n = d.surveying n := by
  unfold surveying
  rw [d.bit_setWord_other (f := F.MSn_STATUS.SURVEYING n) w (by simp [F.MSn_STATUS.SURVEYING, R.MSn_CTRL, R.MSn_STATUS])]
  rfl

/-- A start with a band, or without the domain of the MS, is under way from now on (R31, R35, R331). -/
theorem msStartGo_of_band {d : Dev} {n b : Nat} (hband : d.selectBand n = some b) :
    (d.msStartGo n).2 = true ∧ ((d.msStartGo n).1.msOf n).acqAt = some d.now := by
  unfold msStartGo
  split
  · exact ⟨rfl, congrArg Ms.acqAt (Tbl.getD_put_same _ _ _ _)⟩
  · rw [hband]
    exact ⟨rfl, congrArg Ms.acqAt (Tbl.getD_put_same _ _ _ _)⟩

section

variable {d : Dev} {n : Nat} (hn : n < 4) (new : Word) {m val : Word} (hm : m.getLsbD 0 = true)

include hn hm

/-- EN written as 1 on an MS that stands still starts it (R56). -/
theorem msCtrl_of_start (hval : val.getLsbD 0 = true)
    (hoff : (d.setWord (R.MSn_CTRL n) ((F.MSn_CTRL.EN n).into new (d.get (F.MSn_CTRL.EN n)))).bit (F.MSn_CTRL.EN n) = false) (hsurvey : d.surveying n = false) :
    d.msCtrl n new m val = ((d.setWord (R.MSn_CTRL n) ((F.MSn_CTRL.EN n).into new (d.get (F.MSn_CTRL.EN n)))).msStartGo n).1 := by
  unfold msCtrl
  simp only [d.wordLive_msCtrl hn, hm, hval, hoff, d.surveying_setWord_msCtrl, hsurvey, Bool.not_true, Bool.false_eq_true, if_false, if_true, or_self]

/-- EN written as 0 on one that feeds no running channel stops it (R56). -/
theorem msCtrl_of_stop (hval : val.getLsbD 0 = false)
    (hon : (d.setWord (R.MSn_CTRL n) ((F.MSn_CTRL.EN n).into new (d.get (F.MSn_CTRL.EN n)))).bit (F.MSn_CTRL.EN n) = true)
    (huse : (d.setWord (R.MSn_CTRL n) ((F.MSn_CTRL.EN n).into new (d.get (F.MSn_CTRL.EN n)))).msInUse n = false) :
    d.msCtrl n new m val = (d.setWord (R.MSn_CTRL n) ((F.MSn_CTRL.EN n).into new (d.get (F.MSn_CTRL.EN n)))).msDisable n .state := by
  unfold msCtrl
  simp only [d.wordLive_msCtrl hn, hm, hval, hon, huse, Bool.not_true, Bool.false_eq_true, if_false, or_self]

end

/-- A ramp start that no check stops is armed for its boundary (R53). -/
theorem rampCtrl_of_start {d : Dev} {n : Nat} {val : Word} (hstart : val.getLsbD 0 = true) (habort : val.getLsbD 1 = false)
    (hchecks : ∀ c ∈ d.rampChecks n, c.2 = false) (hruns : d.tick.running = true)
    (hnear : d.get64 (R.MSn_RAMP_TICK_LO n) = 0 ∨ d.tooNear (d.get64 (R.MSn_RAMP_TICK_LO n)) = false) :
    d.rampCtrl n val = d.arm (d.bndOf (d.get64 (R.MSn_RAMP_TICK_LO n))) (.rampStart n) none := by
  have hpass := any_eq_false_of_passes hchecks
  have hfar : (decide (d.get64 (R.MSn_RAMP_TICK_LO n) ≠ 0) && d.tooNear (d.get64 (R.MSn_RAMP_TICK_LO n))) = false := by
    rcases hnear with h | h <;> simp [h]
  unfold rampCtrl
  simp only [hstart, habort, hpass, hruns, hfar, Bool.not_true, Bool.false_eq_true, if_false, Bool.or_self]

/-- An abort ends a ramp that is no profile spread (R54, R55). -/
theorem rampCtrl_of_abort {d : Dev} {n : Nat} {val : Word} (habort : val.getLsbD 1 = true) (hstart : val.getLsbD 0 = false) {z : Ramp}
    (hramp : (d.msOf n).ramp = some z) (hspread : z.profile = false) :
    d.rampCtrl n val =
      let t := d.vcoMark n
      (((t.showWord n (d.rampWord n z) (d.msWord n).mod).setMs n { t.msOf n with ramp := none, exc := d.excFold n z }).set
        (F.MSn_STATUS.RAMPING n) 0).raise (F.MSn_EVENT2.RAMP_ABORTED n) := by
  unfold rampCtrl rampAbortGo
  simp only [hstart, habort, hramp, hspread, Bool.not_false, Bool.false_eq_true, if_false, if_true]

/-! ### The outputs -/

section

variable {d : Dev} {o : Nat} (ho : o < 32) (new : Word) {m val : Word} (hm : m.getLsbD 0 = true)

include ho hm

/-- EN written as 1 starts a channel that no check stops, for the boundary in OUTn_START_TICK (R65, R67). -/
theorem outCtrl_of_start (hval : val.getLsbD 0 = true)
    (hchecks : ∀ c ∈ (d.setWord (R.OUTn_CTRL o) ((F.OUTn_CTRL.EN o).into new (d.get (F.OUTn_CTRL.EN o)))).chStartChecks o
      (d.get64 (R.OUTn_START_TICK_LO o)), c.2 = false) :
    d.outCtrl o new m val =
      (d.setWord (R.OUTn_CTRL o) ((F.OUTn_CTRL.EN o).into new (d.get (F.OUTn_CTRL.EN o)))).chStartGo o (d.get64 (R.OUTn_START_TICK_LO o)) := by
  have hpass := any_eq_false_of_passes hchecks
  have hk : ∀ w, (d.setWord (R.OUTn_CTRL o) w).get64 (R.OUTn_START_TICK_LO o) = d.get64 (R.OUTn_START_TICK_LO o) := fun w =>
    d.get64_setWord_other w (by unfold R.OUTn_CTRL R.OUTn_START_TICK_LO; omega) (by unfold R.OUTn_CTRL R.OUTn_START_TICK_LO; omega)
  unfold outCtrl
  simp only [d.wordLive_outCtrl ho, hm, hval, hk, hpass, Bool.not_true, Bool.false_eq_true, if_false, if_true]

/-- EN written as 0 stops it (R65, R68). -/
theorem outCtrl_of_stop (hval : val.getLsbD 0 = false) :
    d.outCtrl o new m val = (d.setWord (R.OUTn_CTRL o) ((F.OUTn_CTRL.EN o).into new (d.get (F.OUTn_CTRL.EN o)))).chStop o := by
  unfold outCtrl
  simp only [d.wordLive_outCtrl ho, hm, hval, Bool.not_true, Bool.false_eq_true, if_false]

end

/-- A stop of a running channel waits for the falling edge of its clock (R68). -/
theorem chStop_of_active {d : Dev} {o : Nat} (hst : (d.outOf o).st = .running) (hsub : (d.outOf o).sub = .active) (hgoal : (d.outOf o).goal = none) :
    d.chStop o = (d.setCh o { d.outOf o with st := .stopping, stopReq := true, switchAt := d.now }).fallWait o false := by
  unfold chStop chStopK
  simp only [hst, hsub, hgoal, ne_eq, not_true_eq_false, reduceCtorEq, or_self, Option.isSome_none, Bool.false_eq_true, if_false]

/-! ### Link, store, field outputs, cores and checkers -/

section

variable (d : Dev) (new : Word)

theorem linkCtrl_of_enabled {m : Word} (hon : (d.setWord R.LINK_CTRL new).bit F.LINK_CTRL.EN = true) : d.linkCtrl new m = d.setWord R.LINK_CTRL new := by
  unfold linkCtrl linkEnable
  simp only [d.wordLive_of_ge (off := R.LINK_CTRL) (by decide), hon, if_true, ite_self]

theorem linkCtrl_of_disabled {m : Word} (hm : m.getLsbD 0 = true) (hoff : (d.setWord R.LINK_CTRL new).bit F.LINK_CTRL.EN = false) :
    d.linkCtrl new m =
      let d2 := (d.setWord R.LINK_CTRL new).linkFall true
      ({ d2 with link := { d2.link with down := false } }).linkLive := by
  unfold linkCtrl linkEnable
  simp only [d.wordLive_of_ge (off := R.LINK_CTRL) (by decide), hm, hoff, if_true, Bool.false_eq_true, if_false]

theorem storeCtrl_of_enable (hwas : d.bit F.STORE_CTRL.EN = false) (hon : (d.setWord R.STORE_CTRL new).bit F.STORE_CTRL.EN = true)
    (hstate : (d.setWord R.STORE_CTRL new).storeState = 0) :
    d.storeCtrl new =
      let d1 := d.setWord R.STORE_CTRL new
      ({ d1 with store := { d1.store with perstAt := some d.now } }).storeTo 1 := by
  unfold storeCtrl storeEnable
  simp only [d.wordLive_of_ge (off := R.STORE_CTRL) (by decide), hwas, hon, hstate, Bool.true_eq_false, Bool.false_eq_true, if_false, if_true]
  rfl

theorem storeCtrl_of_disable (hwas : d.bit F.STORE_CTRL.EN = true) (hoff : (d.setWord R.STORE_CTRL new).bit F.STORE_CTRL.EN = false) :
    d.storeCtrl new = (d.setWord R.STORE_CTRL new).storeDisable := by
  unfold storeCtrl
  simp only [d.wordLive_of_ge (off := R.STORE_CTRL) (by decide), hwas, hoff, Bool.false_eq_true, if_false, if_true]

theorem fieldCtrl_of_enabled {n : Nat} (hon : new.getLsbD 0 = true) (hdom : d.domainOn 21 = true) : d.fieldCtrl n new = d.setWord (R.FIELDn_CTRL n) new := by
  have hge : 0x30120 ≤ R.FIELDn_CTRL n := by unfold R.FIELDn_CTRL; omega
  exact (if_pos ⟨hon, hdom⟩).trans (d.wordLive_of_ge hge new)

theorem fieldCtrl_of_disabled {n : Nat} (hoff : new.getLsbD 0 = false ∨ d.domainOn 21 = false) :
    d.fieldCtrl n new =
      let d1 := d.setWord (R.FIELDn_CTRL n) ((F.FIELDn_CTRL.EN n).into new 0)
      ({ d1 with field := { d1.field with pulses := Tbl.del d1.field.pulses n } }).fieldLevel n false := by
  have hge : 0x30120 ≤ R.FIELDn_CTRL n := by unfold R.FIELDn_CTRL; omega
  unfold fieldCtrl
  rw [if_neg fun ⟨hon, hdom⟩ => hoff.elim (by simp [hon]) (by simp [hdom]), d.wordLive_of_ge hge]

theorem checkerStart_of_idle (hidle : d.flt.checking = false) (htarget : (d.setWord R.DBG_CHECK new).get F.DBG_CHECK.TARGET ≠ 7) (hdom : d.domainOn 23 = true) :
    (d.setWord R.DBG_CHECK new).checkerStart =
      let d1 := d.setWord R.DBG_CHECK new
      ({ d1 with flt := { d1.flt with checking := true } }).set F.DBG_CHECK_RESULT.DONE 0 := by
  refine if_neg fun h => ?_
  rw [d.domainOn_setWord_other new (by decide), hdom, setWord_flt, hidle] at h
  rcases h with h | h | h
  · cases h
  · exact htarget h
  · cases h

/-- SAMP_EN written as 1 while sampling is stopped restarts it (R329). -/
theorem mgmtCtrl_of_restart (hwas : d.mgmtCount.bit F.MGMT_CTRL.SAMP_EN = false)
    (hon : (d.mgmtCount.setWord R.MGMT_CTRL (new &&& 0x7B#32)).bit F.MGMT_CTRL.SAMP_EN = true) :
    d.mgmtCtrl new = (d.mgmtCount.setWord R.MGMT_CTRL (new &&& 0x7B#32)).sampRestart :=
  if_pos ⟨by rw [hwas]; rfl, hon⟩

theorem mgmtCtrl_of_no_restart (h : d.mgmtCount.bit F.MGMT_CTRL.SAMP_EN = true ∨
    (d.mgmtCount.setWord R.MGMT_CTRL (new &&& 0x7B#32)).bit F.MGMT_CTRL.SAMP_EN = false) :
    d.mgmtCtrl new = d.mgmtCount.setWord R.MGMT_CTRL (new &&& 0x7B#32) :=
  if_neg fun ⟨hwas, hon⟩ => h.elim (fun hset => by simp [hset] at hwas) fun hclear => Bool.false_ne_true (hclear.symm.trans hon)

end

end Dev

/-! ### The rows -/

section

variable {d : Dev} {req : Requester} {be : BitVec 4} {val : Word} (hb : be.getLsbD 0 = true)

include hb

theorem cmdSqTail_of_takes {r : Nat} (hr : r < 4) (h : d.takesWrite .host (R.CMD_SQr_TAIL r) be val) :
    cmdSqTail r be val d = d.doorbell r (d.overlaid .host (R.CMD_SQr_TAIL r) be val).toNat :=
  (if_pos hr).trans ((rowWrite_now (writesNow_sqTail r hr) hb h).trans (d.writeNow_sqTail _ _ _ hr))

theorem cmdCqHead_of_takes {r : Nat} (hr : r < 4) (h : d.takesWrite .host (R.CMD_CQr_HEAD r) be val) :
    cmdCqHead r be val d = d.cqConsume r (d.overlaid .host (R.CMD_CQr_HEAD r) be val).toNat :=
  (if_pos hr).trans ((rowWrite_now (writesNow_cqHead r hr) hb h).trans (d.writeNow_cqHead _ _ _ hr))

theorem ringEn_of_takes (h : d.takesWrite .host R.CMD_CTRL be val) :
    ringEn be val d = (List.range 4).foldl (fun d i => d.ringEnable i (val.getLsbD i)) d :=
  (rowWrite_now (writesNow_unit _ (by decide)) hb h).trans (d.writeNow_ringEn _ hb val)

theorem fltAckWrite_of_takes (h : d.takesWrite req R.FLT_ACK be val) (hval : val.getLsbD 0 = true) : fltAckWrite req be val d = d.ackFault :=
  (rowWrite_now (writesNow_unit _ (by decide)) hb h).trans
    ((d.writeNow_fltAck _ _ _).trans (if_pos ((beMask_and_bit hb (by decide) val).trans hval)))

theorem capture_of_takes (h : d.takesWrite req R.TIME_CAP_CTRL be val) (hval : val.getLsbD 0 = true) : capture req be val d = d.doCapture :=
  (rowWrite_now (writesNow_unit _ (by decide)) hb h).trans
    ((d.writeNow_capCtrl _ _ _).trans (if_pos ((beMask_and_bit hb (by decide) val).trans hval)))

theorem msCtrlEn_of_takes {n : Nat} (hn : n < 4) (h : d.takesWrite req (R.MSn_CTRL n) be val) :
    msCtrlEn req n be val d = d.awaits req (R.MSn_CTRL n) be val (d.msCtrl n (d.overlaid req (R.MSn_CTRL n) be val) (beMask be) val) :=
  (if_pos hn).trans ((row_plain (plainReg_msCtrl n hn) h hb).trans (congrArg _ (d.writeNow_msCtrl _ _ _ hn)))

theorem rampCtrl_of_takes {n : Nat} (hn : n < 4) (h : d.takesWrite req (R.MSn_RAMP_CTRL n) be val) :
    d.rowWrite req (R.MSn_RAMP_CTRL n) be val = d.rampCtrl n (beMask be &&& val) :=
  (rowWrite_now (writesNow_rampCtrl n hn) hb h).trans (d.writeNow_rampCtrl _ _ _ hn)

theorem outCtrlEn_of_takes {o : Nat} (ho : o < 32) (h : d.takesWrite req (R.OUTn_CTRL o) be val) :
    outCtrlEn req o be val d = d.outCtrl o (d.overlaid req (R.OUTn_CTRL o) be val) (beMask be) val :=
  (if_pos ho).trans ((rowWrite_now (writesNow_outCtrl o ho) hb h).trans (d.writeNow_outCtrl _ _ _ ho))

theorem linkCtrlEn_of_takes (h : d.takesWrite req R.LINK_CTRL be val) :
    linkCtrlEn req be val d = d.awaits req R.LINK_CTRL be val (d.linkCtrl (d.overlaid req R.LINK_CTRL be val) (beMask be)) :=
  (row_plain plainReg_linkCtrl h hb).trans (congrArg _ (d.writeNow_linkCtrl _ _ _))

theorem storeCtrlEn_of_takes (h : d.takesWrite req R.STORE_CTRL be val) :
    storeCtrlEn req be val d = d.awaits req R.STORE_CTRL be val (d.storeCtrl (d.overlaid req R.STORE_CTRL be val)) :=
  (row_plain plainReg_storeCtrl h hb).trans (congrArg _ (d.writeNow_storeCtrl _ _ _))

theorem storeRelease_of_takes (h : d.takesWrite req R.STORE_RELEASE be val) :
    storeRelease req be val d = d.storeFree (beMask be &&& val &&& 0xFFFF#32).toNat :=
  (rowWrite_now (writesNow_unit _ (by decide)) hb h).trans (d.writeNow_storeRelease _ _ _)

theorem fieldCtrlEn_of_takes {n : Nat} (hn : n < 8) (h : d.takesWrite req (R.FIELDn_CTRL n) be val) :
    fieldCtrlEn req n be val d = d.awaits req (R.FIELDn_CTRL n) be val (d.fieldCtrl n (d.overlaid req (R.FIELDn_CTRL n) be val)) :=
  (if_pos hn).trans ((row_plain (plainReg_fieldCtrl n hn) h hb).trans (congrArg _ (d.writeNow_fieldCtrl _ _ _ hn)))

theorem cntClear_of_takes (h : d.takesWrite req R.MGMT_CTRL be val) (hval : val.getLsbD 2 = true) :
    cntClear req be val d = (d.mgmtCtrl (d.overlaid req R.MGMT_CTRL be val)).cntClearGo :=
  (rowWrite_now (writesNow_unit _ (by decide)) hb h).trans
    ((d.writeNow_mgmtCtrl _ _ _).trans (if_pos ((beMask_and_bit hb (by decide) val).trans hval)))

theorem sampEn_of_takes (h : d.takesWrite req R.MGMT_CTRL be val) (hval : val.getLsbD 2 = false) :
    sampEn req be val d = d.mgmtCtrl (d.overlaid req R.MGMT_CTRL be val) :=
  (rowWrite_now (writesNow_unit _ (by decide)) hb h).trans
    ((d.writeNow_mgmtCtrl _ _ _).trans (if_neg (ne_true_of_eq_false ((beMask_and_bit hb (by decide) val).trans hval))))

theorem checkerTest_of_takes (h : d.takesWrite req R.DBG_CHECK be val) (hval : val.getLsbD 0 = true) :
    checkerTest req be val d = (d.setWord R.DBG_CHECK (d.overlaid req R.DBG_CHECK be val)).checkerStart :=
  (rowWrite_now (writesNow_unit _ (by decide)) hb h).trans
    ((d.writeNow_dbgCheck _ _ _).trans (if_pos ((beMask_and_bit hb (by decide) val).trans hval)))

end

/-- A row that acts on an up state goes where its effect on the device leads. -/
theorem State.goesTo_of_onDev {s : State} (hu : s.up) {f : Dev → Dev} {d1 : Dev} (h : f s.dev = d1) :
    Host.Outcome.next (φ := Fault) (ρ := Refusal) (s.onDev f) = s.goesTo d1 := (State.onDev_of_up hu f).trans (congrArg s.goesTo h)

/-- As `goesTo_of_onDev`, for a row of an object that the device has. -/
theorem State.goesTo_of_onDevFor {s : State} (hu : s.up) {p : Prop} [Decidable p] (hp : p) {f : Dev → Dev} {d1 : Dev} (h : f s.dev = d1) :
    Host.Outcome.next (φ := Fault) (ρ := Refusal) (s.onDevFor (decide p) f) = s.goesTo d1 :=
  (State.onDevFor_of_up hu f (decide_eq_true hp)).trans (congrArg s.goesTo h)

/-- Settles O33. Each row is an accepted write of one register, whose fields act at once as the register says (R254, Table 11-5); what the register does
turns on the bits written and on the state of its block. -/
theorem registerRowsAct : Obligations.RegisterRowsAct := by
  unfold Obligations.RegisterRowsAct
  intro s req be val hu hb d m
  have hbit : ∀ {i : Nat}, i < 8 → (m &&& val).getLsbD i = val.getLsbD i := fun hi => beMask_and_bit hb hi val
  have hfirst : m.getLsbD 0 = true := beMask_bit be hb 0 (by decide)
  refine ⟨fun r hr h => ⟨fun hv => ?tail, fun hv => ?badTail⟩, fun r hr h => ⟨fun hv => ?head, fun hv => ?badHead⟩, fun h => ?ringEn,
    fun r hr h hothers => ⟨fun hval hwas => ?enable, fun hval hwas => ?disable⟩, fun h hval => ?ack, fun h hval => ⟨?capture, d.doCapture_shows⟩,
    fun n hn h => ⟨?msCtrl, fun hval hoff hsurvey b hband => ⟨?msStart, Dev.msStartGo_of_band hband⟩, fun hval hon huse => ?msStop⟩,
    fun n hn h hval => ⟨?rampCtrl, fun habort hchecks hruns hnear => ?rampStart⟩, fun n hn h hval => ⟨?abortCtrl, fun z hstart hramp hspread => ?rampAbort⟩,
    fun o ho h => ⟨?outCtrl, fun hval hchecks => ?outStart, fun hval => ?outStop, fun hval hst hsub hgoal => ?outFall⟩,
    fun h => ⟨fun hon => ?linkOn, fun hoff => ?linkOff⟩, fun h => ⟨?storeCtrl, fun hwas hon hstate => ?storeOn, fun hwas hoff => ?storeOff⟩,
    fun h => ⟨?release, fun hws => ?freed⟩, fun n hn h => ⟨fun hon hdom => ?fieldOn, fun hoff => ?fieldOff⟩, fun h hval => ?clear,
    fun h hval => ⟨fun hwas hon => ?restart, fun hkeeps => ?samp⟩, fun h hval => ⟨?checker, fun hidle htarget hdom => ?checkerStart⟩⟩
  case tail => exact State.goesTo_of_onDevFor hu hr ((cmdSqTail_of_takes hb hr h).trans (d.doorbell_of_lt hv))
  case badTail => exact State.goesTo_of_onDevFor hu hr ((cmdSqTail_of_takes hb hr h).trans (if_pos hv))
  case head => exact State.goesTo_of_onDevFor hu hr ((cmdCqHead_of_takes hb hr h).trans (if_neg (Nat.not_le_of_lt hv)))
  case badHead => exact State.goesTo_of_onDevFor hu hr ((cmdCqHead_of_takes hb hr h).trans (if_pos hv))
  case ringEn => exact State.goesTo_of_onDev hu (ringEn_of_takes hb h)
  case enable =>
    have hone := Dev.foldl_ringEnable_one val.getLsbD List.nodup_range (List.mem_range.2 hr) d fun i hi => hothers i (List.mem_range.1 hi)
    refine State.goesTo_of_onDev hu ((ringEn_of_takes hb h).trans (hone.trans ?_))
    rw [hval, d.ringEnable_on hwas]
  case disable =>
    have hone := Dev.foldl_ringEnable_one val.getLsbD List.nodup_range (List.mem_range.2 hr) d fun i hi => hothers i (List.mem_range.1 hi)
    refine State.goesTo_of_onDev hu ((ringEn_of_takes hb h).trans (hone.trans ?_))
    rw [hval, d.ringEnable_off hwas]
  case ack => exact State.goesTo_of_onDev hu (fltAckWrite_of_takes hb h hval)
  case capture => exact State.goesTo_of_onDev hu (capture_of_takes hb h hval)
  case msCtrl => exact State.goesTo_of_onDevFor hu hn (msCtrlEn_of_takes hb hn h)
  case msStart => exact State.goesTo_of_onDevFor hu hn ((msCtrlEn_of_takes hb hn h).trans (congrArg _ (Dev.msCtrl_of_start hn _ hfirst hval hoff hsurvey)))
  case msStop => exact State.goesTo_of_onDevFor hu hn ((msCtrlEn_of_takes hb hn h).trans (congrArg _ (Dev.msCtrl_of_stop hn _ hfirst hval hon huse)))
  case rampCtrl => exact State.goesTo_of_onDevFor hu hn ((if_pos hn).trans (rampCtrl_of_takes hb hn h))
  case rampStart =>
    exact State.goesTo_of_onDevFor hu hn ((if_pos hn).trans ((rampCtrl_of_takes hb hn h).trans
      (Dev.rampCtrl_of_start ((hbit (by decide)).trans hval) ((hbit (by decide)).trans habort) hchecks hruns hnear)))
  case abortCtrl => exact State.goesTo_of_onDevFor hu hn ((if_pos hn).trans (rampCtrl_of_takes hb hn h))
  case rampAbort =>
    exact State.goesTo_of_onDevFor hu hn ((if_pos hn).trans ((rampCtrl_of_takes hb hn h).trans
      (Dev.rampCtrl_of_abort ((hbit (by decide)).trans hval) ((hbit (by decide)).trans hstart) hramp hspread)))
  case outCtrl => exact State.goesTo_of_onDevFor hu ho (outCtrlEn_of_takes hb ho h)
  case outStart => exact State.goesTo_of_onDevFor hu ho ((outCtrlEn_of_takes hb ho h).trans (Dev.outCtrl_of_start ho _ hfirst hval hchecks))
  case outStop => exact State.goesTo_of_onDevFor hu ho ((outCtrlEn_of_takes hb ho h).trans (Dev.outCtrl_of_stop ho _ hfirst hval))
  case outFall =>
    exact State.goesTo_of_onDevFor hu ho ((outCtrlEn_of_takes hb ho h).trans ((Dev.outCtrl_of_stop ho _ hfirst hval).trans (Dev.chStop_of_active hst hsub hgoal)))
  case linkOn => exact State.goesTo_of_onDev hu ((linkCtrlEn_of_takes hb h).trans (congrArg _ (d.linkCtrl_of_enabled _ hon)))
  case linkOff => exact State.goesTo_of_onDev hu ((linkCtrlEn_of_takes hb h).trans (congrArg _ (d.linkCtrl_of_disabled _ hfirst hoff)))
  case storeCtrl => exact State.goesTo_of_onDev hu (storeCtrlEn_of_takes hb h)
  case storeOn => exact State.goesTo_of_onDev hu ((storeCtrlEn_of_takes hb h).trans (congrArg _ (d.storeCtrl_of_enable _ hwas hon hstate)))
  case storeOff => exact State.goesTo_of_onDev hu ((storeCtrlEn_of_takes hb h).trans (congrArg _ (d.storeCtrl_of_disable _ hwas hoff)))
  case release => exact State.goesTo_of_onDev hu (storeRelease_of_takes hb h)
  case freed => exact State.goesTo_of_onDev hu ((storeRelease_of_takes hb h).trans (if_neg hws))
  case fieldOn => exact State.goesTo_of_onDevFor hu hn ((fieldCtrlEn_of_takes hb hn h).trans (congrArg _ (d.fieldCtrl_of_enabled _ hon hdom)))
  case fieldOff => exact State.goesTo_of_onDevFor hu hn ((fieldCtrlEn_of_takes hb hn h).trans (congrArg _ (d.fieldCtrl_of_disabled _ hoff)))
  case clear => exact State.goesTo_of_onDev hu (cntClear_of_takes hb h hval)
  case restart => exact State.goesTo_of_onDev hu ((sampEn_of_takes hb h hval).trans (d.mgmtCtrl_of_restart _ hwas hon))
  case samp => exact State.goesTo_of_onDev hu ((sampEn_of_takes hb h hval).trans (d.mgmtCtrl_of_no_restart _ hkeeps))
  case checker => exact State.goesTo_of_onDev hu (checkerTest_of_takes hb h hval)
  case checkerStart => exact State.goesTo_of_onDev hu ((checkerTest_of_takes hb h hval).trans (d.checkerStart_of_idle _ hidle htarget hdom))

end Sys2Proof.Machine

/-! Interrupts 4 to 7 stay exact (R267), what every step keeps holds at reset, and what follows from a row ends: a quiet device stays as it is. -/

namespace Sys2Proof.Machine

/-! ### Vectors 4 to 7 -/

namespace Dev

/-- Vectors that are sent, or become pending bits, touch nothing else (R267). -/
def vectorsOnly (d d1 : Dev) : Prop := d1 = { d with msix := d1.msix, out := d1.out }

theorem sendVector_vectorsOnly (d : Dev) (v : Nat) : d.vectorsOnly (d.sendVector v) := by
  unfold sendVector
  split <;> rfl

theorem vectorsOnly.trans {d d1 d2 : Dev} (h1 : d.vectorsOnly d1) (h2 : d1.vectorsOnly d2) : d.vectorsOnly d2 := by
  unfold vectorsOnly at *
  rw [h1] at h2
  exact h2

theorem sendVectors_vectorsOnly (d : Dev) (v : BitVec 4) : d.vectorsOnly (d.sendVectors v) := by
  have hone : ∀ (d : Dev) (i : Nat), d.vectorsOnly (if v.getLsbD i then d.sendVector (4 + i) else d) := fun d i => by
    split
    · exact d.sendVector_vectorsOnly _
    · rfl
  exact (hone d 0).trans ((hone _ 1).trans ((hone _ 2).trans (hone _ 3)))

/-- The conditions of vectors 4 to 7 read the registers and the record handled, not what was sent (Table 11-6). -/
theorem vectorsOnly.irqConds {d d1 : Dev} (h : d.vectorsOnly d1) : d1.irqConds = d.irqConds := by
  rw [h]
  rfl

/-- The stage sends those enabled vectors whose conditions are new, and nothing else (R267). -/
theorem irqStage_vectorsOnly (d : Dev) :
    Dev.vectorsOnly { d with glb := { d.glb with irqSent := d.irqConds &&& (d.glb.irqSent ||| d.irqEnables) } } d.irqStage :=
  sendVectors_vectorsOnly _ _

/-- What the stage leaves as sent has true conditions, and holds every enabled one of these: `irqOk` in bits. -/
theorem sent_exact {w : Nat} (c e sent : BitVec w) : (c &&& (sent ||| e)) &&& ~~~c = 0 ∧ c &&& e &&& ~~~(c &&& (sent ||| e)) = 0 := by
  constructor
  all_goals
    ext i hi
    simp only [BitVec.getElem_and, BitVec.getElem_or, BitVec.getElem_not, BitVec.ofNat_eq_ofNat, BitVec.getElem_zero]
    grind

/-- Where what was sent is exact, the stage leaves it so. -/
theorem sent_fixed {w : Nat} {c e sent : BitVec w} (hsent : sent &&& ~~~c = 0) (hdue : c &&& e &&& ~~~sent = 0) : c &&& (sent ||| e) = sent := by
  ext i hi
  have hs := congrArg (·[i]) hsent
  have hd := congrArg (·[i]) hdue
  simp only [BitVec.getElem_and, BitVec.getElem_or, BitVec.getElem_not, BitVec.ofNat_eq_ofNat, BitVec.getElem_zero] at hs hd ⊢
  grind

theorem irqOk_irqStage (d : Dev) : d.irqStage.irqOk := by
  unfold irqOk
  rw [d.irqStage_vectorsOnly.irqConds, d.irqStage_vectorsOnly]
  exact sent_exact d.irqConds d.irqEnables d.glb.irqSent

theorem irqStage_of_irqOk {d : Dev} (h : d.irqOk) : d.irqStage = d := by
  obtain ⟨hsent, hdue⟩ := h
  unfold irqStage
  dsimp only
  rw [sent_fixed hsent hdue, hdue]
  rfl

end Dev

/-- Settles O8: every row ends by settling, whose last stage sends the vectors, from the state reached. -/
theorem interruptsStayExact : Obligations.InterruptsStayExact := by
  unfold Obligations.InterruptsStayExact
  exact fun s t hs ht => step_keeps (fun d => d.settleBody.irqOk_irqStage) hs ht

/-- At reset no vector is enabled and none was sent (R267). -/
theorem Dev.irqOk_powerOn : Dev.powerOn.irqOk := by
  have henables : Dev.powerOn.irqEnables = 0#4 := by decide +kernel
  have hsent : Dev.powerOn.glb.irqSent = 0#4 := rfl
  unfold irqOk
  rw [henables, hsent]
  exact ⟨BitVec.zero_and, by rw [BitVec.and_zero]; exact BitVec.zero_and⟩

/-- Settles O4: no vector is enabled or sent, and no pending copy stands. -/
theorem invariantsHoldAtReset : Obligations.InvariantsHoldAtReset := by
  unfold Obligations.InvariantsHoldAtReset
  exact ⟨Dev.irqOk_powerOn, nofun⟩

/-! ### A quiet device -/

/-- A fold whose every step leaves the device as it is. -/
theorem foldl_eq_of_fixed {α : Type} {f : Dev → α → Dev} {l : List α} {d : Dev} (h : ∀ a ∈ l, f d a = d) : l.foldl f d = d := by
  induction l with
  | nil => rfl
  | cons a l ih =>
    rw [List.foldl_cons, h a List.mem_cons_self]
    exact ih fun b hb => h b (List.mem_cons_of_mem a hb)

/-- Bits that add none to a set leave it as it is. -/
theorem or_eq_left_of_and_not {w : Nat} {a b : BitVec w} (h : b &&& ~~~a = 0) : a ||| b = a := by
  ext i hi
  have hbit := congrArg (·[i]) h
  simp only [BitVec.getElem_and, BitVec.getElem_or, BitVec.getElem_not, BitVec.ofNat_eq_ofNat, BitVec.getElem_zero] at hbit ⊢
  grind

namespace Dev.quiet

variable {d : Dev} (h : d.quiet)

include h

theorem selWatch_eq : d.selWatch = d := by
  unfold Dev.selWatch
  rw [h.refSel]

/-- No edge that an output waits for has come. -/
theorem outEdge_eq {o : Nat} (ho : o ∈ d.outs.keys) : d.outEdge o = d := by
  obtain ⟨hfirst, hwait⟩ := h.outputs o ho
  have hnone : ((d.outOf o).first.any fun z => decide (z.at' ≤ d.now)) = false :=
    (Option.any_eq_false _ _).2 fun z hz => decide_eq_false (Nat.not_le_of_lt (hfirst z hz))
  unfold Dev.outEdge
  simp only [hnone, Bool.false_eq_true, if_false]
  by_cases hgoal : (d.outOf o).goal.isSome = true
  · rw [if_pos hgoal, hwait (.inl hgoal)]
    rfl
  · rw [if_neg hgoal]
    by_cases hstop : (d.outOf o).st = .stopping
    · rw [hwait (.inr hstop), Bool.and_false]
      rfl
    · rw [decide_eq_false hstop]
      rfl

theorem outWatch_eq : d.outWatch = d := foldl_eq_of_fixed fun o ho => by rw [h.outEdge_eq ho, h.outEdge_eq ho, h.outEdge_eq ho]

theorem ctrlRun_eq : d.ctrlRun = d := by
  unfold Dev.ctrlRun
  rw [h.power]
  rfl

theorem applyIdle_eq : d.applyIdle = d := by
  obtain ⟨hnow, hlate, hsched, -⟩ := h.changes
  exact if_pos (.inr ⟨hnow, hlate, hsched⟩)

theorem tickStart_eq : d.tickStart = d := by
  obtain ⟨hstart, hruns⟩ := h.tick
  have hnone : d.tick.running = true ∨ (!d.time.everValid) = true := hruns.imp_right fun hnever => by rw [hnever.1]; rfl
  unfold Dev.tickStart
  rw [if_pos (or_assoc.1 (.inl hnone))]
  exact congrArg (fun k => { d with tick := { d.tick with startK := k } }) hstart.symm

theorem serveModeReq_eq : d.serveModeReq = d := by
  unfold Dev.serveModeReq
  rw [h.mode]

theorem linkRef_eq : d.linkRef = d := by
  have hlocked : (d.bit F.LINK_CTRL.EN && !d.bit F.LINK_CTRL.REF_SRC && !d.bit (F.MSn_STATUS.LOCKED (d.get F.LINK_CTRL.REF_MS))) = false := by
    cases hon : d.bit F.LINK_CTRL.EN with
    | false => rfl
    | true => rcases h.linkRef hon with hsrc | hms <;> simp [*]
  unfold Dev.linkRef
  simp only [h.linkOff, hlocked, Bool.not_false, Bool.and_true, Bool.false_and, Bool.false_eq_true, if_false]

theorem calWatch_eq {n : Nat} (hn : n < 4) : d.calWatch n = d := by
  unfold Dev.calWatch
  by_cases hrun : d.calRunning n = true
  · obtain ⟨hlock, href, hparts⟩ := h.cal n hn hrun
    rw [Dev.calDropParts, if_neg (by rw [hparts, Bool.not_true, Bool.and_false]; exact Bool.false_ne_true)]
    exact if_neg fun ⟨_, hlost⟩ => hlost.elim (fun hne => hne hlock) fun hne => hne href
  · rw [Dev.calDropParts, if_neg fun hboth => hrun (Bool.and_eq_true_iff.1 hboth).1]
    exact if_neg fun hboth => hrun hboth.1

theorem timeFree_eq : d.timeFree = d := by
  unfold Dev.timeFree
  by_cases hsrc : d.timeSrc = 0
  · obtain ⟨hlocked, hheld⟩ := h.time0 hsrc
    rw [if_pos hsrc, if_neg fun ⟨hst, hlost⟩ => by simp [hlocked hst] at hlost, if_neg fun ⟨hst, hback⟩ => by simp [hheld hst] at hback]
  · exact if_neg hsrc

theorem timeFollow_eq : d.timeFollow = d := by
  unfold Dev.timeFollow
  dsimp only
  rw [if_pos h.time1, h.timeFree_eq]

theorem ppsGate_eq : d.ppsGate = d := if_neg fun ⟨hout, hoff⟩ => by simp [h.pps hout] at hoff

theorem flushReplies_eq : d.flushReplies = d := by
  have hnone : { d with replies := [] } = d := congrArg (fun l => { d with replies := l }) h.lists.1.symm
  unfold Dev.flushReplies
  rw [h.lists.1, ite_self, hnone]
  rfl

theorem runTriggers_eq : d.runTriggers = d := by
  have hnone : { d with trigs := [] } = d := congrArg (fun l => { d with trigs := l }) h.lists.2.symm
  unfold Dev.runTriggers
  rw [h.lists.2, hnone]
  rfl

theorem firmwareData_eq : d.firmwareData = d := by
  have hunarmed : ¬ (d.flt.cbTarget = 3 ∧ 0 < d.flt.cbLeft) := fun ⟨htarget, hleft⟩ => h.data.elim (fun hne => hne htarget) (Nat.ne_of_gt hleft)
  unfold Dev.firmwareData Dev.sramSome
  rw [if_neg hunarmed, ite_self]

theorem croakWatch_eq : d.croakWatch = d := by
  unfold Dev.croakWatch
  rw [or_eq_left_of_and_not h.croak]

theorem bootFeed_eq : d.bootFeed = d := if_neg fun hstep => by simp [h.boot.1] at hstep

theorem bootWatch_eq : d.bootWatch = d := if_neg fun hstep => by simp [h.boot.1] at hstep

theorem stepRun_eq : d.stepRun = d := if_neg fun ⟨hstep, hmode⟩ => h.boot.2 hstep hmode

theorem coreIdle_eq : d.coreIdle = d := by
  unfold Dev.coreIdle Dev.coreReturn
  rcases h.tick.2 with hruns | ⟨-, hpll⟩
  · exact if_pos hruns
  · have hlocked : ¬ ((none : Option Nat).isSome = true ∧ d.get F.PWR_CLK_STATUS.CORE_SRC = 1) := by simp
    rw [hpll, if_neg hlocked, ite_self]

theorem pendTrim_eq : d.pendTrim = d := by
  obtain ⟨-, -, -, hpend⟩ := h.changes
  unfold Dev.pendTrim
  rw [hpend]
  exact congrArg (fun l => { d with pend := l }) hpend.symm

theorem settleBody_eq : d.settleBody = d := by
  have hcal : [0, 1, 2, 3].foldl (fun d n => d.calWatch n) d = d := foldl_eq_of_fixed fun n hn => h.calWatch_eq (by simp at hn; omega)
  unfold Dev.settleBody
  simp only [h.selWatch_eq, h.outWatch_eq, h.ctrlRun_eq, h.applyIdle_eq, h.tickStart_eq, h.serveModeReq_eq, h.linkRef_eq, hcal, h.timeFollow_eq, h.ppsGate_eq,
    h.flushReplies_eq, h.runTriggers_eq, h.firmwareData_eq, h.croakWatch_eq, h.bootFeed_eq, h.bootWatch_eq, h.stepRun_eq, h.coreIdle_eq, h.pendTrim_eq]

end Dev.quiet

/-- Settles O10: each stage of settling finds nothing to do, and the interrupts of the state reached are exact (R267). -/
theorem quietStaysAsItIs : Obligations.QuietStaysAsItIs := by
  unfold Obligations.QuietStaysAsItIs
  intro d h
  unfold Dev.settle
  rw [h.settleBody_eq, Dev.irqStage_of_irqOk h.irq]

end Sys2Proof.Machine

/-! The register interface: the guarded registers (R257 to R260), access errors (R253), reads and writes of one register (R249 to R262), and their rows. -/

namespace Sys2Proof.Machine

/-! ### The guarded registers -/

/-- The offsets of a register, or of a family. -/
def RegDesc.offs (r : RegDesc) : List Nat := (List.range r.n1).flatMap fun i => (List.range r.n2).map fun j => r.base + r.s1 * i + r.s2 * j

theorem RegDesc.mem_offs_of_hits {r : RegDesc} {off : Nat} (h : r.hits off = true) : off ∈ r.offs := by
  simp only [hits, Bool.and_eq_true, decide_eq_true_eq] at h
  obtain ⟨⟨⟨hbase, hblock⟩, hrem⟩, hword⟩ := h
  refine List.mem_flatMap.2 ⟨_, List.mem_range.2 hblock, List.mem_map.2 ⟨_, List.mem_range.2 hword, ?_⟩⟩
  have hsplit := Nat.div_add_mod (off - r.base) r.s1
  have hrest := Nat.div_add_mod ((off - r.base) % r.s1) r.s2
  omega

theorem mem_of_findReg {off : Nat} {r : RegDesc} (h : findReg off = some r) : r ∈ regMap ∧ off ∈ r.offs :=
  ⟨List.mem_of_find?_eq_some h, RegDesc.mem_offs_of_hits (List.find?_some (p := fun r : RegDesc => r.hits off) h)⟩

/-- The value offsets X of the guarded pairs (Table 11-4): eight registers, and eight words of each of two keys. -/
def guardedOffs : List Nat :=
  [R.GLB_MODE_REQ, R.GLB_SOFT_RESET, R.PWR_DOMAIN_CTRL, R.FLT_INJ_MODE, R.FLT_INJ_CTRL, R.STORE_ERASE, R.EVT_CLAY_CLEAR, R.LINK_KEY_CTRL] ++
    (List.range 2).flatMap fun slot => (List.range 8).map (R.LINK_KEY slot)

/-- The map has no other guarded register. -/
theorem offs_subset_guardedOffs : ∀ r ∈ regMap, r.guarded = true → r.offs ⊆ guardedOffs := by decide +kernel

/-- And it has these, with no register at the complement of any (R257). -/
theorem findReg_of_mem_guardedOffs : ∀ x ∈ guardedOffs, (findReg x).any RegDesc.guarded = true ∧ findReg (x + 4) = none := by decide +kernel

theorem guardedOffs_in_bar0 : ∀ x ∈ guardedOffs, (x + 4) % 4 = 0 ∧ x + 4 < 2 ^ 20 := by decide

theorem linkKey_mem {slot word : Nat} (hs : slot < 2) (hw : word < 8) : R.LINK_KEY slot word ∈ guardedOffs :=
  List.mem_append_right _ (List.mem_flatMap.2 ⟨slot, List.mem_range.2 hs, List.mem_map_of_mem (List.mem_range.2 hw)⟩)

theorem mem_guardedOffs_of_guarded {off : Nat} (h : (findReg off).any RegDesc.guarded = true) : off ∈ guardedOffs := by
  obtain ⟨r, hfind, hguarded⟩ := (Option.any_eq_true _ _).1 h
  obtain ⟨hmem, hoff⟩ := mem_of_findReg hfind
  exact offs_subset_guardedOffs r hmem hguarded hoff

theorem mem_guardedOffs_of_gpBase {off x : Nat} (h : gpBase off = some x) : x ∈ guardedOffs := by
  refine mem_guardedOffs_of_guarded ?_
  unfold gpBase at h
  split at h
  case h_1 r hfind =>
    obtain ⟨hguarded, hoff⟩ := Option.ite_none_right_eq_some.1 h
    cases hoff
    exact (Option.any_eq_true _ _).2 ⟨r, hfind, hguarded⟩
  case h_2 =>
    obtain ⟨⟨-, hguarded⟩, hoff⟩ := Option.ite_none_right_eq_some.1 h
    cases hoff
    exact hguarded

theorem gpBase_of_mem {x : Nat} (h : x ∈ guardedOffs) : gpBase x = some x ∧ gpBase (x + 4) = some x := by
  obtain ⟨hx, hnext⟩ := findReg_of_mem_guardedOffs x h
  obtain ⟨r, hfind, hguarded⟩ := (Option.any_eq_true _ _).1 hx
  unfold gpBase
  constructor
  · rw [hfind]
    exact if_pos hguarded
  · rw [hnext]
    exact if_pos ⟨Nat.le_add_left 4 x, hx⟩

theorem gpBase_iff {off x : Nat} : gpBase off = some x ↔ (off = x ∨ off = x + 4) ∧ x ∈ guardedOffs := by
  constructor
  case mp => exact fun h => ⟨eq_or_eq_add_of_gpBase h, mem_guardedOffs_of_gpBase h⟩
  case mpr =>
    rintro ⟨rfl | rfl, hmem⟩
    · exact (gpBase_of_mem hmem).1
    · exact (gpBase_of_mem hmem).2

/-- The offsets as Table 11-4 gives them. -/
theorem mem_guardedOffs {x : Nat} : x ∈ guardedOffs ↔
    x ∈ [0x10, 0x20, R.PWR_DOMAIN_CTRL, R.FLT_INJ_MODE, R.FLT_INJ_CTRL, R.STORE_ERASE, R.EVT_CLAY_CLEAR, 0x70900] ∨
      ∃ slot word, slot < 2 ∧ word < 8 ∧ x = 0x70800 + 0x80 * slot + 8 * word := by
  refine List.mem_append.trans (or_congr_right ?_)
  simp only [List.mem_flatMap, List.mem_map, List.mem_range, R.LINK_KEY]
  constructor
  · rintro ⟨slot, hslot, word, hword, rfl⟩
    exact ⟨slot, word, hslot, hword, by omega⟩
  · rintro ⟨slot, word, hslot, hword, rfl⟩
    exact ⟨slot, hslot, word, hword, by omega⟩

/-! ### The modes of a completed pair -/

namespace Dev

theorem pairCommit_of_not_takes {d : Dev} {q : Req} {x : Nat} (h : d.pairTakes q x = false) (v : Word) : d.pairCommit q x v = d.accessError q x 5 := by
  unfold pairCommit
  rw [h]
  rfl

/-- A mode that does not serve the rings takes no pair (R259). -/
theorem pairTakes_of_not_served {d : Dev} {q : Req} (h : (q.mode d).served = false) (x : Nat) : d.pairTakes q x = false := by
  have hmode : q.mode d ≠ .configure ∧ q.mode d ≠ .test := by constructor <;> intro hm <;> rw [hm] at h <;> cases h
  unfold pairTakes
  simp [hmode.1, hmode.2, h]

end Dev

/-- Settles O21: the map has the guarded registers of the table and no others, and a mode outside a row makes the pair a MODE error. -/
theorem guardedRegistersAreThoseOfTheTable : Obligations.GuardedRegistersAreThoseOfTheTable := by
  unfold Obligations.GuardedRegistersAreThoseOfTheTable
  refine ⟨fun off x => gpBase_iff.trans (and_congr_right fun _ => mem_guardedOffs),
    fun d q x v => ⟨fun hx hconf htest => ?confTest, fun htest => ?test, fun h => ?erase, fun h => ?unserved⟩⟩
  all_goals refine Dev.pairCommit_of_not_takes ?_ v
  case confTest =>
    unfold Dev.pairTakes
    rw [if_pos (by simpa using hx)]
    simp [hconf, htest]
  case test =>
    unfold Dev.pairTakes
    rw [if_neg (by decide), if_pos rfl]
    simp [htest]
  case erase =>
    unfold Dev.pairTakes
    rw [if_neg (by decide), if_neg (by decide), if_pos rfl]
    rcases h with h | h <;> simp [h]
  case unserved =>
    exact Dev.pairTakes_of_not_served (by rcases h with h | h <;> rw [h] <;> rfl) x

/-! ### Fields of a word -/

/-- A field of one bit is that bit of the word. -/
theorem Fld.ofWord_of_bit {f : Fld} (hlen : f.len = 1) (w : Word) : f.ofWord w = (w.getLsbD f.lo).toNat := by
  unfold Fld.ofWord
  rw [hlen, Nat.pow_one, BitVec.getLsbD, Nat.testBit_eq_decide_div_mod_eq]
  rcases Nat.mod_two_eq_zero_or_one (w.toNat / 2 ^ f.lo) with h | h <;> simp [h]

/-- An event bit that is raised is 1. -/
theorem Dev.bit_raise (d : Dev) {f : Fld} (hlen : f.len = 1) (hlo : f.lo < 32) : (d.raise f).bit f = true := by
  have hset : (f.into (d.word f.off) 1).getLsbD f.lo = true := by
    simp [Fld.into, Fld.mask, hlen, hlo]
  unfold bit get raise set
  rw [word_setWord_same, Fld.ofWord_of_bit hlen, hset]
  rfl

/-! ### Access errors -/

theorem causeBit_off (cause : Nat) : (causeBit cause).off = R.GLB_ACCESS_STATUS := by
  unfold causeBit
  split <;> rfl

theorem causeBit_isBit (cause : Nat) : (causeBit cause).len = 1 ∧ (causeBit cause).lo < 32 := by
  unfold causeBit
  split <;> decide

theorem causeBit_eq (cause : Nat) : causeBit cause = if cause = 1 then F.GLB_ACCESS_STATUS.WRITE_WHILE_ENABLED
    else if cause = 4 then F.GLB_ACCESS_STATUS.GUARD_ERR else if cause = 5 ∨ cause = 6 then F.GLB_ACCESS_STATUS.DENIED else F.GLB_ACCESS_STATUS.ACCESS_ERR := by
  unfold causeBit
  split <;> simp_all

theorem causeCount_eq (cause : Nat) : causeCount cause = if cause = 1 then R.GLB_WWE_COUNT
    else if cause = 4 then R.GLB_GUARD_ERR_COUNT else R.GLB_ACCESS_ERR_COUNT := by
  unfold causeCount
  split <;> simp_all

theorem causeCount_ne (cause : Nat) :
    causeCount cause ≠ R.GLB_ACCESS_STATUS ∧ causeCount cause ≠ R.GLB_ACCESS_LAST ∧ causeCount cause ≠ R.GLB_ACCESS_FIRST := by
  unfold causeCount
  split <;> decide

namespace Dev

/-- The word that GLB_ACCESS_LAST shows of an error (R253). -/
def accessShown (q : Req) (off cause : Nat) : Word := BitVec.ofNat 32 (off % 2 ^ 20 + cause * 2 ^ 20 + q.code * 2 ^ 24 + 2 ^ 31)

/-- An access error but for GLB_ACCESS_FIRST: the status bit, the counter and GLB_ACCESS_LAST (R253). -/
def accessNoted (d : Dev) (q : Req) (off cause : Nat) : Dev :=
  ((d.raise (causeBit cause)).count (causeCount cause) 1).setWord R.GLB_ACCESS_LAST (accessShown q off cause)

theorem wordsKeptBut_accessNoted (d : Dev) (q : Req) (off cause : Nat) :
    d.wordsKeptBut (d.accessNoted q off cause) [R.GLB_ACCESS_STATUS, causeCount cause, R.GLB_ACCESS_LAST] :=
  .setWord (.count (.setWord (wordsKeptBut_of_regs rfl _) (by simp [causeBit_off]) _) (by simp) 1) (by simp) _

theorem wordsKeptBut.bit {d d1 : Dev} {offs : List Nat} (h : d.wordsKeptBut d1 offs) {f : Fld} (hf : f.off ∉ offs) : d1.bit f = d.bit f := by
  unfold Dev.bit get
  rw [h _ hf]

theorem accessFirst_notMem (cause : Nat) : R.GLB_ACCESS_FIRST ∉ [R.GLB_ACCESS_STATUS, causeCount cause, R.GLB_ACCESS_LAST] := by
  unfold causeCount
  split <;> decide

/-- GLB_ACCESS_FIRST keeps an error that is VALID (R253). -/
theorem accessError_eq (d : Dev) (q : Req) (off cause : Nat) :
    d.accessError q off cause = if d.bit F.GLB_ACCESS_FIRST.VALID then d.accessNoted q off cause
      else (d.accessNoted q off cause).setWord R.GLB_ACCESS_FIRST (accessShown q off cause) := by
  rw [← (d.wordsKeptBut_accessNoted q off cause).bit (f := F.GLB_ACCESS_FIRST.VALID) (accessFirst_notMem cause)]
  rfl

theorem word_accessError_first (d : Dev) (q : Req) (off cause : Nat) : (d.accessError q off cause).word R.GLB_ACCESS_FIRST =
    if d.bit F.GLB_ACCESS_FIRST.VALID then d.word R.GLB_ACCESS_FIRST else accessShown q off cause := by
  rw [accessError_eq]
  split
  · exact d.wordsKeptBut_accessNoted q off cause _ (accessFirst_notMem cause)
  · exact word_setWord_same _ _ _

theorem word_accessError (d : Dev) (q : Req) (off cause : Nat) {at' : Nat} (h : at' ≠ R.GLB_ACCESS_FIRST) :
    (d.accessError q off cause).word at' = (d.accessNoted q off cause).word at' := by
  rw [accessError_eq]
  split
  · rfl
  · exact word_setWord_other _ _ h.symm

/-- An access error writes register words alone (R253). -/
theorem accessError_regs (d : Dev) (q : Req) (off cause : Nat) : d.accessError q off cause = { d with regs := (d.accessError q off cause).regs } := by
  unfold accessError
  dsimp only
  split <;> rfl

end Dev

/-- Settles O20: the three words that every error writes, and the fourth that the first of them writes (R253). -/
theorem accessErrorsAreRecorded : Obligations.AccessErrorsAreRecorded := by
  unfold Obligations.AccessErrorsAreRecorded
  intro d q off cause hoff _ _ _
  have hshown : Dev.accessShown q off cause = BitVec.ofNat 32 (off + cause * 2 ^ 20 + q.code * 2 ^ 24 + 2 ^ 31) := by
    unfold Dev.accessShown
    rw [Nat.mod_eq_of_lt hoff]
  dsimp only
  rw [← causeBit_eq, ← causeCount_eq, ← hshown]
  obtain ⟨hstatus, hlast, hfirst⟩ := causeCount_ne cause
  refine ⟨d.accessError_regs q off cause, ?status, ?count, ?last, d.word_accessError_first q off cause, ?frame⟩
  case status =>
    obtain ⟨hlen, hlo⟩ := causeBit_isBit cause
    refine Eq.trans ?_ (d.bit_raise hlen hlo)
    unfold Dev.bit Dev.get
    rw [causeBit_off, d.word_accessError q off cause (by decide), Dev.accessNoted, Dev.word_setWord_other _ _ (by decide), Dev.word_count_other _ _ hstatus]
  case count =>
    rw [d.word_accessError q off cause hfirst, Dev.accessNoted, Dev.word_setWord_other _ _ hlast.symm, Dev.count, Dev.word_setWord_same, Dev.raise,
      d.word_set_other _ _ (by rw [causeBit_off]; exact hstatus.symm)]
  case last =>
    rw [d.word_accessError q off cause (by decide), Dev.accessNoted, Dev.word_setWord_same]
  case frame =>
    intro at' hat
    simp only [List.mem_cons, List.not_mem_nil, or_false, not_or] at hat
    obtain ⟨hnotStatus, hnotCount, hnotLast, hnotFirst⟩ := hat
    rw [d.word_accessError q off cause hnotFirst]
    exact d.wordsKeptBut_accessNoted q off cause _ (by simp [hnotStatus, hnotCount, hnotLast])

/-! ### One write -/

namespace Dev

section

variable {d : Dev} {q : Req} {off : Nat} {be : BitVec 4}

/-- No enabled byte is no write, and SMBus writes nothing (R250, R266). -/
theorem writeOne_of_none (h : be = 0 ∨ q.code = 6) (val : Word) : d.writeOne q off be val = (d, false) := if_pos h

section

variable (hbe : be ≠ 0) (hq : q.code ≠ 6)

include hbe hq

theorem writeOne_of_alone (h : Tbl.get? d.glb.guards q.key = none) (val : Word) : d.writeOne q off be val = d.writeFresh q off be val := by
  unfold writeOne
  rw [if_neg (not_or_intro hbe hq), h]

/-- With an open pair, a write completes it, or is discarded with it, or finds it out of time (R257, R258). -/
theorem writeOne_of_open {p : OpenPair} (h : Tbl.get? d.glb.guards q.key = some p) (val : Word) :
    d.writeOne q off be val =
      let shut := { d with glb := { d.glb with guards := Tbl.del d.glb.guards q.key } }
      if d.now ≤ p.at' + msec then
        if off = p.off + 4 ∧ be = 15 ∧ val = ~~~p.val then (shut.pairCommit q p.off p.val, false) else (shut.accessError q p.off 4, true)
      else (shut.accessError q p.off 4).writeFresh q off be val := by
  unfold writeOne
  rw [if_neg (not_or_intro hbe hq), h]

end

section

variable (val : Word)

theorem writeFresh_of_gap (h : contiguous be = false) : d.writeFresh q off be val = (d.accessError q off 2, false) := by
  unfold writeFresh
  rw [h]
  rfl

section

variable (hrun : contiguous be = true)

include hrun

/-- A write to either offset of a guarded pair (R257, R258, R260). -/
theorem writeFresh_of_pair {x : Nat} (hx : gpBase off = some x) :
    d.writeFresh q off be val =
      if be ≠ 15 then (d.accessError q off 3, false)
      else if isKey x ∧ !q.priv then (d.accessError q off 6, false)
      else if off = x then ({ d with glb := { d.glb with guards := Tbl.put d.glb.guards q.key ⟨x, val, d.now⟩ } }, false)
      else (d.accessError q x 4, true) := by
  unfold writeFresh
  rw [hrun, hx]
  rfl

/-- A write to a reserved location (R10). -/
theorem writeFresh_of_reserved (hreg : findReg off = none) (hgp : gpBase off = none) : d.writeFresh q off be val = (d, false) := by
  unfold writeFresh
  rw [hrun, hgp, hreg]
  rfl

/-- A write of a register that is no part of a guarded pair (R250, R262). -/
theorem writeFresh_of_reg {r : RegDesc} (hreg : findReg off = some r) (hgp : gpBase off = none) :
    d.writeFresh q off be val =
      if 0x20000 ≤ off ∧ off < 0x28000 ∧ d.chFree ((off - 0x20000) / 0x400) ∧ d.modeTakes q off then (d, false)
      else if isLo off ∧ r.writable ≠ 0 then (d.stageLo q r off (beMask be) val, false)
      else if isHi off ∧ r.writable ≠ 0 then (d.commitHi q off (beMask be) val, false)
      else (d.writeSet q off [⟨off, beMask be, val⟩], false) := by
  unfold writeFresh
  rw [hrun, hgp, hreg]
  rfl

/-- A write of LO is staged, where its output has a channel (R262). -/
theorem writeFresh_of_lo {r : RegDesc} (hreg : findReg off = some r) (hgp : gpBase off = none) (hlo : isLo off = true) (hw : r.writable ≠ 0)
    (hthere : 0x20000 ≤ off → off < 0x28000 → d.chFree ((off - 0x20000) / 0x400) = false) :
    d.writeFresh q off be val = (d.stageLo q r off (beMask be) val, false) := by
  have hchannel : ¬ (0x20000 ≤ off ∧ off < 0x28000 ∧ d.chFree ((off - 0x20000) / 0x400) = true ∧ d.modeTakes q off = true) :=
    fun ⟨hge, hlt, hfree, _⟩ => by simp [hthere hge hlt] at hfree
  rw [writeFresh_of_reg val hrun hreg hgp, if_neg hchannel, if_pos ⟨hlo, hw⟩]

end

/-- A write that touches no writable field does nothing (R253). -/
theorem writeSet_of_none {r : RegDesc} (hreg : findReg off = some r) {m : Word} (hm : r.writable &&& m = 0) (at' : Nat) :
    d.writeSet q at' [⟨off, m, val⟩] = d := by
  unfold writeSet
  simp [hreg, hm]

end

end

end Dev

/-- Settles O19: the guards of a write, in the order in which they are met (R250, R253, R10). -/
theorem untakenWritesChangeNothing : Obligations.UntakenWritesChangeNothing := by
  unfold Obligations.UntakenWritesChangeNothing
  intro d q off be val
  refine ⟨fun h => Dev.writeOne_of_none h val, fun hbe hq halone => ?_⟩
  rw [Dev.writeOne_of_alone hbe hq halone]
  refine ⟨fun hgap => Dev.writeFresh_of_gap val hgap, fun hrun hreg hgp => Dev.writeFresh_of_reserved val hrun hreg hgp,
    fun r hrun hreg hgp hlo hhi hm => ?_⟩
  rw [Dev.writeFresh_of_reg val hrun hreg hgp, if_neg (show ¬ (isLo off = true ∧ _) by simp [hlo]), if_neg (show ¬ (isHi off = true ∧ _) by simp [hhi]),
    Dev.writeSet_of_none val hreg hm]
  exact ite_self _

/-! ### One read -/

namespace Dev

/-- Clearing RC bits leaves the GLB block. -/
theorem clearRc_glb (d : Dev) (off : Nat) (m : Word) : (d.clearRc off m).glb = d.glb := by
  rw [clearRc_regs]

/-- What a read leaves of the GLB block: latched or not (R261). -/
theorem readOne_glb (d : Dev) (q : Req) {off : Nat} (be : BitVec 4) (h : off < 0x7C100 ∨ 0x7C200 ≤ off) :
    (d.readOne q off be).1.glb = if be = 0 ∨ q.code = 6 then d.glb else (d.latchHi q off).glb := by
  rw [d.readOne_fst q be h]
  split
  · rfl
  · split
    · rfl
    · exact clearRc_glb _ _ _

/-- What a read leaves of the register words: RC bits cleared or not (R249). -/
theorem readOne_words (d : Dev) (q : Req) {off : Nat} (be : BitVec 4) (h : off < 0x7C100 ∨ 0x7C200 ≤ off) (at' : Nat) :
    (d.readOne q off be).1.word at' =
      if be = 0 ∨ q.code = 6 ∨ d.hidden off = true then d.word at' else ((d.latchHi q off).clearRc off (beMask be)).word at' := by
  rw [d.readOne_fst q be h]
  by_cases hnone : be = 0 ∨ q.code = 6
  · rw [if_pos hnone, if_pos (or_assoc.1 (.inl hnone))]
  · by_cases hhid : d.hidden off = true
    · rw [if_neg hnone, if_pos hhid, if_pos (.inr (.inr hhid)), latchHi_word]
    · rw [if_neg hnone, if_neg hhid, if_neg fun h => (or_assoc.2 h).elim hnone hhid]

/-- A read changes no more than register words and shadows (R249, R261). -/
theorem readOne_frame (d : Dev) (q : Req) {off : Nat} (be : BitVec 4) (h : off < 0x7C100 ∨ 0x7C200 ≤ off) :
    (d.readOne q off be).1 =
      { d with regs := (d.readOne q off be).1.regs, glb := { d.glb with shadows := (d.readOne q off be).1.glb.shadows } } := by
  rw [d.readOne_fst q be h]
  split
  · rfl
  · split
    · rw [latchHi_glb]
    · rw [clearRc_regs, latchHi_glb]

theorem latchHi_of_lo {off : Nat} (h : isLo off = true) (d : Dev) (q : Req) :
    d.latchHi q off = { d with glb := { d.glb with shadows := Tbl.put d.glb.shadows q.key (off, d.busWord q false (off + 4)) } } := if_pos h

theorem latchHi_of_not_lo {off : Nat} (h : isLo off = false) (d : Dev) (q : Req) : d.latchHi q off = d := if_neg (ne_true_of_eq_false h)

/-- No requester's shadow is another's (R261). -/
theorem latchHi_other (d : Dev) (q : Req) (off : Nat) {k : Nat} (h : k ≠ q.key) :
    Tbl.get? (d.latchHi q off).glb.shadows k = Tbl.get? d.glb.shadows k := by
  unfold latchHi
  split
  · exact Tbl.get?_put_other _ _ h.symm
  · rfl

/-- A read returns no byte that is not enabled (R249). -/
theorem readOne_masked (d : Dev) (q : Req) (off : Nat) (be : BitVec 4) : (d.readOne q off be).2 &&& ~~~beMask be = 0 := by
  have hmasked : ∀ w : Word, w &&& beMask be &&& ~~~beMask be = 0#32 := fun w => by
    rw [BitVec.and_assoc, BitVec.and_not_self]
    exact BitVec.and_zero
  by_cases hq : q.code = 6
  · unfold readOne
    rw [if_pos hq]
    split
    · exact BitVec.zero_and
    · exact hmasked _
  · rw [d.readOne_word hq]
    split
    · exact BitVec.zero_and
    · exact hmasked _

end Dev

/-- Settles O17: a read latches HI in its requester's shadow and clears RC bits in the bytes it returns, and nothing else (R249, R261). -/
theorem readsChangeOnlyWhatTheyReturn : Obligations.ReadsChangeOnlyWhatTheyReturn := by
  unfold Obligations.ReadsChangeOnlyWhatTheyReturn
  refine ⟨fun d q off be => ⟨d.readOne_masked q off be, fun hq => ?smbus,
      fun hoff => ⟨d.readOne_frame q be hoff, fun off' hne => ?other, ?same, fun k hk => ?shadow, fun hlo => ?noLatch⟩⟩,
    fun d q off be x hreg hhid hq hoff hbe => ?full⟩
  case smbus =>
    unfold Dev.readOne
    rw [if_pos hq]
    exact (apply_ite Prod.fst _ _ _).trans (ite_self _)
  case other =>
    rw [d.readOne_words q be hoff]
    split
    · rfl
    · rw [Dev.clearRc_other _ _ hne, Dev.latchHi_word]
  case same =>
    rw [d.readOne_words q be hoff]
    split
    · exact .inl rfl
    · cases hreg : findReg off with
      | none => exact .inl (by rw [Dev.clearRc, hreg]; exact d.latchHi_word q off off)
      | some x => exact .inr ⟨x, rfl, by rw [Dev.clearRc_same _ _ hreg, Dev.latchHi_word]⟩
  case shadow =>
    rw [d.readOne_glb q be hoff]
    split
    · rfl
    · exact d.latchHi_other q off hk
  case noLatch =>
    rw [d.readOne_glb q be hoff, Dev.latchHi_of_not_lo hlo]
    exact congrArg GlbState.shadows (ite_self _)
  case full =>
    have hword : (d.readOne q off be).1.word off = d.word off &&& ~~~(x.bits .rc &&& beMask be) := by
      rw [d.readOne_words q be hoff, if_neg fun h => h.elim hbe fun h => h.elim hq (ne_true_of_eq_false hhid), Dev.clearRc_same _ _ hreg, Dev.latchHi_word]
    rw [hword]
    constructor
    · rw [BitVec.and_assoc, BitVec.and_assoc, BitVec.not_and_self]
      exact BitVec.and_zero
    · rw [BitVec.and_assoc, BitVec.and_self]

/-- Settles O22: an open pair meets the next write of its requester (R257, R258); without one a write opens a pair, or makes an error; reads change no pair. -/
theorem guardedPairsNeedTheirComplement : Obligations.GuardedPairsNeedTheirComplement := by
  unfold Obligations.GuardedPairsNeedTheirComplement
  intro d q off be val hbe hq
  refine ⟨fun p hopen => ?opened, fun x halone hx hfull hpriv => ?full, fun x halone hx hrun => ?refused, fun q' off' hoff => ?read⟩
  case opened =>
    rw [Dev.writeOne_of_open hbe hq hopen]
    refine ⟨fun hnow hoff hfull hval => ?_, fun hnow hnot => ?_, fun hlate => ?_⟩
    · rw [if_pos hnow, if_pos ⟨hoff, hfull, hval⟩]
    · rw [if_pos hnow, if_neg hnot]
    · rw [if_neg (Nat.not_le_of_lt hlate)]
  case full =>
    have hkey : ¬ (isKey x = true ∧ (!q.priv) = true) := fun ⟨hk, hp⟩ => by simp [hpriv hk] at hp
    rw [Dev.writeOne_of_alone hbe hq halone, Dev.writeFresh_of_pair val (by rw [hfull]; rfl) hx, if_neg (not_not_intro hfull), if_neg hkey]
    exact ⟨fun h => if_pos h, fun h => if_neg h⟩
  case refused =>
    rw [Dev.writeOne_of_alone hbe hq halone, Dev.writeFresh_of_pair val hrun hx]
    refine ⟨fun hpart => if_pos hpart, fun hfull hk hp => ?_⟩
    rw [if_neg (not_not_intro hfull), if_pos ⟨hk, by rw [hp]; rfl⟩]
  case read => rw [d.readOne_frame q' be hoff]

/-- The shadow that a read of HI finds is what it was before the counters of the Newt cores were brought up to date. -/
theorem Dev.shadowOf_asRead (d : Dev) (q : Req) (off at' : Nat) : (d.asRead at').shadowOf q off = d.shadowOf q off := by
  unfold asRead
  split
  · unfold shadowOf
    rw [mgmtCount_glb]
  · rfl

/-- HI of a pair shows the shadow that LO latched (R261). -/
theorem Dev.shadowOf_latched {lo : Nat} (hlo : isLo lo = true) {d : Dev} {q : Req} {w : Word} (h : Tbl.get? d.glb.shadows q.key = some (lo, w)) :
    d.shadowOf q (lo + 4) = some w := by
  have hhi : isHi (lo + 4) = true := by simp [isHi, hlo]
  unfold shadowOf
  rw [if_pos hhi, h, Option.bind_some, if_pos rfl]

/-- A write of HI of a staged pair commits both words as one access (R262). -/
theorem Dev.commitHi_of_staged {d : Dev} {q : Req} {lo : Nat} {s : Word} (h : Tbl.get? d.glb.stages q.key = some (lo, s)) (m val : Word) :
    d.commitHi q (lo + 4) m val =
      ({ d with glb := { d.glb with stages := Tbl.del d.glb.stages q.key } }).writeSet q (lo + 4) [⟨lo, BitVec.allOnes 32, s⟩, ⟨lo + 4, m, val⟩] := by
  unfold commitHi
  rw [h]
  exact if_pos rfl

/-- A staged word holds what was written in the enabled bytes (R262). -/
theorem and_of_merge {w : Nat} (cur val m : BitVec w) : ((cur &&& ~~~m) ||| (val &&& m)) &&& m = val &&& m := by
  ext i hi
  simp only [BitVec.getElem_and, BitVec.getElem_or, BitVec.getElem_not]
  grind

theorem Dev.stageLo_eq (d : Dev) (q : Req) (r : RegDesc) (off : Nat) (m val : Word) :
    ∃ w, d.stageLo q r off m val = { d with glb := { d.glb with stages := Tbl.put d.glb.stages q.key (off, w) } } ∧ w &&& m = val &&& m :=
  ⟨_, rfl, and_of_merge _ val m⟩

/-- Settles O23: HI of a pair reads the shadow that LO latched, whatever word it holds since (R261); LO is staged, and HI commits it (R262). -/
theorem pairsReadAndWriteWhole : Obligations.PairsReadAndWriteWhole := by
  unfold Obligations.PairsReadAndWriteWhole
  intro d q lo be hlo hbe hq hoff hhid
  refine ⟨fun d2 be2 hshadows hhid2 hbe2 => ?hi, fun r val hreg hw hgp hrun halone hthere => ?stage,
    fun s val hstaged => Dev.commitHi_of_staged hstaged _ val⟩
  case hi =>
    have hlatched : Tbl.get? d2.glb.shadows q.key = some (lo, d.busWord q false (lo + 4)) := by
      rw [hshadows, d.readOne_glb q be hoff, if_neg (not_or_intro hbe hq), Dev.latchHi_of_lo hlo]
      exact Tbl.get?_put_same _ _ _
    rw [d2.readOne_word hq, hhid2, d2.shadowOf_asRead, Dev.shadowOf_latched hlo hlatched]
    rfl
  case stage =>
    dsimp only
    rw [Dev.writeOne_of_alone hbe hq halone, Dev.writeFresh_of_lo val hrun hreg hgp hlo hw hthere]
    exact d.stageLo_eq q r lo (beMask be) val

/-! ### Register accesses as rows -/

namespace Dev

theorem rowWrite_of_reaches {d : Dev} {req : Requester} {off : Nat} (h : d.reaches req = true) (ha : off % 4 = 0) (hb : off < 2 ^ 20)
    (be : BitVec 4) (val : Word) : d.rowWrite req off be val = (d.writeOne (d.reqOf req) off be val).1 := by
  unfold rowWrite
  rw [if_pos h, bar0_of_aligned ha hb]

end Dev

theorem Dev.rowWrite_lo {d : Dev} {req : Requester} {off : Nat} {be : BitVec 4} {val : Word} {r : RegDesc} (h : d.takesWrite req off be val)
    (ha : off % 4 = 0) (hb : off < 2 ^ 20) (hreg : findReg off = some r) (hgp : gpBase off = none) (hlo : isLo off = true) (hw : r.writable ≠ 0) :
    d.rowWrite req off be val = d.stageLo (d.reqOf req) r off (beMask be) val := by
  rw [Dev.rowWrite_of_reaches h.reaches ha hb, Dev.writeOne_of_alone h.some (Dev.reqOf_code_ne h.notSm) h.alone,
    Dev.writeFresh_of_lo val h.run hreg hgp hlo hw h.there]

/-- A whole write of the value of a guarded pair opens it (R257, R260). -/
theorem Dev.rowWrite_opens {d : Dev} {req : Requester} {off : Nat} (val : Word) (hreach : d.reaches req = true)
    (ha : off % 4 = 0) (hb : off < 2 ^ 20) (hgp : gpBase off = some off) (hkey : isKey off = false ∨ (d.reqOf req).priv = true)
    (halone : Tbl.get? d.glb.guards (d.reqOf req).key = none) (hsm : req ≠ .smbus) :
    d.rowWrite req off 15 val = { d with glb := { d.glb with guards := Tbl.put d.glb.guards (d.reqOf req).key ⟨off, val, d.now⟩ } } := by
  have hpass : ¬ (isKey off = true ∧ (!(d.reqOf req).priv) = true) := fun ⟨hk, hp⟩ => hkey.elim (by simp [hk]) (by simpa using hp)
  rw [Dev.rowWrite_of_reaches hreach ha hb, Dev.writeOne_of_alone (by decide) (Dev.reqOf_code_ne hsm) halone,
    Dev.writeFresh_of_pair val (by decide) hgp, if_neg (by decide), if_neg hpass, if_pos rfl]

/-- Settles O35: an access that reaches the registers is the one operation on a register, or an error; an open pair that runs out is shut with its error. -/
theorem registerAccessActs : Obligations.RegisterAccessActs := by
  unfold Obligations.RegisterAccessActs
  intro s req off be val hu hreach ha hb
  have hbar : bar0 off = off := bar0_of_aligned ha hb
  dsimp only
  refine ⟨State.goesTo_of_onDev hu (f := registerRead req _) ?readOne, fun be1 hnext => State.goesTo_of_onDev hu (f := registerRead req _) ?readTwo,
    State.goesTo_of_onDev hu (f := registerRead req _) ?readLong, fun r hreg hgp hlo hhi hw htakes => State.goesTo_of_onDev hu ?plain,
    fun r hreg hgp hlo hw htakes => State.goesTo_of_onDev hu ?stage, fun hgp hkey halone hsm => State.goesTo_of_onDev hu ?opens,
    State.goesTo_of_onDev hu (f := registerWrite req _) ?writeLong, fun hhost => State.goesTo_of_onDev hu (f := registerRead req _) ?readBar2,
    fun hhost => State.goesTo_of_onDev hu (f := registerWrite req _) ?writeBar2, State.goesTo_of_onDev hu (f := registerWrite req _) ?poisoned,
    fun p hopen => State.goesTo_of_onDev (f := guardPairTimeout req) hu ?timeout⟩
  case plain => exact Dev.rowWrite_plain htakes ha hb hreg hgp hlo hhi hw
  case stage => exact Dev.rowWrite_lo htakes ha hb hreg hgp hlo hw
  case opens => exact Dev.rowWrite_opens val hreach ha hb hgp hkey halone hsm
  case timeout => simp only [guardPairTimeout, hopen]
  case readTwo =>
    have hbar4 : bar0 (off + 4) = off + 4 := bar0_of_aligned (by omega) hnext
    simp only [registerRead, hreach, hbar, hbar4, Bool.not_true, Bool.false_eq_true, if_false]
  case readBar2 => simp only [registerRead, hreach, if_pos hhost, Bool.not_true, Bool.false_eq_true, if_false]
  case writeBar2 => exact if_pos ⟨hhost, hreach⟩
  all_goals simp only [registerRead, registerWrite, hreach, hbar, Bool.not_true, Bool.false_eq_true, if_false, if_true]

/-! ### What a completed pair does -/

namespace Dev

theorem aonPeriod_setWord_other (d : Dev) {off : Nat} (w : Word) (hclk : off ≠ R.PWR_CLK_STATUS) (hring : off ≠ R.PWR_RING_FREQ) (hosc : off ≠ R.REF_OSC_NOM) :
    (d.setWord off w).aonPeriod = d.aonPeriod := by
  unfold aonPeriod fRing
  rw [d.bit_setWord_other w hclk, d.get_setWord_other w hring, d.get_setWord_other w hosc]

theorem injMode_setWord_other (d : Dev) {off : Nat} (w : Word) (h : off ≠ R.FLT_INJ_MODE) : (d.setWord off w).injMode = d.injMode := by
  unfold injMode
  rw [d.get_setWord_other w h]

theorem modeReqCommit_of_none {d : Dev} (h : d.glb.modeReq = none) (req code : Nat) :
    d.modeReqCommit req code =
      let d1 := ((d.set F.GLB_MODE_REQ_RESULT.STATUS 0).set F.GLB_MODE_REQ_RESULT.MODE code).set F.GLB_MODE_REQ_RESULT.DONE 0
      { d1 with glb := { d1.glb with modeReq := some ⟨code, req, none, false⟩ } } := if_neg (by simp [h])

section

variable {d : Dev} {q : Req} (v : Word)

theorem pairCommit_modeReq (h : d.pairTakes q R.GLB_MODE_REQ = true) (hnone : d.glb.modeReq = none) :
    d.pairCommit q R.GLB_MODE_REQ v =
      let d1 := (((d.setWord R.GLB_MODE_REQ (v &&& 7)).set F.GLB_MODE_REQ_RESULT.STATUS 0).set F.GLB_MODE_REQ_RESULT.MODE
        (F.GLB_MODE_REQ.MODE.ofWord v)).set F.GLB_MODE_REQ_RESULT.DONE 0
      { d1 with glb := { d1.glb with modeReq := some ⟨F.GLB_MODE_REQ.MODE.ofWord v, q.code, none, false⟩ } } :=
  (if_neg (by rw [h]; decide)).trans (modeReqCommit_of_none (d := d.setWord _ _) hnone _ _)

theorem pairCommit_softReset (h : d.pairTakes q R.GLB_SOFT_RESET = true) (hset : v.getLsbD 0 = true) : d.pairCommit q R.GLB_SOFT_RESET v = d.warmReset q.code :=
  (if_neg (by rw [h]; decide)).trans (if_pos hset)

theorem pairCommit_domainCtrl (h : d.pairTakes q R.PWR_DOMAIN_CTRL = true) :
    d.pairCommit q R.PWR_DOMAIN_CTRL v =
      { d.setWord R.PWR_DOMAIN_CTRL (v &&& 0x11F#32) with pwr := { d.pwr with
          asked := d.pwr.asked ++ [(⟨F.PWR_DOMAIN_CTRL.DOMAIN.ofWord v, decide (F.PWR_DOMAIN_CTRL.ON.ofWord v = 1), none⟩, d.clk.aonAt + d.aonPeriod)] } } := by
  rw [← d.aonPeriod_setWord_other (off := R.PWR_DOMAIN_CTRL) (v &&& 0x11F#32) (by decide) (by decide) (by decide)]
  exact if_neg (by rw [h]; decide)

theorem pairCommit_injMode (h : d.pairTakes q R.FLT_INJ_MODE = true) : d.pairCommit q R.FLT_INJ_MODE v = d.injModeCommit v :=
  if_neg (by rw [h]; decide)

theorem pairCommit_injCtrl (h : d.pairTakes q R.FLT_INJ_CTRL = true) : d.pairCommit q R.FLT_INJ_CTRL v = d.injCtrlCommit v :=
  if_neg (by rw [h]; decide)

theorem pairCommit_clayClear (h : d.pairTakes q R.EVT_CLAY_CLEAR = true) (hset : v.getLsbD 0 = true) (hnone : d.evt.clearing = none) :
    d.pairCommit q R.EVT_CLAY_CLEAR v =
      ({ d with evt := { d.evt with clearing := some q.code, clearUsed := d.get F.EVT_STATUS.CLAY_USED, clayQueue := [] } }).set F.EVT_STATUS.CLEARING 1 :=
  (if_neg (by rw [h]; decide)).trans ((if_pos hset).trans (if_neg (by rw [hnone]; decide)))

theorem pairCommit_erase (h : d.pairTakes q R.STORE_ERASE = true) (hset : v.getLsbD 0 = true) (hst : d.storeState = 3 ∨ d.storeState = 4) :
    d.pairCommit q R.STORE_ERASE v = d.storeEraseGo :=
  (if_neg (by rw [h]; decide)).trans (if_pos (c := v.getLsbD 0 = true ∧ (d.storeState = 3 ∨ d.storeState = 4)) ⟨hset, hst⟩)

theorem pairCommit_keyCtrl (h : d.pairTakes q R.LINK_KEY_CTRL = true) : d.pairCommit q R.LINK_KEY_CTRL v = d.setWord R.LINK_KEY_CTRL (v &&& 3) :=
  if_neg (by rw [h]; decide)

theorem pairCommit_key {slot word : Nat} (hs : slot < 2) (hw : word < 8) (h : d.pairTakes q (R.LINK_KEY slot word) = true) :
    d.pairCommit q (R.LINK_KEY slot word) v = d.setWord (R.LINK_KEY slot word) v := by
  have hoff : R.LINK_KEY slot word = 0x70800 + slot * 0x80 + word * 8 := rfl
  unfold pairCommit R.GLB_MODE_REQ R.GLB_SOFT_RESET R.PWR_DOMAIN_CTRL R.FLT_INJ_MODE R.FLT_INJ_CTRL R.EVT_CLAY_CLEAR R.STORE_ERASE R.LINK_KEY_CTRL
  rw [h, hoff, if_neg (by decide), if_neg (by omega), if_neg (by omega), if_neg (by omega), if_neg (by omega), if_neg (by omega), if_neg (by omega),
    if_neg (by omega), if_neg (by omega)]

end

end Dev

/-- The word of an operation of FLT_INJ_CTRL (R286, R287). -/
def injWord (source kind op : Nat) : Word := BitVec.ofNat 32 (source + kind * 1024 + op * 2 ^ 24)

section

variable {source kind op : Nat} (hs : source < 128) (hk : kind < 64) (ho : op < 8)

include hs hk ho

theorem injWord_fields : F.FLT_INJ_CTRL.SOURCE.ofWord (injWord source kind op) = source ∧ F.FLT_INJ_CTRL.KIND.ofWord (injWord source kind op) = kind ∧
    F.FLT_INJ_CTRL.OP.ofWord (injWord source kind op) = op := by
  have hword : (injWord source kind op).toNat = source + kind * 1024 + op * 2 ^ 24 := by
    rw [injWord, BitVec.toNat_ofNat]
    omega
  unfold Fld.ofWord
  rw [hword]
  refine ⟨?_, ?_, ?_⟩
  · show (source + kind * 1024 + op * 2 ^ 24) / 2 ^ 0 % 2 ^ 10 = source
    omega
  · show (source + kind * 1024 + op * 2 ^ 24) / 2 ^ 10 % 2 ^ 6 = kind
    omega
  · show (source + kind * 1024 + op * 2 ^ 24) / 2 ^ 24 % 2 ^ 3 = op
    omega

omit ho in
theorem injCompl_eq : injCompl source kind op = ~~~injWord source kind op := by
  unfold injCompl injWord
  rw [Nat.mod_eq_of_lt (by omega : source < 1024), Nat.mod_eq_of_lt hk]

end

namespace Dev

section

variable (d : Dev) {source kind : Nat}

/-- FORCE_SET takes effect in the mode FORCE, for a kind that the source has (R286). -/
theorem injCtrlCommit_force (hs : source < 128) (hk : kind < 64) {cls : FClass} (hcls : kindClass source kind = some cls) (hmode : d.injMode = 1) :
    d.injCtrlCommit (injWord source kind 1) =
      ((d.setWord R.FLT_INJ_CTRL (injWord source kind 1 &&& 0x0700FFFF#32)).forceGo source kind cls).injAccept := by
  obtain ⟨hsource, hkind, hop⟩ := injWord_fields hs hk (op := 1) (by decide)
  unfold injCtrlCommit
  simp only [hsource, hkind, hop, hcls, d.injMode_setWord_other (off := R.FLT_INJ_CTRL) _ (by decide), hmode, if_true]
  rfl

theorem injCtrlCommit_clear (hs : source < 128) (hk : kind < 64) :
    d.injCtrlCommit (injWord source kind 2) =
      ({ d.setWord R.FLT_INJ_CTRL (injWord source kind 2 &&& 0x0700FFFF#32) with
          flt := { d.flt with force := d.flt.force &&& ~~~sourceBit source } }).injAccept := by
  obtain ⟨hsource, -, hop⟩ := injWord_fields hs hk (op := 2) (by decide)
  unfold injCtrlCommit
  simp only [hsource, hop]
  rfl

theorem injCtrlCommit_clearAll :
    d.injCtrlCommit (injWord 0 0 3) = ({ d.setWord R.FLT_INJ_CTRL (injWord 0 0 3 &&& 0x0700FFFF#32) with flt := { d.flt with force := 0 } }).injAccept := rfl

/-- CB_ARM takes effect in the mode CHECKBIT, for a target that there is (R287). -/
theorem injCtrlCommit_arm (hmode : d.injMode = 2) (htarget : d.get F.FLT_INJ_MODE.CB_TARGET ≤ 4) :
    d.injCtrlCommit (injWord 0 0 4) =
      ({ d.setWord R.FLT_INJ_CTRL (injWord 0 0 4 &&& 0x0700FFFF#32) with flt := { d.flt with
          cbTarget := d.get F.FLT_INJ_MODE.CB_TARGET, cbBits := if d.get F.FLT_INJ_MODE.CB_BITS = 2 then 2 else 1,
          cbLeft := min 16 (max 1 (d.get F.FLT_INJ_MODE.CB_COUNT)) } }).injAccept := by
  have hfield : ∀ (f : Fld) (w : Word), f.off = R.FLT_INJ_MODE → (d.setWord R.FLT_INJ_CTRL w).get f = d.get f := fun f w hf =>
    d.get_setWord_other w (by rw [hf]; decide)
  obtain ⟨-, -, hop⟩ := injWord_fields (source := 0) (kind := 0) (op := 4) (by decide) (by decide) (by decide)
  unfold injCtrlCommit
  simp only [hop, d.injMode_setWord_other (off := R.FLT_INJ_CTRL) _ (by decide), hfield F.FLT_INJ_MODE.CB_TARGET _ rfl,
    hfield F.FLT_INJ_MODE.CB_BITS _ rfl, hfield F.FLT_INJ_MODE.CB_COUNT _ rfl, hmode, htarget, and_self, if_true]
  rfl

theorem injCtrlCommit_cancel :
    d.injCtrlCommit (injWord 0 0 5) = ({ d.setWord R.FLT_INJ_CTRL (injWord 0 0 5 &&& 0x0700FFFF#32) with flt := { d.flt with cbLeft := 0 } }).injAccept := rfl

end

/-- The complement of a guarded pair lets its value take effect, in the mode that the open pair was judged in (R257, R259). -/
theorem complWrite_of_commit {d d1 : Dev} {req : Requester} {x : Nat} {v : Word} (hx : x ∈ guardedOffs) (h : d.pairReady req x v)
    (hd : (d.pairShut req).pairTakes (d.reqOf req) x = true → (d.pairShut req).pairCommit (d.reqOf req) x v = d1) : d.complWrite req x (~~~v) = d1 := by
  obtain ⟨haligned, hbar⟩ := guardedOffs_in_bar0 x hx
  exact (complWrite_of_ready h haligned hbar).trans (hd h.mode)

/-- The same for an operation of FLT_INJ_CTRL. -/
theorem complWrite_of_injCtrl {d d1 : Dev} {req : Requester} {source kind op : Nat} (hs : source < 128) (hk : kind < 64)
    (h : d.pairReady req R.FLT_INJ_CTRL (injWord source kind op)) (hd : (d.pairShut req).injCtrlCommit (injWord source kind op) = d1) :
    d.complWrite req R.FLT_INJ_CTRL (injCompl source kind op) = d1 := by
  rw [injCompl_eq hs hk]
  exact complWrite_of_commit (by decide) h fun htakes => (pairCommit_injCtrl _ htakes).trans hd

end Dev

/-- Settles O34: the complement shuts the pair and lets its value take effect, which each clause says for its register (R257, R259). -/
theorem guardedPairRowsAct : Obligations.GuardedPairRowsAct := by
  unfold Obligations.GuardedPairRowsAct
  intro s req v hu
  dsimp only
  refine ⟨fun h hnone => ?mode, fun h hset => ?reset, fun h => ?domain, fun h => ?injMode, fun source kind cls hs hk hcls hmode h => ?force,
    fun source kind hs hk h => ?clear, fun h => ?clearAll, fun h hmode htarget => ?arm, fun h => ?cancel, fun h hset hst => ?erase,
    fun h hset hnone => ?clay, fun slot word hs hw h => ?key, fun h => ?keyCtrl⟩
  case mode => exact State.goesTo_of_onDev hu (Dev.complWrite_of_commit (by decide) h fun htakes => Dev.pairCommit_modeReq v htakes hnone)
  case reset => exact State.goesTo_of_onDev hu (Dev.complWrite_of_commit (by decide) h fun htakes => Dev.pairCommit_softReset v htakes hset)
  case domain => exact State.goesTo_of_onDev hu (Dev.complWrite_of_commit (by decide) h (Dev.pairCommit_domainCtrl v))
  case injMode => exact State.goesTo_of_onDev hu (Dev.complWrite_of_commit (by decide) h (Dev.pairCommit_injMode v))
  case erase => exact State.goesTo_of_onDev hu (Dev.complWrite_of_commit (by decide) h fun htakes => Dev.pairCommit_erase v htakes hset hst)
  case clay => exact State.goesTo_of_onDev hu (Dev.complWrite_of_commit (by decide) h fun htakes => Dev.pairCommit_clayClear v htakes hset hnone)
  case keyCtrl => exact State.goesTo_of_onDev hu (Dev.complWrite_of_commit (by decide) h (Dev.pairCommit_keyCtrl v))
  case key =>
    exact State.goesTo_of_onDev hu ((if_pos ⟨hs, hw⟩).trans (Dev.complWrite_of_commit (linkKey_mem hs hw) h (Dev.pairCommit_key v hs hw)))
  case force => exact State.goesTo_of_onDev hu (f := forceSet req source kind) (Dev.complWrite_of_injCtrl hs hk h (Dev.injCtrlCommit_force _ hs hk hcls hmode))
  case clear => exact State.goesTo_of_onDev hu (f := forceClear req source kind) (Dev.complWrite_of_injCtrl hs hk h (Dev.injCtrlCommit_clear _ hs hk))
  case clearAll =>
    exact State.goesTo_of_onDev hu (f := forceClearAll req) (Dev.complWrite_of_injCtrl (by decide : 0 < 128) (by decide : 0 < 64) h (Dev.injCtrlCommit_clearAll _))
  case arm =>
    exact State.goesTo_of_onDev hu (f := cbArm req) (Dev.complWrite_of_injCtrl (by decide : 0 < 128) (by decide : 0 < 64) h (Dev.injCtrlCommit_arm _ hmode htarget))
  case cancel =>
    exact State.goesTo_of_onDev hu (f := cbCancel req) (Dev.complWrite_of_injCtrl (by decide : 0 < 128) (by decide : 0 < 64) h (Dev.injCtrlCommit_cancel _))

end Sys2Proof.Machine

/-! What the fault collector does: messages on their way (R270, R271), capture and merging (R276, R277), the acknowledgement (R279), the fault and power
commands (R275, R286, R290, R333, R351), and the rows of faults, CROAK, the checkers and the cores (R273, R284, R291, R321 to R329). -/

namespace Sys2Proof

/-! ### Tables whose keys rise -/

theorem Tbl.mem_of_get? {α : Type} {t : Tbl α} {k : Nat} {v : α} (h : Tbl.get? t k = some v) : (k, v) ∈ t := by
  induction t with
  | nil => cases h
  | cons p t ih =>
    obtain ⟨a, w⟩ := p
    by_cases ha : a = k
    · have hv : w = v := Option.some.inj ((if_pos ha).symm.trans h)
      rw [ha, hv]
      exact List.mem_cons_self
    · exact List.mem_cons_of_mem _ (ih ((if_neg ha).symm.trans h))

/-- Every key behind the first one is greater. -/
theorem Tbl.lt_of_get?_tail {α : Type} {t : Tbl α} {a k : Nat} {w v : α} (hs : Tbl.sorted ((a, w) :: t) = true) (h : Tbl.get? t k = some v) : a < k := by
  simp only [Tbl.sorted, Bool.and_eq_true, List.all_eq_true, decide_eq_true_eq] at hs
  exact hs.1 _ (Tbl.mem_of_get? h)

theorem Tbl.getD_cons_same {α : Type} (t : Tbl α) (a : Nat) (w x : α) : Tbl.getD ((a, w) :: t) a x = w := by
  simp [Tbl.getD, Tbl.get?]

/-- With the first entry taken away every other key reads as before, and the first one reads the default. -/
theorem Tbl.getD_tail {α : Type} {t : Tbl α} {a : Nat} {w x : α} (hs : Tbl.sorted ((a, w) :: t) = true) (k : Nat) :
    Tbl.getD t k x = if a = k then x else Tbl.getD ((a, w) :: t) k x := by
  by_cases ha : a = k
  · have hnone : Tbl.get? t k = none := by
      by_contra h
      obtain ⟨v, hv⟩ := Option.ne_none_iff_exists'.1 h
      exact absurd ha (Nat.ne_of_lt (Tbl.lt_of_get?_tail hs hv))
    rw [if_pos ha, Tbl.getD, hnone]
    rfl
  · simp [Tbl.getD, Tbl.get?, ha]

end Sys2Proof

namespace Sys2Proof.Machine

/-! ### Messages on their way -/

/-- The first message of the first queue that has one, with what it leaves there (R271). -/
def firstQueued (t : Tbl (List FaultMsg)) : Option (Nat × FaultMsg × List FaultMsg) :=
  match t with
  | [] => none
  | (s, m :: r) :: _ => some (s, m, r)
  | (_, []) :: t => firstQueued t

theorem Dev.nextSource_eq (d : Dev) : d.nextSource = firstQueued d.flt.queues := by
  unfold nextSource
  induction d.flt.queues with
  | nil => rfl
  | cons p t ih =>
    obtain ⟨s, q⟩ := p
    cases q with
    | nil => exact ih
    | cons m r => rfl

/-- The collector takes the oldest message of the lowest source that has one (R271). -/
theorem firstQueued_of_lowest {t : Tbl (List FaultMsg)} {s : Nat} {m : FaultMsg} {r : List FaultMsg} (hs : Tbl.sorted t = true)
    (hget : Tbl.get? t s = some (m :: r)) (hlower : ∀ s', s' < s → Tbl.getD t s' [] = []) : firstQueued t = some (s, m, r) := by
  induction t with
  | nil => cases hget
  | cons p t ih =>
    obtain ⟨a, q⟩ := p
    by_cases ha : a = s
    · have hq : q = m :: r := Option.some.inj ((if_pos ha).symm.trans hget)
      rw [hq, ha]
      rfl
    · have hrest : Tbl.get? t s = some (m :: r) := (if_neg ha).symm.trans hget
      have hq : q = [] := (Tbl.getD_cons_same t a q []).symm.trans (hlower a (Tbl.lt_of_get?_tail hs hrest))
      rw [hq]
      refine ih (Bool.and_eq_true_iff.1 hs).2 hrest fun s' hlt => ?_
      rw [Tbl.getD_tail hs s', hlower s' hlt, ite_self]

/-- The flags of a combined message: those of both, and MERGED (R271). -/
theorem FaultMsg.flags_combine (a b : FaultMsg) : (a.combine b).flags = a.flags ||| b.flags ||| 4 := by
  have hbits : ∀ i r m i' r' m' : Bool,
      b2n (i || i') + 2 * b2n (r || r') + 4 * b2n true = (b2n i + 2 * b2n r + 4 * b2n m) ||| (b2n i' + 2 * b2n r' + 4 * b2n m') ||| 4 := by decide
  exact hbits _ _ _ _ _ _

namespace Dev

variable {d : Dev} {m : FaultMsg}

theorem pushFault_of_room (h : (Tbl.getD d.flt.queues m.source []).length < 8) :
    d.pushFault m = { d with flt := { d.flt with queues := Tbl.put d.flt.queues m.source (Tbl.getD d.flt.queues m.source [] ++ [m]) } } :=
  if_pos h

/-- A full queue combines the message into its newest entry, which is counted (R271). -/
theorem pushFault_of_full {l : List FaultMsg} {a : FaultMsg} (hq : Tbl.getD d.flt.queues m.source [] = l ++ [a]) (hl : l.length = 7) :
    d.pushFault m =
      ({ d with flt := { d.flt with queues := Tbl.put d.flt.queues m.source (l ++ [a.combine m]) } }).count R.FLT_COMBINED_COUNT 1 := by
  unfold pushFault
  simp [hq, hl]

/-- The queues of other blocks stay. -/
theorem queues_pushFault_other {s : Nat} (h : s ≠ m.source) : Tbl.getD (d.pushFault m).flt.queues s [] = Tbl.getD d.flt.queues s [] := by
  unfold pushFault
  dsimp only
  split
  · exact Tbl.getD_put_other _ _ _ h.symm
  · exact Tbl.getD_put_other _ _ _ h.symm

end Dev

/-- Settles O26: a queue takes a message or combines it, whichever its length says, and the collector searches the queues from the lowest source up. -/
theorem messagesQueueAndCombine : Obligations.MessagesQueueAndCombine := by
  unfold Obligations.MessagesQueueAndCombine
  intro d m q d1
  refine ⟨fun hroom => ?queued, fun l a hq hl => ?combined, fun s hs => Dev.queues_pushFault_other hs, fun s a r hs hget hlower => ?taken⟩
  case queued =>
    have hd1 : d1 = _ := Dev.pushFault_of_room hroom
    rw [hd1]
    exact ⟨Tbl.getD_put_same _ _ _ _, rfl⟩
  case combined =>
    have hd1 : d1 = _ := Dev.pushFault_of_full hq hl
    rw [hd1]
    exact ⟨a.combine m, Tbl.getD_put_same _ _ _ _, rfl, rfl, rfl, a.flags_combine m, rfl, Dev.word_setWord_same _ _ _⟩
  case taken => simp only [faultMessage, d.nextSource_eq, firstQueued_of_lowest hs hget hlower]

/-! ### Logging a message -/

/-- The higher of two classes below F is below F. -/
theorem FClass.max_ne_f {a b : FClass} (ha : a ≠ .f) (hb : b ≠ .f) : a.max b ≠ .f := by
  unfold FClass.max
  split <;> assumption

namespace Dev

theorem wordsKeptBut.mono {d d1 : Dev} {offs offs' : List Nat} (h : d.wordsKeptBut d1 offs) (hsub : offs ⊆ offs') : d.wordsKeptBut d1 offs' :=
  fun off hoff => h off fun hin => hoff (hsub hin)

theorem wordsKeptBut.get {d d1 : Dev} {offs : List Nat} (h : d.wordsKeptBut d1 offs) {f : Fld} (hf : f.off ∉ offs) : d1.get f = d.get f := by
  unfold Dev.get
  rw [h _ hf]

/-- An event that is lost is counted and raises its bit, and touches no other word (R296). -/
theorem wordsKeptBut_event_lost (d : Dev) (code : Nat) (b : Option Nat) (p : List Byte) :
    d.wordsKeptBut (d.event code b p) [R.EVT_LOST_COUNT, R.EVT_EVENT] := by
  unfold event
  split
  · exact wordsKeptBut_of_regs rfl _
  · exact .setWord (.count (wordsKeptBut_of_regs rfl _) (by decide) 1) (by decide) _

/-- The words that logging a message can change, beside the cause bits (Table 12-4). -/
def logWords : List Nat := [R.FLT_COUNT_C, R.FLT_COUNT_U, R.EVT_LOST_COUNT, R.EVT_EVENT]

theorem unitsKept_logFault (d : Dev) (m : FaultMsg) : d.unitsKept (d.logFault m) := by
  unfold logFault
  refine unitsKept.trans ?_ (unitsKept_event _ _ _ _)
  cases m.cls <;> rfl

theorem wordsKeptBut_logFault (d : Dev) (m : FaultMsg) : (d.setCause m.source).wordsKeptBut (d.logFault m) logWords := by
  unfold logFault
  refine wordsKeptBut.trans ?_ ((wordsKeptBut_event_lost _ _ _ _).mono (by decide))
  cases m.cls with
  | c => exact (wordsKeptBut_of_regs rfl _).count (by decide) 1
  | u => exact (wordsKeptBut_of_regs rfl _).count (by decide) 1
  | f => exact wordsKeptBut_of_regs rfl _

/-- Logging a message sets the cause bit of its source (R280). -/
theorem cause_logFault (d : Dev) {m : FaultMsg} (hs : m.source < 128) :
    ((d.logFault m).word (R.FLT_CAUSE (m.source / 32))).getLsbD (m.source % 32) = true := by
  have hcause : ∀ i, i < 4 → R.FLT_CAUSE i ∉ logWords := by decide
  have hbit : m.source % 32 < 32 := Nat.mod_lt _ (by decide)
  rw [d.wordsKeptBut_logFault m _ (hcause _ (by omega)), setCause, word_setWord_same]
  simp [hbit]

/-- It leaves ToD as it is. -/
theorem tod16_logFault (d : Dev) {m : FaultMsg} (hs : m.source < 128) : (d.logFault m).tod16 = d.tod16 := by
  have hcause : ∀ i, i < 4 → R.FLT_CAUSE i ≠ F.PWR_CLK_STATUS.CORE_SRC.off := by decide
  have hsrc : (d.logFault m).get F.PWR_CLK_STATUS.CORE_SRC = d.get F.PWR_CLK_STATUS.CORE_SRC := by
    rw [(d.wordsKeptBut_logFault m).get (by decide), get, setCause, d.word_setWord_other _ (hcause _ (by omega)), get]
  unfold tod16 onBypass
  rw [hsrc, (d.unitsKept_logFault m).time]

/-! ### Capture and merging -/

/-- The record that the capture of a message makes (R276). -/
def capturedRec (d : Dev) (m : FaultMsg) (r : Nat) : FaultRec :=
  { first := { m with merged := false }, lastSource := m.source, kindOr := m.kind, cls := m.cls, reaction := r, flagsOr := m.flags,
    mergeCount := 0, tick := d.tick.index, sec := secOf d.tod16 % 2 ^ 32, ns := nsOf d.tod16 }

theorem capturedRec_logFault (d : Dev) {m : FaultMsg} (hs : m.source < 128) (r : Nat) : (d.logFault m).capturedRec m r = d.capturedRec m r := by
  unfold capturedRec
  rw [d.tod16_logFault hs, (d.unitsKept_logFault m).tick]

/-- A device that takes a message into its record and does nothing more but raise an event bit: what a reaction up to an interrupt leaves (Table 12-4). -/
structure records (d d1 : Dev) (e : Fld) (y : FaultRec) : Prop where
  record : d1.flt.rec? = some y
  regs   : d1.regs = (d.raise e).regs
  mode   : d1.glb.mode = d.glb.mode

theorem react_of_low (d : Dev) (source done : Nat) {r : Nat} (hr : r ≤ 1) : d.react source done r = d := by
  unfold react
  rw [if_neg (by omega), if_neg (by omega), if_neg (by omega)]

theorem setDegrade_of_low (d : Dev) (source : Nat) {r : Nat} (hr : r ≤ 1) : d.setDegrade source r = d := if_neg (by omega)

/-- The effects on what the collector keeps beside the record. -/
theorem setDegrade_flt (d : Dev) (source r : Nat) : d.setDegrade source r = { d with flt := { d.flt with degrade := (d.setDegrade source r).flt.degrade } } := by
  unfold setDegrade
  split <;> rfl

/-- A captured message whose reaction is at most an interrupt becomes the record (R276). -/
theorem records_captureFault (d : Dev) {m : FaultMsg} {r : Nat} (hcls : m.cls ≠ .f) (hr : r ≤ 1) :
    d.records (d.captureFault m r) F.FLT_EVENT.CAPTURED (d.capturedRec m r) := by
  unfold captureFault
  dsimp only
  rw [if_neg hcls, react_of_low _ _ _ hr, setDegrade_of_low _ _ hr]
  split
  · exact ⟨rfl, rfl, rfl⟩
  · exact ⟨rfl, rfl, rfl⟩

/-- The record after a merge whose reaction does not exceed the one in force (R277). -/
def mergedRec (x : FaultRec) (m : FaultMsg) : FaultRec :=
  { x with lastSource := m.source, kindOr := x.kindOr ||| m.kind, flagsOr := x.flagsOr ||| m.flags ||| 4, cls := x.cls.max m.cls,
           mergeCount := satAdd x.mergeCount 1 }

theorem records_mergeFault (d : Dev) {x : FaultRec} {m : FaultMsg} {r : Nat} (hx : x.cls ≠ .f) (hm : m.cls ≠ .f) (hr : r ≤ x.reaction) :
    d.records (d.mergeFault x m r) F.FLT_EVENT.MERGED (mergedRec x m) := by
  have hcls : x.cls.max m.cls ≠ .f := FClass.max_ne_f hx hm
  unfold mergeFault
  dsimp only
  rw [if_neg hcls, max_eq_left hr, if_neg (Nat.lt_irrefl _), setDegrade_flt]
  split
  · exact ⟨rfl, rfl, rfl⟩
  · exact ⟨rfl, rfl, rfl⟩

section

variable {d d1 : Dev} {e : Fld} {y : FaultRec} (h : d.records d1 e y)

include h

theorem records.bit (hlen : e.len = 1) (hlo : e.lo < 32) : d1.bit e = true := by
  rw [← d.bit_raise hlen hlo]
  unfold Dev.bit Dev.get Dev.word
  rw [h.regs]

theorem records.word {off : Nat} (hoff : e.off ≠ off) : d1.word off = d.word off :=
  (congrArg (Tbl.getD · off 0) h.regs).trans (d.word_set_other e 1 hoff)

end

/-- A message that is logged and recorded raises its event bit, has its cause bit, and leaves the mode (R276, R280). -/
theorem records.logged {d d1 : Dev} {m : FaultMsg} {e : Fld} {y : FaultRec} (hs : m.source < 128) (h : (d.logFault m).records d1 e y)
    (he : e ∈ [F.FLT_EVENT.CAPTURED, F.FLT_EVENT.MERGED]) :
    d1.bit e = true ∧ (d1.word (R.FLT_CAUSE (m.source / 32))).getLsbD (m.source % 32) = true ∧ d1.glb.mode = d.glb.mode := by
  have hevent : ∀ e ∈ [F.FLT_EVENT.CAPTURED, F.FLT_EVENT.MERGED], e.len = 1 ∧ e.lo < 32 ∧ ∀ i, i < 4 → e.off ≠ R.FLT_CAUSE i := by decide
  obtain ⟨hlen, hlo, hoff⟩ := hevent e he
  refine ⟨h.bit hlen hlo, ?_, h.mode.trans (congrArg _ (d.unitsKept_logFault m).glb)⟩
  rw [h.word (hoff _ (by omega))]
  exact d.cause_logFault hs

theorem takeFault_of_free {d : Dev} (h : d.flt.rec? = none) (m : FaultMsg) : d.takeFault m =
    if m.cls = .c ∧ d.reactionOf m.source m.cls = 0 then d.logFault m else (d.logFault m).captureFault m (d.reactionOf m.source m.cls) := by
  simp only [takeFault, h]

theorem takeFault_of_handled {d : Dev} {x : FaultRec} (h : d.flt.rec? = some x) (m : FaultMsg) :
    d.takeFault m = (d.logFault m).mergeFault x m (d.reactionOf m.source m.cls) := by
  simp only [takeFault, h]

end Dev

/-- Settles O27: a message is logged first, which sets its cause bit and touches no unit, and is then captured where no record is handled and it reacts, or
merged where one is. -/
theorem faultsAreCapturedOrMerged : Obligations.FaultsAreCapturedOrMerged := by
  unfold Obligations.FaultsAreCapturedOrMerged
  intro d m hcls hs r d1
  refine ⟨fun hnone hlow hreacts => ?captured, fun hnone hc hzero => ?logged, fun x hx hxcls hr => ?merged⟩
  case captured =>
    have hd1 : d1 = _ := (Dev.takeFault_of_free hnone m).trans (if_neg fun ⟨hc, hzero⟩ => by
      rcases hreacts with hu | hone
      · exact absurd (hc.symm.trans hu) (by decide)
      · exact absurd (hzero.symm.trans hone) (by decide))
    rw [hd1]
    have hrec := (d.logFault m).records_captureFault hcls hlow
    rw [d.capturedRec_logFault hs] at hrec
    exact ⟨hrec.record, hrec.logged hs (by decide)⟩
  case logged =>
    have hd1 : d1 = _ := (Dev.takeFault_of_free hnone m).trans (if_pos ⟨hc, hzero⟩)
    have hkept := d.unitsKept_logFault m
    rw [hd1, hkept]
    exact hnone
  case merged =>
    have hd1 : d1 = _ := Dev.takeFault_of_handled hx m
    rw [hd1]
    have hrec := (d.logFault m).records_mergeFault hxcls hcls hr
    exact ⟨⟨_, hrec.record, rfl, rfl, rfl, rfl, rfl, rfl, rfl⟩, hrec.logged hs (by decide)⟩

/-! ### The commands -/

/-- Settles O46: each row is the one command operation on its spec, as for the channels, with the effect the clause states (R236, R238, R241). -/
theorem faultCommandsRun : Obligations.FaultCommandsRun := by
  unfold Obligations.FaultCommandsRun
  intro src ok
  refine ⟨?fltRead, ?fltAck, ?fltReaction, ?fltInject, ?fltInjectClear, ?pwrDomainSet, ?pwrStatus⟩
  all_goals exact .of_run (by decide) (fun _ => rfl) rfl

/-! ### The acknowledgement -/

namespace Dev

/-- The words of a list put into FLT_PREV, from word `k` on (R279). -/
def prevPut (d : Dev) (ws : List Word) (k : Nat) : Dev := (ws.zipIdx k).foldl (fun d w => d.setWord (R.FLT_PREV w.2) w.1) d

theorem prevPut_cons (d : Dev) (w : Word) (ws : List Word) (k : Nat) : d.prevPut (w :: ws) k = (d.setWord (R.FLT_PREV k) w).prevPut ws (k + 1) := rfl

theorem prevPut_regs (d : Dev) (ws : List Word) (k : Nat) : d.prevPut ws k = { d with regs := (d.prevPut ws k).regs } := by
  induction ws generalizing d k with
  | nil => rfl
  | cons w ws ih =>
    rw [prevPut_cons]
    exact ih _ _

theorem word_prevPut_other {off : Nat} (d : Dev) (ws : List Word) (k : Nat) (h : ∀ i, k ≤ i → i < k + ws.length → off ≠ R.FLT_PREV i) :
    (d.prevPut ws k).word off = d.word off := by
  induction ws generalizing d k with
  | nil => rfl
  | cons w ws ih =>
    rw [List.length_cons] at h
    rw [prevPut_cons, ih _ _ fun i hi hlt => h i (by omega) (by omega)]
    exact d.word_setWord_other w (h k (Nat.le_refl _) (by omega)).symm

theorem word_prevPut (d : Dev) (ws : List Word) (k : Nat) {i : Nat} (hi : i < ws.length) : (d.prevPut ws k).word (R.FLT_PREV (k + i)) = ws[i] := by
  induction ws generalizing d k i with
  | nil => cases hi
  | cons w ws ih =>
    rw [prevPut_cons]
    cases i with
    | zero =>
      rw [word_prevPut_other _ _ _ fun j hj _ => by unfold R.FLT_PREV; omega]
      exact word_setWord_same _ _ _
    | succ i =>
      rw [show k + (i + 1) = k + 1 + i by omega]
      exact ih _ _ (Nat.lt_of_succ_lt_succ hi)

/-- An event reaches the recorder and changes register words, and nothing else (R296). -/
theorem event_frame (d : Dev) (code : Nat) (b : Option Nat) (p : List Byte) :
    d.event code b p = { d with regs := (d.event code b p).regs, evt := (d.event code b p).evt } := by
  unfold event
  split <;> rfl

/-- The device as the acknowledgement makes it before its event: the record in FLT_PREV, and none handled (R279). -/
def acked (d : Dev) (x : FaultRec) : Dev :=
  { d.prevPut (x.words false) 0 with flt := { (d.prevPut (x.words false) 0).flt with rec? := none, croakStop := false } }

section

variable {d : Dev} {x : FaultRec} (hrec : d.flt.rec? = some x) (hmode : d.glb.mode ≠ .halt)

include hrec hmode

theorem ackFault_of_handled : d.ackFault = (d.acked x).event 0x011 none (packFields (x.fields true)) := by
  simp only [ackFault, hrec]
  exact if_neg hmode

/-- The acknowledgement ends the record and CROAK_STOP, and changes words and the recorder beside them (R279). -/
theorem ackFault_frame : d.ackFault = { d with regs := d.ackFault.regs, flt := { d.flt with rec? := none, croakStop := false }, evt := d.ackFault.evt } := by
  rw [ackFault_of_handled hrec hmode, event_frame, acked, prevPut_regs]

/-- The words that it changes are those of FLT_PREV, which take the record, and those that an event can change. -/
theorem wordsKeptBut_ackFault : (d.prevPut (x.words false) 0).wordsKeptBut d.ackFault [R.EVT_LOST_COUNT, R.EVT_EVENT] := by
  rw [ackFault_of_handled hrec hmode]
  exact wordsKeptBut.trans (d1 := d.acked x) (wordsKeptBut_of_regs rfl _) (wordsKeptBut_event_lost _ _ _ _)

theorem word_ackFault_prev {i : Nat} (hi : i < 8) : some (d.ackFault.word (R.FLT_PREV i)) = (x.words false)[i]? := by
  have hlen : i < (x.words false).length := hi
  have hprev : ∀ i, i < 8 → R.FLT_PREV i ∉ [R.EVT_LOST_COUNT, R.EVT_EVENT] := by decide
  have hword := d.word_prevPut (x.words false) 0 hlen
  rw [Nat.zero_add] at hword
  rw [wordsKeptBut_ackFault hrec hmode _ (hprev i hi), hword, List.getElem?_eq_getElem hlen]

theorem word_ackFault_other {off : Nat} (hprev : ∀ i, i < 8 → off ≠ R.FLT_PREV i) (hcount : off ≠ R.EVT_LOST_COUNT) (hevent : off ≠ R.EVT_EVENT) :
    d.ackFault.word off = d.word off := by
  rw [wordsKeptBut_ackFault hrec hmode off (by simp [hcount, hevent])]
  exact word_prevPut_other _ _ _ fun i _ hlt => hprev i (by simpa [FaultRec.words] using hlt)

end

/-- Without a record FAULT_N has no cause outside HALT but the time before CONFIGURE (R283). -/
theorem faultN_of_free {d : Dev} (hrec : d.flt.rec? = none) (hmode : d.glb.mode ≠ .halt) : d.faultN = !d.flt.configured := by
  simp [faultN, hrec, hmode]

/-- FLT_STATUS.HANDLING is 0 where no record is handled. -/
theorem fltStatus_even {d : Dev} (hrec : d.flt.rec? = none) : d.fltStatus % 2 = 0 := by
  unfold fltStatus
  simp only [hrec, Option.isSome_none, Option.map_none, Option.getD_none, b2n, Bool.false_eq_true, if_false]
  omega

end Dev

/-- Settles O28: where a record is handled outside HALT its words go to FLT_PREV and nothing but the record, CROAK_STOP and the recorder changes beside them. -/
theorem acknowledgementEndsHandling : Obligations.AcknowledgementEndsHandling := by
  unfold Obligations.AcknowledgementEndsHandling
  intro d
  refine ⟨fun x hrec hmode => ?ends, fun h => ?nothing, fun c hrec hres hserved => ?refused, fun s req be val hu hd h hb hval => ?written,
    fun s src e hu hd ha => ?command⟩
  case ends =>
    have hframe := Dev.ackFault_frame hrec hmode
    have hflt : d.ackFault.flt = { d.flt with rec? := none, croakStop := false } := congrArg Dev.flt hframe
    have hnone : d.ackFault.flt.rec? = none := by rw [hflt]
    have hsame : d.ackFault.glb = d.glb := by rw [hframe]
    have hn : d.ackFault.faultN = !d.flt.configured := by rw [Dev.faultN_of_free hnone (by rw [hsame]; exact hmode), hflt]
    refine ⟨Dev.fltStatus_even hnone, hflt, by rw [Dev.irqFault, hnone]; rfl, hn, fun i => Dev.word_ackFault_prev hrec hmode, ?_,
      fun off => Dev.word_ackFault_other hrec hmode⟩
    rw [hflt]
    exact hframe
  case nothing =>
    unfold Dev.ackFault
    cases hrec : d.flt.rec? with
    | none => rfl
    | some x => exact if_pos (h.resolve_left (by simp [hrec]))
  case refused => exact Dev.reject_of_state hres (.inl rfl) rfl hserved (state_mem_of_head (by rw [hrec]; rfl) _)
  case written =>
    subst hd
    exact State.goesTo_of_onDev hu (fltAckWrite_of_takes hb h hval)
  case command =>
    subst hd
    obtain ⟨-, hruns, -⟩ := faultCommandsRun src true
    exact hruns s e hu ha

/-! ### The rows -/

/-- Firmware runs where a core is online outside HALT (R282, R322). -/
theorem Dev.firmwareRuns_iff {d : Dev} : d.firmwareRuns = true ↔ d.coresRun = true ∧ d.glb.mode ≠ .halt := by
  simp [firmwareRuns]

/-- Settles O59. The collector takes the message that goes first (R271); a sample has a marked step of an online core (R329), the load a core online and
started (R326); the other rows stand behind their guards (R273, R284, R291, R321, R322). -/
theorem faultRowsAct : Obligations.FaultRowsAct := by
  unfold Obligations.FaultRowsAct
  refine ⟨?message, ?corrected, ?uncorrected, ?croakEdge, ?checked, ?beat, ?beatMissed, ?exception, ?sample, ?load⟩
  case message =>
    refine fun s m r => .of_row (f := faultMessage) (fun _ => rfl) fun d hnext => ?_
    simp only [faultMessage, hnext]
  case corrected => exact fun bank addr hb => .of_object_row (eccCorr bank addr) (fun _ => rfl) hb fun _ hc => if_neg hc
  case uncorrected => exact fun bank addr hb => .of_object_row (eccUncorr bank addr) (fun _ => rfl) hb fun _ hc => if_neg hc
  case croakEdge => exact .of_row (f := croakEdge) (fun _ => rfl) fun _ hc => if_neg hc
  case checked => exact fun missed falseFlags => .of_row (f := checkerTestDone missed falseFlags) (fun _ => rfl) fun _ hc => if_pos hc
  case beat => exact .of_row (f := firmwareHeartbeat) (fun _ => rfl) fun _ hc => if_neg (Bool.not_not_eq.2 hc)
  case beatMissed => exact .of_row (f := heartbeat) (fun _ => rfl) fun _ hc => if_neg hc
  case exception => exact fun core addr hc => .of_object_row (newtException core addr) (fun _ => rfl) hc fun _ hc => if_pos hc
  case sample =>
    refine fun s => .of_row (f := stepSample s) (fun _ => rfl) fun d ⟨hsampling, hcore, hmode, hmarked⟩ => if_pos ?_
    simp [Dev.sampleDue, hsampling, hcore, hmode, hmarked]
  case load =>
    refine fun meanUp maxUp => .of_row (f := mgmtLoad meanUp maxUp) (fun _ => rfl) fun d ⟨hstarted, hcores, hmode⟩ => if_neg ?_
    have hruns : d.firmwareRuns = true := Dev.firmwareRuns_iff.2 ⟨hcores, hmode⟩
    simp [hruns, Option.isSome_iff_ne_none.1 hstarted]

end Sys2Proof.Machine

/-! What the recorders do: the numbering of records and the staging FIFO (R293, R296), and the rows of the records, the Clay area, checkpoints and the store
(R293, R298 to R301, R307 to R312). -/

namespace Sys2Proof

/-! ### Bytes -/

theorem leBytes_succ (n v : Nat) : leBytes (n + 1) v = BitVec.ofNat 8 v :: leBytes n (v / 256) := by
  have hpow : ∀ i, v / 2 ^ (8 * (i + 1)) = v / 256 / 2 ^ (8 * i) := fun i => by
    rw [Nat.div_div_eq_div_mul, Nat.mul_add, Nat.pow_add, Nat.mul_comm]
  unfold leBytes
  rw [List.range_succ_eq_map, List.map_cons, List.map_map]
  simp [Function.comp_def, hpow]

/-- The bytes of a number that they hold spell it (R9). -/
theorem leNat_leBytes {n v : Nat} (h : v < 256 ^ n) : leNat (leBytes n v) = v := by
  induction n generalizing v with
  | zero => exact (Nat.lt_one_iff.1 h).symm
  | succ n ih =>
    have hrest : v / 256 < 256 ^ n := Nat.div_lt_of_lt_mul (by rw [Nat.mul_comm]; exact h)
    rw [leBytes_succ, leNat, ih hrest, BitVec.toNat_ofNat]
    exact Nat.mod_add_div v 256

theorem length_leBytes (n v : Nat) : (leBytes n v).length = n := by simp [leBytes]

/-- The bytes in the middle of a block are read back at their offset. -/
theorem slice_mid (a b c : List Byte) : slice (a ++ b ++ c) a.length b.length = b := by
  refine List.ext_getElem (by simp [slice]) fun i hi hb => ?_
  simp [slice, hb, List.getElem?_append_left, List.getElem?_append_right]

/-- A little-endian field of a block is read back at its offset. -/
theorem leAt_leBytes {a c : List Byte} {off n v : Nat} (hoff : a.length = off) (h : v < 256 ^ n) : leAt (a ++ leBytes n v ++ c) off n = v := by
  have hmid := slice_mid a (leBytes n v) c
  rw [hoff, length_leBytes] at hmid
  rw [leAt, hmid, leNat_leBytes h]

end Sys2Proof

namespace Sys2Proof.Machine

/-! ### Records -/

namespace Dev

/-- A record begins with its MARK, its length, its code and SEQ (Table 13-1). -/
theorem recordOf_eq (d : Dev) (code : Nat) (payload : List Byte) (supp : Option (Nat × Nat)) :
    ∃ n tail, d.recordOf code payload supp =
      leBytes 1 0xA5 ++ leBytes 1 n ++ leBytes 2 (code % 4096 + 4096 * b2n supp.isSome) ++ leBytes 4 d.evt.seq ++ tail := by
  unfold recordOf
  simp only [List.append_assoc]
  exact ⟨_, _, rfl⟩

theorem recSeq_recordOf (d : Dev) (code : Nat) (payload : List Byte) (supp : Option (Nat × Nat)) (hseq : d.evt.seq < 2 ^ 32) :
    recSeq (d.recordOf code payload supp) = d.evt.seq := by
  obtain ⟨n, tail, hrec⟩ := d.recordOf_eq code payload supp
  rw [hrec]
  exact leAt_leBytes (by simp [length_leBytes]) hseq

theorem recCode_recordOf (d : Dev) {code : Nat} (payload : List Byte) (supp : Option (Nat × Nat)) (hcode : code < 4096) :
    recCode (d.recordOf code payload supp) = code := by
  obtain ⟨n, tail, hrec⟩ := d.recordOf_eq code payload supp
  have hflag : b2n supp.isSome ≤ 1 := by unfold b2n; split <;> decide
  unfold recCode
  rw [hrec, List.append_assoc, leAt_leBytes (by simp [length_leBytes]) (by omega)]
  omega

theorem evt_foldl {α : Type} {f : Dev → α → Dev} (hf : ∀ (d : Dev) (a : α), (f d a).evt = d.evt) (l : List α) (d : Dev) : (l.foldl f d).evt = d.evt := by
  induction l generalizing d with
  | nil => rfl
  | cons a l ih => exact (ih _).trans (hf d a)

/-- What is written to SRAM leaves the recorder (R287). -/
theorem evt_sramWrite (d : Dev) (bank n : Nat) : (d.sramWrite bank n).evt = d.evt := by
  unfold sramWrite
  split
  · refine evt_foldl ?_ _ d
    exact fun _ _ => rfl
  · rfl

/-- What a record in the Sand area leaves of the recorder: the record stands last there, and SEQ stays (R297). -/
theorem evt_sandPut (d : Dev) (b : List Byte) (h : d.bit F.EVT_STATUS.SAND_OFF = false) : ∃ off, (d.sandPut b).evt.sand.getLast? = some (off, b) := by
  unfold sandPut
  rw [if_neg (ne_true_of_eq_false h)]
  dsimp only
  split
  · exact ⟨_, by rw [raise, set_evt, evt_sramWrite]; exact List.getLast?_concat⟩
  · exact ⟨_, by rw [evt_sramWrite]; exact List.getLast?_concat⟩

theorem seq_sandPut (d : Dev) (b : List Byte) : (d.sandPut b).evt.seq = d.evt.seq := by
  unfold sandPut
  split
  · rfl
  · dsimp only
    split
    · rw [raise, set_evt, evt_sramWrite]
      rfl
    · rw [evt_sramWrite]
      rfl

theorem evt_clayPut (d : Dev) (b : List Byte) : (d.clayPut b).evt = { d.evt with clayQueue := (d.clayPut b).evt.clayQueue } := by
  unfold clayPut
  split <;> rfl

theorem evt_mirrorPut (d : Dev) (b : List Byte) : (d.mirrorPut b).evt = d.evt := by
  unfold mirrorPut
  split
  · rfl
  · dsimp only
    split <;> rfl

/-- The device with SEQ stepped, as a record that is written meets it (R293). -/
def seqStepped (d : Dev) : Dev := { d with evt := { d.evt with seq := (d.evt.seq + 1) % 2 ^ 32 } }

/-- Of what a record leaves in the recorder, the Clay area and the event region change neither SEQ nor the Sand area (R293). -/
theorem evt_writeRecord (d : Dev) (code : Nat) (payload : List Byte) (supp : Option (Nat × Nat)) :
    (d.writeRecord code payload supp).evt.seq = (d.seqStepped.sandPut (d.recordOf code payload supp)).evt.seq ∧
    (d.writeRecord code payload supp).evt.sand = (d.seqStepped.sandPut (d.recordOf code payload supp)).evt.sand := by
  unfold writeRecord
  rw [evt_mirrorPut, evt_clayPut]
  exact ⟨rfl, rfl⟩

theorem event_of_room {d : Dev} (h : d.evt.fifo.length < 64) (code : Nat) (bucket : Option Nat) (payload : List Byte) :
    d.event code bucket payload = { d with evt := { d.evt with fifo := d.evt.fifo ++ [⟨code, bucket, payload⟩] } } := if_pos h

/-- An event that finds the FIFO full is counted, and its loss is shown (R296). -/
theorem event_of_full {d : Dev} (h : 64 ≤ d.evt.fifo.length) (code : Nat) (bucket : Option Nat) (payload : List Byte) :
    d.event code bucket payload = (({ d with evt := { d.evt with lost := d.evt.lost + 1, lostMs := if d.evt.lost = 0 then d.optime else d.evt.lostMs } }).count
      R.EVT_LOST_COUNT 1).raise F.EVT_EVENT.LOST := if_neg (Nat.not_lt.2 h)

end Dev

/-- Settles O32: a record carries SEQ before it is stepped, goes behind the others in the Sand area, and an event goes behind the others in the FIFO or is
counted. -/
theorem recordsAreNumbered : Obligations.RecordsAreNumbered := by
  unfold Obligations.RecordsAreNumbered
  intro d code payload supp bucket hcode hseq
  obtain ⟨hsteps, hsand⟩ := d.evt_writeRecord code payload supp
  refine ⟨hsteps.trans (Dev.seq_sandPut _ _), d.recSeq_recordOf code payload supp hseq, d.recCode_recordOf payload supp hcode, fun hon => ?sand,
    fun hroom => Dev.event_of_room hroom code bucket payload, fun hfull => ?lost⟩
  case sand =>
    rw [hsand]
    exact d.seqStepped.evt_sandPut _ hon
  case lost =>
    rw [Dev.event_of_full hfull]
    exact ⟨rfl, rfl, Dev.bit_raise _ rfl (by decide), (Dev.word_set_other _ _ _ (by decide)).trans (Dev.word_setWord_same _ _ _)⟩

/-! ### The rows -/

/-- Settles O60. A row of the recorder or the store does what stands at the head of what it serves: the oldest event (R293), a Clay record (R298), the oldest
segment in flight (R309), the oldest NVMe command (R310, R312); the other rows stand behind their guards (R299, R301, R307). -/
theorem recorderRowsAct : Obligations.RecorderRowsAct := by
  unfold Obligations.RecorderRowsAct
  refine ⟨?record, ?haltSlot, ?claySlot, ?cleared, ?checkpoint, ?block, ?perst, ?mounted, ?linkDown, ?retrain, ?segment, ?completed, ?bringUpFails, ?jobTimeout,
    ?segTimeout, ?bringUpTimeout⟩
  case record =>
    refine fun i r => .of_row (f := eventRecordWrite) (fun _ => rfl) fun d ⟨hfifo, hruns⟩ => ?_
    simp only [eventRecordWrite, hfifo]
    exact if_neg (Bool.not_not_eq.2 (Dev.firmwareRuns_iff.2 (by simpa [not_or, and_comm] using hruns)))
  case haltSlot =>
    refine fun ok b r s => .of_row (f := clayProgram ok) (fun _ => rfl) fun d ⟨hcores, hqueue, hslot⟩ => ?_
    simp only [clayProgram, hqueue, hslot, hcores]
    rfl
  case claySlot =>
    refine fun ok b r => .of_row (f := clayProgram ok) (fun _ => rfl) fun d ⟨hcores, hhalt, hqueue, hmode⟩ => ?_
    simp only [clayProgram, hhalt, hqueue]
    exact if_neg (Bool.not_not_eq.2 (Dev.firmwareRuns_iff.2 ⟨hcores, hmode⟩))
  case cleared =>
    refine fun ok req => .of_row (f := clayClearDone ok) (fun _ => rfl) fun d hclearing => ?_
    simp only [clayClearDone, hclearing]
  case checkpoint => exact fun ok => .of_row (f := checkpoint ok) (fun _ => rfl) fun _ hc => if_neg (Bool.not_not_eq.2 hc)
  case block =>
    refine fun t => .of_row (f := eventBlockTimer) (fun _ => rfl) fun d hsince => ?_
    simp only [eventBlockTimer, hsince]
  case perst =>
    refine fun t => .of_row (f := stoPerstN) (fun _ => rfl) fun d hsince => ?_
    simp only [stoPerstN, hsince]
  case mounted => exact fun i => .of_row (f := storeMounted i) (fun _ => rfl) fun _ hc => if_pos hc
  case linkDown => exact .of_row (f := storeLinkDown) (fun _ => rfl) fun _ hc => if_pos hc
  case retrain =>
    refine fun trained t => .of_row (f := storeRetrain trained) (fun _ => rfl) fun d hlost => ?_
    simp only [storeRetrain, hlost]
  case segment =>
    refine fun ok s => .of_row (f := segmentWrite ok) (fun _ => rfl) fun d ⟨hreached, hdue⟩ => (if_neg hreached).trans ?_
    simp only [hdue]
  case completed =>
    refine fun ok j r => .of_row (f := nvmeCompletion ok) (fun _ => rfl) fun d ⟨hreached, hrunning, hlink, hjobs⟩ => ?_
    simp only [Bool.not_eq_true'] at hrunning
    simp only [nvmeCompletion, hreached, hrunning, hlink, hjobs]
    rfl
  case bringUpFails =>
    refine fun ok => .of_row (f := nvmeCompletion ok) (fun _ => rfl) fun d ⟨hreached, hstarting, hfails⟩ => ?_
    simp only [Bool.not_eq_true'] at hfails
    exact (if_neg (Bool.not_not_eq.2 hreached)).trans ((if_pos hstarting).trans (if_neg (ne_true_of_eq_false hfails)))
  case jobTimeout =>
    refine fun j r => .of_row (f := nvmeTimeout) (fun _ => rfl) fun d ⟨hrunning, hlink, hjobs⟩ => ?_
    simp only [Bool.not_eq_true'] at hrunning
    simp only [nvmeTimeout, hrunning, hlink, hjobs]
    rfl
  case segTimeout =>
    refine fun s => .of_row (f := nvmeTimeout) (fun _ => rfl) fun d ⟨hrunning, hlink, hjobs, hdue, hwrites⟩ => ?_
    simp only [Bool.not_eq_true'] at hrunning
    simp only [nvmeTimeout, hrunning, hlink, hjobs, hdue, hwrites]
    rfl
  case bringUpTimeout => exact .of_row (f := nvmeTimeout) (fun _ => rfl) fun _ hc => if_pos hc

end Sys2Proof.Machine

/-! What supplies, resets, modes and start-up do: the state right after reset (R334), the rows that act without supplies (R334, R365, R366), mode requests
(R245, R347), the steps of start-up (R344 to R346), the host link and SMBus (R362, R363), and clocks, rails, temperatures and domains (R332 to R340). -/

namespace Sys2Proof.Machine

/-! ### Reset -/

/-- No register has an event bit that is 1 after reset (R269). -/
theorem resetRegs_rc :
    (regMap.all fun r => decide (r.bits .rc = 0) || resetRegs.all fun p => !r.hits p.1 || decide (p.2 &&& r.bits .rc = 0)) = true := by decide +kernel

theorem resetRegs_rc_of_findReg {p : Nat × Word} (hp : p ∈ resetRegs) {r : RegDesc} (hr : findReg p.1 = some r) : p.2 &&& r.bits .rc = 0 := by
  have hhits : r.hits p.1 = true := List.find?_some (p := fun r : RegDesc => r.hits p.1) hr
  have hreg := List.all_eq_true.1 resetRegs_rc r (mem_of_findReg hr).1
  simp only [Bool.or_eq_true, decide_eq_true_eq, List.all_eq_true, Bool.not_eq_true'] at hreg
  rcases hreg with hnone | hwords
  · rw [hnone, BitVec.ofNat_eq_ofNat, BitVec.and_zero]
  · exact (hwords p hp).resolve_left (ne_false_of_eq_true hhits)

/-- Without supplies the pin of a signal that the device drives is high impedance, but for FAULT_N, which VDD_AON holds low (R334, R357). -/
theorem signalPin_powerOn {x : Signal} (hx : x.drives = true) : Dev.powerOn.signalPin x = some (if x = .faultN then .low else .highZ) := by
  have hdown : (!Dev.powerOn.boot.powered) = true ∨ Dev.powerOn.boot.rstLow = true := .inl rfl
  unfold Dev.signalPin
  rw [if_pos hdown]
  by_cases hfault : x = .faultN
  · rw [if_pos hfault, if_pos hfault]
    rfl
  · have hrst : x ≠ .rstN := fun h => by
      rw [h] at hx
      cases hx
    rw [if_neg hfault, if_neg hrst, if_pos hx, if_neg hfault]

/-- Settles O3: the registers and the pins by the two lemmas above, every other item as the reset state has it. -/
theorem resetLeaves : Obligations.ResetLeaves := by
  unfold Obligations.ResetLeaves
  exact ⟨rfl, rfl, rfl, rfl, fun _ => signalPin_powerOn, rfl, rfl, rfl, fun _ => rfl, rfl, rfl, fun _ hp _ => resetRegs_rc_of_findReg hp,
    fun _ => ⟨rfl, rfl⟩, fun _ => rfl, fun _ => rfl, fun _ => rfl, fun _ => rfl⟩

/-! ### Without supplies -/

/-- A state that is not up opens no tick (R334, R365). -/
theorem State.onBoundary_of_not_up {s : State} (h : ¬ s.up) : s.onBoundary = s := by
  have hdown : ¬ (s.dev.boot.powered && !s.dev.boot.rstLow) = true := by simpa [State.up] using h
  exact if_neg hdown

/-- Settles O6: a row acts only on a state that is up, unless it is one of those that the statement names. -/
theorem noSupplyNoEffect : Obligations.NoSupplyNoEffect := by
  unfold Obligations.NoSupplyNoEffect
  intro c s hdown hgood hfall hassert hrelease hperst hperstUp hcheck htap
  rcases exec_shape c with hacts | ⟨-, hboundary⟩ | ⟨hrow, -⟩ | ⟨hrow, -⟩
  · exact hacts.down (by simpa [State.up] using hdown)
  · exact (hboundary s).trans (congrArg _ (State.onBoundary_of_not_up hdown))
  · rcases hrow with ⟨a, h⟩ | ⟨a, h⟩ | ⟨a, h⟩ | ⟨a, h⟩ | h
    · exact absurd h (hrelease a)
    · exact absurd h (hcheck a)
    · exact absurd h (htap a)
    · exact absurd h (hperst a)
    · exact absurd h hperstUp
  · rcases hrow with ⟨a, b, h⟩ | h | ⟨a, h⟩
    · exact absurd h (hgood a b)
    · exact absurd h hfall
    · exact absurd h (hassert a)

/-! ### Supplies, RST_N, the TAP and the tick boundary -/

namespace State

variable {s : State} {f : Dev → Dev} {d1 : Dev}

theorem not_up_iff : ¬ s.up ↔ (!s.dev.boot.powered) = true ∨ s.dev.boot.rstLow = true := by
  unfold up
  cases s.dev.boot.powered <;> simp

/-- A row that acts in every state of the supplies goes where its effect on the device leads. -/
theorem goesTo_of_onAll (h : f s.dev = d1) : Host.Outcome.next (φ := Fault) (ρ := Refusal) (s.onAll f) = s.goesTo d1 :=
  congrArg s.goesTo h

/-- A restart that is taken leaves the device where its effect leads, and no index opened (R110). -/
theorem next_of_onReset {taken : Bool} (htaken : taken = true) (h : f s.dev = d1) :
    Host.Outcome.next (φ := Fault) (ρ := Refusal) (s.onReset taken f) = .next { s with dev := d1.settle, lastOpened := none } := by
  unfold onReset
  rw [h, htaken]
  rfl

/-- The boundary that a state opens is carried out at its instant, and its index is noted (R124, R125). -/
theorem onBoundary_of_opens {k : Nat} (hu : s.up) (hk : s.dev.opensK s.lastOpened = some k) :
    s.onBoundary = { s with dev := ((s.dev.tillTod (s.dev.gridTime k * 2 ^ 32)).boundary k).settle, lastOpened := some k } := by
  obtain ⟨hpowered, hrst⟩ := hu
  have hacts : (s.dev.boot.powered && !s.dev.boot.rstLow) = true := by rw [hpowered, hrst]; rfl
  unfold onBoundary Dev.tickBoundary
  rw [if_pos hacts]
  simp only [hk]

end State

/-- After a power-on the mode is BOOT already, which is the mode that the transition leaves (log 207). -/
theorem Dev.toBoot_coldReset (d : Dev) (b : BootState) : (d.coldReset b).toBoot .boot = (d.coldReset b).setMode .boot 2 0 := rfl

/-- Power good with RST_N high, and with RST_N low (R334, R365). -/
theorem powerGood_of_unpowered {d : Dev} (h : d.boot.powered = false) (rstHigh : Bool) (bootSel : Nat) : powerGood rstHigh bootSel d =
    let d1 := (((d.coldReset { BootState.powerOn with powered := true, rstLow := !rstHigh }).setMode .boot 2 0).stepTo 1).sensorsStart
    if rstHigh then (d1.bootSample bootSel).aonStart else d1 := by
  unfold powerGood
  rw [if_neg (ne_true_of_eq_false h), Dev.toBoot_coldReset]

/-- Settles O36. Each row acts in every state of the supplies and stands behind its guard (R334, R344, R365, R366); a restart numbers ticks anew (R110), and a
boundary notes the index that it opens (R125). -/
theorem supplyAndBoundaryRowsAct : Obligations.SupplyAndBoundaryRowsAct := by
  unfold Obligations.SupplyAndBoundaryRowsAct
  rintro s d rfl
  refine ⟨fun bootSel hoff => ?goodHigh, fun bootSel hoff => ?goodLow, fun hon => ?fall, fun lowNs hu htaken => ?assert, fun bootSel hon hlow => ?release,
    fun lowNs hdown hhigh htaken => ?perst, fun hlow => ?perstUp, fun good hon hstep hgood => ?railCheck, fun tms tdi hon htrst => ?tck, fun hon => ?trst,
    fun k hu hk => ?boundary⟩
  case goodHigh => exact State.next_of_onReset (by rw [hoff]; rfl) (powerGood_of_unpowered hoff true bootSel)
  case goodLow => exact State.next_of_onReset (by rw [hoff]; rfl) (powerGood_of_unpowered hoff false bootSel)
  case fall => exact State.next_of_onReset hon (if_pos hon)
  case assert =>
    obtain ⟨hpowered, hrst⟩ := hu
    exact State.next_of_onReset (f := rstNAssert lowNs) (by rw [hpowered, hrst, htaken]; rfl) (if_pos ⟨hpowered, by rw [hrst]; rfl, htaken⟩)
  case release => exact State.goesTo_of_onAll (f := rstNRelease bootSel) (if_pos ⟨hon, hlow⟩)
  case perst =>
    exact State.goesTo_of_onAll (f := perstN lowNs)
      ((if_neg (ne_true_of_eq_false hhigh)).trans ((if_pos htaken).trans (if_pos (State.not_up_iff.1 hdown))))
  case perstUp => exact State.goesTo_of_onAll (f := perstNRelease) (if_pos hlow)
  case railCheck => exact State.goesTo_of_onAll (f := railCheck good) ((if_pos ⟨hon, hstep⟩).trans (if_pos hgood))
  case tck =>
    exact State.goesTo_of_onAll (f := testAccessPort (.tck tms tdi)) ((if_neg (by simp [hon])).trans (if_neg (ne_true_of_eq_false htrst)))
  case trst => exact State.goesTo_of_onAll (f := testAccessPort (.trst true)) (if_neg (by simp [hon]))
  case boundary => exact congrArg _ (State.onBoundary_of_opens hu hk)

/-! ### Mode requests -/

/-- A code is that of one mode (R245). -/
theorem modeOfCode_code (m : Mode) : modeOfCode m.code = some m := by
  cases m <;> rfl

theorem modeOfCode_of_gt {code : Nat} (h : 5 < code) : modeOfCode code = none := by
  obtain ⟨n, rfl⟩ := Nat.exists_eq_add_of_le' h
  rfl

namespace Dev

/-- The line of Table 15-8 for a request that is not for the mode in force: what the transition asks for, or MODE where the table has none (R347). -/
def modeLine (d : Dev) (old new : Mode) : Option Status :=
  match old, new with
  | .configure, .run => none
  | .configure, .test => none
  | .test, .configure => none
  | .run, .configure => if d.anyShaft then some .state else none
  | .degraded, .run => if d.runAllowed then none else some .state
  | _, _ => some .mode

/-- The mode in force answers OK, and every other one by its line of the table (R245, R347). -/
theorem judgeMode_code (d : Dev) (m : Mode) : d.judgeMode m.code = if m = d.glb.mode then some .ok else d.modeLine d.glb.mode m := by
  unfold judgeMode
  rw [modeOfCode_code]
  rfl

theorem judgeMode_of_gt (d : Dev) {code : Nat} (h : 5 < code) : d.judgeMode code = some .range := by
  unfold judgeMode
  rw [modeOfCode_of_gt h]

/-- The five transitions that a request can make (Table 15-8). -/
def requestable : List (Mode × Mode) := [(.configure, .run), (.configure, .test), (.test, .configure), (.run, .configure), (.degraded, .run)]

theorem modeLine_of_not_requestable (d : Dev) {old new : Mode} (h : (old, new) ∉ requestable) : d.modeLine old new = some .mode := by
  unfold modeLine
  split
  case h_6 => rfl
  all_goals exact absurd (by decide) h

/-- Each of them is refused for nothing but STATE. -/
theorem modeLine_of_requestable (d : Dev) : ∀ t ∈ requestable, d.modeLine t.1 t.2 = none ∨ d.modeLine t.1 t.2 = some .state := by
  simp only [requestable, List.forall_mem_cons]
  refine ⟨.inl rfl, .inl rfl, .inl rfl, (ite_eq_or_eq _ _ _).symm, ite_eq_or_eq _ _ _, nofun⟩

/-- RUN may be entered from DEGRADED where no record is handled and no source has both its degrade and its live bit (R281). -/
theorem modeLine_degraded_run (d : Dev) :
    d.modeLine .degraded .run = some .state ↔ d.flt.rec? ≠ none ∨ d.flt.degrade &&& (d.flt.live ||| d.flt.force) ≠ 0 := by
  have hallowed : d.runAllowed = true ↔ d.flt.rec? = none ∧ d.flt.degrade &&& (d.flt.live ||| d.flt.force) = 0 := by simp [runAllowed]
  rw [← not_and_or, ← hallowed]
  cases h : d.runAllowed <;> simp [modeLine, h]

theorem modeLine_run_configure (d : Dev) : d.modeLine .run .configure = some .state ↔ d.anyShaft = true := by
  cases h : d.anyShaft <;> simp [modeLine, h]

end Dev

/-- Settles O29: a request for another mode goes by its line of the table. -/
theorem modeRequestsFollowTheTable : Obligations.ModeRequestsFollowTheTable := by
  unfold Obligations.ModeRequestsFollowTheTable
  intro d m asked allowed
  have hother : ∀ t : Mode × Mode, t ∈ allowed → t.2 ≠ t.1 := by decide
  have hline : m ≠ d.glb.mode → d.judgeMode m.code = d.modeLine d.glb.mode m := fun hne => (d.judgeMode_code m).trans (if_neg hne)
  refine ⟨fun hsame => ?same, fun hin => ?five, fun hne hout => ?rest, fun hasked => ?configure, fun hasked => ?run, fun hin => ?free,
    fun _ => d.judgeMode_of_gt⟩
  case same => exact (d.judgeMode_code m).trans (if_pos hsame)
  case five =>
    rw [hline (hother _ hin)]
    exact d.modeLine_of_requestable _ hin
  case rest =>
    rw [hline hne]
    exact d.modeLine_of_not_requestable hout
  case configure =>
    obtain ⟨hold, rfl⟩ := Prod.mk.inj hasked
    rw [hline (by rw [hold]; decide), hold]
    exact d.modeLine_run_configure
  case run =>
    obtain ⟨hold, rfl⟩ := Prod.mk.inj hasked
    rw [hline (by rw [hold]; decide), hold]
    exact d.modeLine_degraded_run
  case free =>
    have hnone : ∀ t ∈ [(Mode.configure, Mode.run), (.configure, .test), (.test, .configure)], d.modeLine t.1 t.2 = none := by
      simp only [List.forall_mem_cons]
      exact ⟨rfl, rfl, rfl, nofun⟩
    have hsub : [(Mode.configure, Mode.run), (.configure, .test), (.test, .configure)] ⊆ allowed := by decide
    rw [hline (hother _ (hsub hin))]
    exact hnone _ hin

/-! ### Start-up -/

/-- Settles O48. Each row stands behind its step of start-up (R344); what step 4 does turns on whether the slot in use can be read and verifies (R324), what
step 5 does on whether both boot configurations can be read (R343). -/
theorem startUpRowsAct : Obligations.StartUpRowsAct := by
  unfold Obligations.StartUpRowsAct
  refine ⟨?release, ?copied, ?notCopied, ?noHeader, ?noBody, ?checked, ?noConfigA, ?noConfigB, ?initialised, ?pllLock, ?list, ?refs, ?time, ?cal, ?warm⟩
  case release => exact .of_row (f := resetRelease) (fun _ => rfl) fun _ hc => if_pos hc
  case copied => exact fun f => .of_row (f := imageCopy (some f)) (fun _ => rfl) fun _ hc => if_pos hc
  case notCopied => exact .of_row (f := imageCopy none) (fun _ => rfl) fun _ hc => if_pos hc
  case noHeader =>
    refine fun body f => .of_row (f := signatureCheck none body) (fun _ => rfl) fun d ⟨hstep, hflash⟩ => (if_pos hstep).trans ?_
    simp only [Dev.imageFetch, hflash]
  case noBody =>
    refine fun header f => .of_row (f := signatureCheck (some header) none) (fun _ => rfl) fun d ⟨hstep, hflash⟩ => (if_pos hstep).trans ?_
    simp only [Dev.imageFetch, hflash]
  case checked =>
    refine fun header body f => .of_row (f := signatureCheck (some header) (some body)) (fun _ => rfl) fun d ⟨hstep, hflash⟩ => (if_pos hstep).trans ?_
    simp only [Dev.imageRead, Dev.imageFetch, hflash, Dev.imageStart]
    rfl
  case noConfigA => exact fun cfgB => .of_row (f := sramInitialisation none cfgB) (fun _ => rfl) fun _ hc => if_pos hc
  case noConfigB => exact fun cfgA => .of_row (f := sramInitialisation (some cfgA) none) (fun _ => rfl) fun _ hc => if_pos hc
  case initialised => exact fun cfgA cfgB => .of_row (f := sramInitialisation (some cfgA) (some cfgB)) (fun _ => rfl) fun _ hc => if_pos hc
  case pllLock => exact .of_row (f := corePllLock) (fun _ => rfl) fun _ hc => if_pos hc
  case list => exact .of_row (f := startUpList) (fun _ => rfl) fun _ hc => if_pos hc
  case refs => exact .of_row (f := referenceQualification) (fun _ => rfl) fun _ hc => if_pos hc
  case time => exact .of_row (f := timeAcquisition) (fun _ => rfl) fun _ hc => if_pos hc
  case cal => exact .of_row (f := initialCalibration) (fun _ => rfl) fun _ hc => if_pos hc
  case warm => exact .of_row (f := warmResetDone) (fun _ => rfl) fun _ hc => if_pos hc

/-! ### The host link and SMBus -/

/-- A row that acts in every state of the supplies, on one that is up. -/
theorem RowGoes.of_all_row {i : Instr} {cond : Dev → Prop} {f eff : Dev → Dev} (hexec : ∀ s : State, exec i s = .next (s.onAll f))
    (h : ∀ s : State, s.up → cond s.dev → f s.dev = eff s.dev) : RowGoes i cond eff := by
  intro s hu hc
  rw [hexec, State.onAll, h s hu hc]
  rfl

/-- Settles O49. PERST_N takes part in every state of the supplies, and resets the endpoint on one that is up (R346, R365); the loss of the link turns on its level
(R362), and a process call on its form (R363). -/
theorem hostLinkRowsAct : Obligations.HostLinkRowsAct := by
  unfold Obligations.HostLinkRowsAct
  refine ⟨?perst, ?perstUp, ?perstStays, ?linkDown, ?linkDownInReset, ?linkUp, ?call, ?badCall, ?smbusTimeout⟩
  case perst =>
    refine fun lowNs => .of_all_row (f := perstN lowNs) (fun _ => rfl) fun s hu ⟨hhigh, htaken⟩ => ?_
    exact (if_neg (by simpa using hhigh)).trans ((if_pos htaken).trans (if_neg fun hdown => State.not_up_iff.2 hdown hu))
  case perstUp => exact .of_all_row (f := perstNRelease) (fun _ => rfl) fun _ _ hc => if_pos hc
  case perstStays => exact .of_all_row (f := perstNRelease) (fun _ => rfl) fun _ _ hc => if_neg hc
  case linkDown =>
    refine .of_row (f := hpeLinkDown) (fun _ => rfl) fun d ⟨hup, hhigh⟩ => (if_pos hup).trans ?_
    simp only [Bool.not_eq_true'] at hhigh
    simp only [hhigh]
    rfl
  case linkDownInReset =>
    refine .of_row (f := hpeLinkDown) (fun _ => rfl) fun d ⟨hup, hlow⟩ => (if_pos hup).trans ?_
    simp only [hlow]
    rfl
  case linkUp => exact .of_row (f := hpeLinkUp) (fun _ => rfl) fun _ hc => if_neg hc
  case call =>
    refine fun code bytes readExtra => .of_row (f := smbusProcessCall code bytes readExtra) (fun _ => rfl) fun d ⟨hcode, hlen, hoff⟩ => if_neg ?_
    exact not_or.2 ⟨not_not_intro hcode, not_or.2 ⟨not_not_intro hlen, Nat.not_le_of_lt hoff⟩⟩
  case badCall => exact fun code bytes readExtra => .of_row (f := smbusProcessCall code bytes readExtra) (fun _ => rfl) fun _ hc => if_pos hc
  case smbusTimeout => exact .of_row (f := smbusTimeout) (fun _ => rfl) fun _ _ => rfl

/-! ### Clocks, rails, temperatures and domains -/

/-- Settles O50. The rows of the clocks, rails and temperatures stand behind their guards (R335 to R340, R358), those of a switch behind the one in progress
(R332). -/
theorem powerRowsAct : Obligations.PowerRowsAct := by
  unfold Obligations.PowerRowsAct
  refine ⟨?lost, ?lostAgain, ?returned, ?pllLost, ?pllLostAgain, ?relocked, ?measured, ?railUv, ?railOv, ?converted, ?tjHigh, ?tjCrit, ?switchStart, ?switchDone,
    ?switchFail, ?vddo⟩
  case lost => exact .of_row (f := oscinLost) (fun _ => rfl) fun _ hc => if_neg (Bool.not_not_eq.2 hc)
  case lostAgain => exact .of_row (f := oscinLost) (fun _ => rfl) fun _ hc => if_pos hc
  case returned => exact .of_row (f := oscinReturned) (fun _ => rfl) fun _ hc => if_neg hc
  case pllLost => exact .of_row (f := corePllLost) (fun _ => rfl) fun _ hc => if_pos hc
  case pllLostAgain => exact .of_row (f := corePllLost) (fun _ => rfl) fun _ hc => if_neg hc
  case relocked => exact .of_row (f := corePllRelocked) (fun _ => rfl) fun _ hc => if_pos hc
  case measured => exact fun hz => .of_row (f := ringOscillatorMeasurement hz) (fun _ => rfl) fun _ hc => if_pos hc
  case railUv => exact fun r mv mw hr => .of_object_row (railUv r mv mw) (fun _ => rfl) hr fun _ hc => if_pos hc
  case railOv => exact fun r mv mw hr => .of_object_row (railOv r mv mw) (fun _ => rfl) hr fun _ hc => if_pos hc
  case converted => exact fun s reading hs => .of_object_row (tempConversion s reading) (fun _ => rfl) hs fun _ hc => if_neg hc
  case tjHigh =>
    refine fun s t hs => .of_object_row (tjHigh s) (fun _ => rfl) hs fun d ⟨hsince, hcool⟩ => ?_
    simp only [tjHigh, hsince]
    exact if_neg hcool
  case tjCrit =>
    refine fun s t hs => .of_object_row (tjCrit s) (fun _ => rfl) hs fun d ⟨hsince, hcool⟩ => ?_
    simp only [tjCrit, hsince]
    exact if_neg hcool
  case switchStart =>
    refine .of_row (f := domainSwitchStart) (fun _ => rfl) fun d ⟨hnone, hwaits⟩ => ?_
    exact (if_neg (by simpa using hnone)).trans (if_neg hwaits)
  case switchDone =>
    refine fun q => .of_row (f := switchDone) (fun _ => rfl) fun d hcur => ?_
    simp only [switchDone, hcur]
  case switchFail =>
    refine fun q => .of_row (f := switchFail) (fun _ => rfl) fun d ⟨hcur, hon⟩ => ?_
    simp only [switchFail, hcur]
    exact if_pos hon
  case vddo => exact fun bank mv hb => .of_object_row (vddoLevel bank mv) (fun _ => rfl) hb fun _ hc => if_pos hc

end Sys2Proof.Machine
